-- ==== Sys2Proof/Word.lean ====
section
/-! DEFINITION. The word types of the model: bytes of memory, sparse tables of plain data. -/
namespace Sys2Proof

/-- A byte of on-chip memory. -/
abbrev Byte := BitVec 8

/-- Sparse plain data by key: what is not listed stands at the default its reader names. -/
abbrev Tab (κ ν : Type) := List (κ × ν)

end Sys2Proof
end

