-- ==== Sys2Proof/Machine/Bits.lean ====
section
/-! DEFINITION. Bit fields, sign extension, rounding, saturation and sparse-table look-up: the plain helpers of every
operation of the block. -/
namespace Sys2Proof.Machine

/-- The value listed for a key. -/
def tabGet {κ ν : Type} [DecidableEq κ] : Tab κ ν → κ → Option ν
  | [], _ => none
  | (k, v) :: t, q => if k = q then some v else tabGet t q

/-- List a value for a key, in place of the one listed before. -/
def tabSet {κ ν : Type} [DecidableEq κ] : Tab κ ν → κ → ν → Tab κ ν
  | [], q, w => [(q, w)]
  | (k, v) :: t, q, w => if k = q then (k, w) :: t else (k, v) :: tabSet t q w

/-- Take a key off the table. -/
def tabDel {κ ν : Type} [DecidableEq κ] : Tab κ ν → κ → Tab κ ν
  | [], _ => []
  | (k, v) :: t, q => if k = q then tabDel t q else (k, v) :: tabDel t q

/-- Change every listed value. -/
def tabMap {κ ν : Type} (t : Tab κ ν) (f : ν → ν) : Tab κ ν := t.map (fun p => (p.1, f p.2))

/-- Bits [lo + w - 1 : lo] of a word. -/
def bitsAt (v lo w : Nat) : Nat := v / 2 ^ lo % 2 ^ w

/-- Bit i of a word. -/
def bitAt (v i : Nat) : Bool := v / 2 ^ i % 2 == 1

/-- A word with bits [lo + w - 1 : lo] replaced. -/
def putBits (v lo w x : Nat) : Nat :=
  v % 2 ^ lo + (x % 2 ^ w) * 2 ^ lo + v / 2 ^ (lo + w) * 2 ^ (lo + w)

/-- A word with bit i set. -/
def setBit (v i : Nat) : Nat := if bitAt v i then v else v + 2 ^ i

/-- A word with bit i cleared. -/
def clearBit (v i : Nat) : Nat := if bitAt v i then v - 2 ^ i else v

/-- The w-bit two's-complement reading of a word (R8). -/
def signedOf (w v : Nat) : Int :=
  if v % 2 ^ w < 2 ^ (w - 1) then (v % 2 ^ w : Nat) else ((v % 2 ^ w : Nat) : Int) - (2 ^ w : Nat)

/-- The low w bits of an integer, as stored in a register. -/
def wrapTo (w : Nat) (i : Int) : Nat := (i % (2 ^ w : Nat)).toNat

/-- Limit an integer to [lo, hi]. -/
def clampInt (lo hi i : Int) : Int := if i < lo then lo else if hi < i then hi else i

/-- Limit a natural number to [lo, hi]. -/
def clampNat (lo hi i : Nat) : Nat := if i < lo then lo else if hi < i then hi else i

/-- The nearest value a signed w-bit register holds. -/
def saturate (w : Nat) (i : Int) : Int := clampInt (-(2 ^ (w - 1) : Nat)) ((2 ^ (w - 1) : Nat) - 1) i

/-- Division rounding to nearest, halves away from zero (R363). -/
def divRound (a b : Int) : Int :=
  if b = 0 then 0
  else if (a < 0) = (b < 0) then (2 * a.natAbs + b.natAbs) / (2 * b.natAbs) else -((2 * a.natAbs + b.natAbs) / (2 * b.natAbs) : Int)

/-- Sign of an integer, +1 for 0. -/
def signOf (i : Int) : Int := if i < 0 then -1 else 1

/-- One Newton step of the integer square root, fuel steps. -/
def isqrtFrom : Nat → Nat → Nat → Nat
  | 0, _, x => x
  | fuel + 1, n, x =>
    let y := (x + n / (if x = 0 then 1 else x)) / 2
    if x ≤ y then x else isqrtFrom fuel n y

/-- The integer square root, rounded down. -/
def isqrt (n : Nat) : Nat := if n = 0 then 0 else isqrtFrom (Nat.log2 n + 2) n (2 ^ (Nat.log2 n / 2 + 1))

/-- The length of the vector (a, b), rounded down. -/
def vecLen (a b : Int) : Nat := isqrt (a.natAbs * a.natAbs + b.natAbs * b.natAbs)

/-- The bit set as a list of the positions below n that are 1. -/
def bitList (n v : Nat) : List Nat := (List.range n).filter (bitAt v)

/-- The word whose bits are the members of a list (repeats count once). -/
def maskOf (l : List Nat) : Nat := l.foldl setBit 0

/-- One bit of a CRC-32 with polynomial 0x04C11DB7 (R432, R450). -/
def crcBit (c : Nat) (b : Bool) : Nat :=
  let top := bitAt c 31 != b
  let c := c * 2 % 2 ^ 32
  if top then c ^^^ 0x04C11DB7 else c

/-- The bits of a that are not in b. -/
def maskMinus (a b : Nat) : Nat := a - (a &&& b)

end Sys2Proof.Machine
end

