-- ==== Sys2Proof/Machine/Sha.lean ====
section
/-! DEFINITION. The digest of an image slot (R494, R495): SHA-256 over whole words as the slot stores them, least significant
byte first. R494 names the function and leaves it to its standard; its constants are computed here from what defines them, the
roots of the first primes. -/
namespace Sys2Proof.Machine

/-! ### Constants -/

/-- The first 64 primes: those up to 311. -/
def primes : List Nat := (List.range 312).filter (fun n => decide (1 < n) && (List.range n).all (fun k => decide (k < 2) || n % k != 0))

/-- The largest x below 2^bits with x^k ≤ n, found bit by bit from the highest one down. -/
def rootOf (k n : Nat) : Nat → Nat → Nat
  | 0, x => x
  | bits + 1, x => rootOf k n bits (if (x + 2 ^ bits) ^ k ≤ n then x + 2 ^ bits else x)

/-- The first 32 bits of the fraction of the k-th root of n. -/
def rootBits (k n : Nat) : Nat := rootOf k (n * 2 ^ (32 * k)) 40 0 % 2 ^ 32

/-- What is added in each of the 64 steps. -/
def stepAddends : List Nat := primes.map (rootBits 3)

/-! ### The step -/

/-- The exclusive or of a word turned right by each of some amounts. -/
def turned (x : Nat) (by_ : List Nat) : Nat := by_.foldl (fun y r => y ^^^ (x / 2 ^ r + x * 2 ^ (32 - r) % 2 ^ 32)) 0

/-- The hash as it runs: two chains of four words, and the next 16 words of the message, each with its newest or next one
first. -/
structure Hashing where
  /-- The chain a, b, c, d. -/
  upper : List Nat
  /-- The chain e, f, g, h. -/
  lower : List Nat
  /-- The message words to come. -/
  ahead : List Nat
deriving DecidableEq, Repr

/-- Word i of a chain. -/
def nth (l : List Nat) (i : Nat) : Nat := l.getD i 0

/-- One step with its addend: each chain takes a new word, and the message is continued by one. -/
def Hashing.next (s : Hashing) (k : Nat) : Hashing :=
  let u := nth s.upper
  let l := nth s.lower
  let m := nth s.ahead
  let pick := (l 0 &&& l 1) ||| ((l 0 ^^^ 0xFFFFFFFF) &&& l 2)
  let most := (u 0 &&& u 1) ||| (u 2 &&& (u 0 ||| u 1))
  let enter := l 3 + turned (l 0) [6, 11, 25] + pick + k + m 0
  let more := m 0 + (turned (m 1) [7, 18] ^^^ m 1 / 8) + m 9 + (turned (m 14) [17, 19] ^^^ m 14 / 1024)
  { upper := (enter + turned (u 0) [2, 13, 22] + most) % 2 ^ 32 :: s.upper.take 3,
    lower := (u 3 + enter) % 2 ^ 32 :: s.lower.take 3,
    ahead := s.ahead.drop 1 ++ [more % 2 ^ 32] }

/-- A block of 16 message words goes into the two chains. -/
def absorb (chains : List Nat × List Nat) (block : List Nat) : List Nat × List Nat :=
  let s := stepAddends.foldl Hashing.next { upper := chains.1, lower := chains.2, ahead := block }
  let sum := fun (a b : List Nat) => (a.zip b).map (fun x => (x.1 + x.2) % 2 ^ 32)
  (sum chains.1 s.upper, sum chains.2 s.lower)

/-- The first n blocks of a message go in. -/
def absorbAll : Nat → List Nat → List Nat × List Nat → List Nat × List Nat
  | 0, _, c => c
  | n + 1, ws, c => absorbAll n (ws.drop 16) (absorb c (ws.take 16))

/-! ### The digest -/

/-- The bytes of a word in reverse order. -/
def swapBytes (w : Nat) : Nat := w % 2 ^ 8 * 2 ^ 24 + w / 2 ^ 8 % 2 ^ 8 * 2 ^ 16 + w / 2 ^ 16 % 2 ^ 8 * 2 ^ 8 + w / 2 ^ 24 % 2 ^ 8

/-- SHA-256 of whole words stored little-endian; the digest in the same form. The message is followed by a one bit, zeros, and
its length in bits as 64 bits, up to whole blocks of 16 words. -/
def sha256 (ws : List Nat) : List Nat :=
  let len := ws.length
  let blocks := (len + 3 + 15) / 16
  let text := ws.map swapBytes ++ 0x80000000 :: List.replicate (16 * blocks - len - 3) 0 ++ [32 * len / 2 ^ 32, 32 * len % 2 ^ 32]
  let first := (primes.take 8).map (rootBits 2)
  let (u, l) := absorbAll blocks text (first.take 4, first.drop 4)
  (u ++ l).map swapBytes

end Sys2Proof.Machine
end

