-- ==== Sys2Proof/Machine/Ecdsa.lean ====
section
/-! DEFINITION. ECDSA over the curve P-256, as Meridian verifies the signature of an image slot (R494, R495). -/
namespace Sys2Proof.Machine

/-- The field prime of P-256. -/
def p256P : Nat := 0xffffffff00000001000000000000000000000000ffffffffffffffffffffffff
/-- The order of the group. -/
def p256N : Nat := 0xffffffff00000000ffffffffffffffffbce6faada7179e84f3b9cac2fc632551
/-- The coefficient b; the coefficient a is −3. -/
def p256B : Nat := 0x5ac635d8aa3a93e7b3ebbd55769886bc651d06b0cc53b0f63bce3c3e27d2604b
/-- The base point. -/
def p256G : Nat × Nat :=
  (0x6b17d1f2e12c4247f8bce6e563a440f277037d812deb33a0f4a13945d898c296,
   0x4fe342e2fe1a7f9b8ee7eb4a7c0f9e162bce33576b315ececbb6406837bf51f5)

/-- b^e mod m over the `bits` low bits of e. -/
def powMod (b m : Nat) : Nat → Nat → Nat
  | 0, _ => 1 % m
  | bits + 1, e =>
    let h := powMod b m bits (e / 2)
    if e % 2 = 1 then h * h % m * b % m else h * h % m

/-- The inverse modulo a prime. -/
def invMod (a m : Nat) : Nat := powMod (a % m) m 256 (m - 2)

/-- A point of the curve; none is the point at infinity. -/
abbrev Pt := Option (Nat × Nat)

/-- The point on a line of slope l through (x1, y1) and a second point of abscissa x2. -/
def ptThird (l x1 y1 x2 : Nat) : Pt :=
  let p := p256P
  let x := (l * l + 2 * p - x1 - x2) % p
  some (x, (l * (x1 + p - x) + p - y1) % p)

/-- The sum of two points. -/
def ptAdd (a b : Pt) : Pt :=
  let p := p256P
  match a, b with
  | none, q => q
  | q, none => q
  | some (x1, y1), some (x2, y2) =>
    if x1 = x2 then
      if (y1 + y2) % p = 0 then none
      else ptThird ((3 * x1 * x1 + p - 3) * invMod (2 * y1) p % p) x1 y1 x2
    else ptThird ((y2 + p - y1) * invMod (x2 + p - x1) p % p) x1 y1 x2

/-- The multiple of a point by the `bits` low bits of k. -/
def ptMul (g : Pt) : Nat → Nat → Pt
  | 0, _ => none
  | bits + 1, k =>
    let h := ptMul g bits (k / 2)
    if k % 2 = 1 then ptAdd (ptAdd h h) g else ptAdd h h

/-- A public key is a point of the curve. -/
def onCurve (x y : Nat) : Bool :=
  decide (x < p256P) && decide (y < p256P) && (y * y) % p256P == (x * x * x + (p256P - 3) * x + p256B) % p256P

/-- A signature (r, s) verifies over a digest with the key (x, y). -/
def ecdsaOk (e r s x y : Nat) : Bool :=
  let n := p256N
  if r = 0 ∨ n ≤ r ∨ s = 0 ∨ n ≤ s ∨ !onCurve x y then false
  else
    let w := invMod s n
    match ptAdd (ptMul (some p256G) 256 (e * w % n)) (ptMul (some (x, y)) 256 (r * w % n)) with
    | some (px, _) => px % n == r
    | none => false

/-- The big-endian number in eight words stored little-endian. -/
def bigEndian (ws : List Nat) : Nat := ws.foldl (fun v w => v * 2 ^ 32 + swapBytes w) 0

end Sys2Proof.Machine
end

