-- ==== Sys2Proof/Config.lean ====
section
/-! DEFINITION. What one piece of silicon fixes and the spec does not state: constants without a body, so that no
proof can see what they are (log entry 1). -/
namespace Sys2Proof

/-- The value that stands where the spec states none; applied to the counter `Dev.freeCtr`, so each use is fresh. -/
opaque Config.freeValue : Nat → Nat

/-- DEV_MROM.MROM_VER less one: the version of the mask ROM is a non-zero identifier (R485). -/
opaque Config.mromVersion : Nat

/-- The error the macro-operations of the lanes may show below the bound the spec gives (R370): operation, operands. -/
opaque Config.macroError : Nat → Int → Int → Int

/-- The error signal, in Q2.30, that the tracking loop of the high-frequency injection forms from the difference of i_q
between two ticks and the injected voltage: the spec says only that it is proportional to sin 2(θ − θ_h) (R258). -/
opaque Config.hfiError : Int → Int → Int

/-- The number of cells of the boundary register: the spec names the pins it covers, not its cells (R583). -/
opaque Config.boundaryCells : Nat

end Sys2Proof
end

