-- ==== Sys2Proof/Machine/Page.lean ====
section
/-! DEFINITION. The register pages (R53 to R55), the access codes of a field (R14) and the descriptor of one field. -/
namespace Sys2Proof.Machine

/-- A present register page, by its mnemonic and instance (R55). -/
inductive Page
  | dev | time | chron | flt | otp | pst | bnk | pgr
  | smp (q : Nat)
  | hsp | mer | alm | gpio
  | lnk (m : Nat)
  | net
  | adc (c : Nat) | xck (p : Nat) | clu (c : Nat) | gln (g : Nat) | pwd (c : Nat)
  | xst
  | axb (n : Nat) | drv (n : Nat) | cur (n : Nat) | foc (n : Nat) | obs (n : Nat) | mot (n : Nat) | prf (n : Nat)
  | fb (n : Nat) | sup (n : Nat) | crv (n : Nat) | prg (n : Nat)
  | evp (k : Nat)
deriving DecidableEq, Repr

/-- The access codes of R14. -/
inductive Access
  | rw | ro | wo | w1c | rwt
deriving DecidableEq, Repr

/-- One field of a register table: its page, the offset of its register, its lowest bit, its width, its access code and
the value of its Reset column (R17). A 64-bit register is one field of 64 bits at its low offset (R12). -/
structure Fld where
  /-- The page of the field. -/
  pg : Page
  /-- The offset of its register in the page. -/
  off : Nat
  /-- Its lowest bit. -/
  lo : Nat
  /-- Its width in bits. -/
  w : Nat
  /-- Its access code. -/
  acc : Access
  /-- Its value after the release of RESET_N. -/
  rst : Nat
deriving DecidableEq, Repr

/-- The page index of a page (R19, R55). -/
def pageIndex : Page → Nat
  | .dev => 0x000 | .time => 0x001 | .chron => 0x002 | .flt => 0x003 | .otp => 0x004 | .pst => 0x005
  | .bnk => 0x006 | .pgr => 0x007 | .smp q => 0x008 + q | .hsp => 0x00A | .mer => 0x00B | .alm => 0x00C | .gpio => 0x00D
  | .lnk m => 0x010 + m | .net => 0x014 | .adc c => 0x020 + c | .xck p => 0x026 + p | .clu c => 0x030 + c
  | .gln g => 0x036 + g | .pwd c => 0x040 + c | .xst => 0x044
  | .axb n => 0x100 + 16 * n | .drv n => 0x101 + 16 * n | .cur n => 0x102 + 16 * n | .foc n => 0x103 + 16 * n
  | .obs n => 0x104 + 16 * n | .mot n => 0x105 + 16 * n | .prf n => 0x106 + 16 * n | .fb n => 0x107 + 16 * n
  | .sup n => 0x108 + 16 * n | .crv n => 0x109 + 16 * n | .prg n => 0x10A + 16 * n
  | .evp k => 0x280 + k

/-- The block type code of a page (R55). -/
def pageType : Page → Nat
  | .dev => 0x0001 | .time => 0x0002 | .chron => 0x0003 | .flt => 0x0004 | .otp => 0x0005 | .pst => 0x0006
  | .bnk => 0x0007 | .pgr => 0x0008 | .smp _ => 0x0009 | .hsp => 0x000A | .mer => 0x000B | .alm => 0x000C | .gpio => 0x000D
  | .lnk _ => 0x0010 | .net => 0x0011 | .adc _ => 0x0020 | .xck _ => 0x0021 | .clu _ => 0x0030
  | .gln _ => 0x0031 | .pwd _ => 0x0040 | .xst => 0x0041
  | .axb _ => 0x0100 | .drv _ => 0x0101 | .cur _ => 0x0102 | .foc _ => 0x0103 | .obs _ => 0x0104 | .mot _ => 0x0105
  | .prf _ => 0x0106 | .fb _ => 0x0107 | .sup _ => 0x0108 | .crv _ => 0x0109 | .prg _ => 0x010A | .evp _ => 0x0200

/-- The instance number of a page (R55). -/
def pageInstance : Page → Nat
  | .smp q => q | .lnk m => m | .adc c => c | .xck p => p | .clu c => c | .gln g => g | .pwd c => c
  | .axb n => n | .drv n => n | .cur n => n | .foc n => n | .obs n => n | .mot n => n | .prf n => n | .fb n => n
  | .sup n => n | .crv n => n | .prg n => n | .evp k => k
  | _ => 0

/-- The level of a page (R21). -/
def pageLevel : Page → Nat
  | .axb _ | .drv _ | .cur _ | .foc _ | .obs _ | .mot _ | .prf _ | .fb _ | .sup _ | .crv _ | .prg _ => 1
  | .clu _ | .adc _ => 2
  | .gln _ | .bnk => 3
  | .pwd _ => 4
  | .lnk _ | .net => 6
  | _ => 5

/-- The sub-page s of axis n, for the sub-pages that are present (R19, R54). -/
def axisPage (n : Nat) : Nat → Option Page
  | 0 => some (.axb n) | 1 => some (.drv n) | 2 => some (.cur n) | 3 => some (.foc n) | 4 => some (.obs n)
  | 5 => some (.mot n) | 6 => some (.prf n) | 7 => some (.fb n) | 8 => some (.sup n) | 9 => some (.crv n)
  | 10 => some (.prg n)
  | _ => none

/-- The page at a page index; absent indices have none (R54). -/
def pageAt (i : Nat) : Option Page :=
  if i < 0x008 then
    match i with
    | 0 => some .dev | 1 => some .time | 2 => some .chron | 3 => some .flt | 4 => some .otp | 5 => some .pst
    | 6 => some .bnk | _ => some .pgr
  else if i < 0x00A then some (.smp (i - 0x008))
  else if i < 0x00E then
    match i with
    | 0x00A => some .hsp | 0x00B => some .mer | 0x00C => some .alm | _ => some .gpio
  else if i < 0x010 then none
  else if i < 0x014 then some (.lnk (i - 0x010))
  else if i = 0x014 then some .net
  else if i < 0x020 then none
  else if i < 0x026 then some (.adc (i - 0x020))
  else if i < 0x029 then some (.xck (i - 0x026))
  else if i < 0x030 then none
  else if i < 0x036 then some (.clu (i - 0x030))
  else if i < 0x038 then some (.gln (i - 0x036))
  else if i < 0x040 then none
  else if i < 0x044 then some (.pwd (i - 0x040))
  else if i = 0x044 then some .xst
  else if i < 0x100 then none
  else if i < 0x280 then axisPage ((i - 0x100) / 16) ((i - 0x100) % 16)
  else if i < 0x28C then some (.evp (i - 0x280))
  else none

/-- The common header fields of every page (R61). -/
def pageEvent (p : Page) : Fld := ⟨p, 0x00C, 0, 32, .w1c, 0⟩
/-- PAGE_EVENT_EN (R61). -/
def pageEventEn (p : Page) : Fld := ⟨p, 0x010, 0, 32, .rw, 0⟩
/-- PAGE_STICKY (R61). -/
def pageSticky (p : Page) : Fld := ⟨p, 0x014, 0, 32, .w1c, 0⟩
/-- PAGE_COMMIT.COMMIT (R61). -/
def pageCommit (p : Page) : Fld := ⟨p, 0x018, 0, 1, .rw, 0⟩

/-- OWNER of bank b: the reset ownership of R397 until a write. -/
def resetOwner (b : Nat) : Nat :=
  if b < 4 then 2 else if b < 8 then 4 else if b < 12 then 5 else if b < 16 then 6 else if b < 24 then 3
  else if b < 28 then 5 else if b < 30 then 7 else 1

/-- Reset READERS of bank b (R397). -/
def resetReaders (b : Nat) : Nat := if b = 31 then 0x001E else 0x0002

/-- The entry index, code, kind and default reaction of one row of the fault catalogue (R535). Kinds: 0 event,
1 condition, 2 latched, 3 barring. Reactions: 0 report only, 1 hold, 2 ramp stop, 3 short-brake stop, 4 immediate
bridge off. -/
structure FaultRow where
  /-- The reaction-table entry. -/
  entry : Nat
  /-- The fault code. -/
  code : Nat
  /-- The kind of R533. -/
  kind : Nat
  /-- The default reaction. -/
  react : Nat
deriving DecidableEq, Repr

/-- The fault catalogue (R535), entries 0 to 47. -/
def faultCatalogueLow : List FaultRow :=
  [⟨0, 0x1123, 3, 0⟩, ⟨1, 0x1201, 2, 4⟩, ⟨2, 0x1202, 2, 4⟩, ⟨3, 0x1203, 2, 4⟩, ⟨4, 0x1204, 2, 4⟩, ⟨5, 0x1205, 2, 4⟩,
   ⟨6, 0x1206, 2, 2⟩, ⟨7, 0x1207, 2, 3⟩, ⟨8, 0x1306, 2, 0⟩, ⟨9, 0x1401, 2, 3⟩, ⟨10, 0x1402, 2, 3⟩, ⟨11, 0x1403, 3, 0⟩,
   ⟨12, 0x1501, 2, 3⟩, ⟨13, 0x1502, 2, 2⟩, ⟨14, 0x1601, 2, 0⟩, ⟨15, 0x1602, 2, 3⟩, ⟨16, 0x1603, 2, 0⟩, ⟨17, 0x1604, 2, 2⟩,
   ⟨18, 0x1605, 2, 2⟩, ⟨19, 0x1606, 2, 0⟩, ⟨20, 0x1701, 2, 4⟩, ⟨21, 0x1702, 2, 4⟩, ⟨22, 0x1703, 2, 4⟩, ⟨23, 0x1704, 2, 4⟩,
   ⟨24, 0x1705, 2, 4⟩, ⟨25, 0x1801, 2, 3⟩, ⟨26, 0x1802, 2, 0⟩, ⟨27, 0x1803, 2, 3⟩, ⟨28, 0x1804, 2, 3⟩, ⟨29, 0x1805, 2, 3⟩,
   ⟨30, 0x1901, 2, 2⟩, ⟨31, 0x1902, 2, 2⟩, ⟨32, 0x1903, 2, 0⟩, ⟨33, 0x2120, 0, 0⟩, ⟨34, 0x2121, 3, 0⟩, ⟨35, 0x2122, 3, 0⟩,
   ⟨36, 0x2124, 3, 0⟩, ⟨37, 0x2141, 3, 0⟩, ⟨38, 0x2301, 2, 0⟩, ⟨39, 0x2302, 0, 0⟩, ⟨40, 0x2303, 1, 0⟩, ⟨41, 0x2304, 2, 2⟩,
   ⟨42, 0x2305, 2, 4⟩, ⟨43, 0x2A01, 2, 3⟩, ⟨44, 0x3001, 2, 4⟩, ⟨45, 0x3130, 0, 0⟩, ⟨46, 0x3141, 3, 0⟩, ⟨47, 0x3A01, 2, 3⟩]

/-- The fault catalogue (R535), entries 48 to 86. -/
def faultCatalogueHigh : List FaultRow :=
  [⟨48, 0x3B01, 2, 0⟩, ⟨49, 0x3B02, 2, 0⟩, ⟨50, 0x4151, 3, 0⟩, ⟨51, 0x4201, 2, 3⟩, ⟨52, 0x4202, 2, 3⟩, ⟨53, 0x4203, 2, 4⟩,
   ⟨54, 0x4204, 2, 4⟩, ⟨55, 0x5001, 2, 2⟩, ⟨56, 0x5101, 3, 0⟩, ⟨57, 0x5102, 3, 0⟩, ⟨58, 0x5103, 3, 0⟩, ⟨59, 0x5104, 3, 0⟩,
   ⟨60, 0x5105, 3, 0⟩, ⟨61, 0x5106, 0, 0⟩, ⟨62, 0x5110, 0, 0⟩, ⟨63, 0x5111, 0, 0⟩, ⟨64, 0x5112, 0, 0⟩, ⟨65, 0x5125, 3, 0⟩,
   ⟨66, 0x5131, 3, 0⟩, ⟨67, 0x5140, 3, 0⟩, ⟨68, 0x5142, 3, 0⟩, ⟨69, 0x5150, 0, 0⟩, ⟨70, 0x5C01, 0, 0⟩, ⟨71, 0x5C02, 0, 0⟩,
   ⟨72, 0x5E01, 0, 0⟩, ⟨73, 0x5E02, 0, 0⟩, ⟨74, 0x5E03, 0, 0⟩, ⟨75, 0x5F01, 0, 0⟩, ⟨76, 0x5F02, 0, 0⟩, ⟨77, 0x5F03, 0, 0⟩,
   ⟨78, 0x5F04, 0, 0⟩, ⟨79, 0x6D01, 0, 0⟩, ⟨80, 0x6D02, 1, 0⟩, ⟨81, 0x6D03, 0, 0⟩, ⟨82, 0x6D04, 1, 0⟩, ⟨83, 0x6D05, 0, 0⟩,
   ⟨84, 0x6D06, 0, 0⟩, ⟨85, 0x6D07, 0, 0⟩, ⟨86, 0x6D08, 0, 0⟩]

/-- The fault catalogue (R535). -/
def faultCatalogue : List FaultRow := faultCatalogueLow ++ faultCatalogueHigh

/-- The catalogue row of a code. -/
def faultRow (code : Nat) : FaultRow := (faultCatalogue.find? (fun r => r.code == code)).getD ⟨127, code, 0, 0⟩

/-- The catalogue row of an entry index, when the index is used (R535). -/
def faultEntry? (e : Nat) : Option FaultRow := faultCatalogue.find? (fun r => r.entry == e)

/-- The default reaction of an entry: the reset value of FLT_REACT_e.REACT (R535). -/
def reactDefault (e : Nat) : Nat := ((faultEntry? e).map (·.react)).getD 0

end Sys2Proof.Machine
end

