-- ==== Sys2Proof/Machine/Units.lean ====
section
/-! DEFINITION. The state of the block as plain data: the register file, the typed state behind the registers, the
on-chip memory, and what survives a reset. -/
namespace Sys2Proof.Machine

/-- One chronograph entry (R548). -/
structure ChronEntry where
  /-- Device time of the event reported (R550). -/
  time : Nat
  /-- Level field (R548). -/
  level : Nat
  /-- Source field (R549). -/
  src : Nat
  /-- Instance field (R548). -/
  inst : Nat
  /-- Code (R532, R70). -/
  code : Nat
  /-- Data word of the code (R548). -/
  data : Nat
deriving DecidableEq, Repr

/-- One active pair of entry and instance (R533). -/
structure ActiveFault where
  /-- Reaction-table entry (R535). -/
  entry : Nat
  /-- Instance (R533). -/
  inst : Nat
  /-- Reaction it was raised with (R538). -/
  react : Nat
  /-- Stopped set, bit n for axis n (R534). -/
  stopped : Nat
  /-- Time of the last raise, first or repeated (R544). -/
  raisedAt : Nat
deriving DecidableEq, Repr

/-- A ramp-stop or hold reaction that waits for its boundary (R538). -/
structure Deferred where
  /-- Time of the raise. -/
  at_ : Nat
  /-- Reaction, 1 hold or 2 ramp stop. -/
  react : Nat
  /-- Axes it acts on. -/
  stopped : Nat
deriving DecidableEq, Repr

/-- A pending clear request (R544). -/
structure ClearReq where
  /-- ALL bit. -/
  all : Bool
  /-- Entry of a single clear. -/
  entry : Nat
  /-- Instance of a single clear. -/
  inst : Nat
  /-- Time of the write. -/
  at_ : Nat
  /-- Source number of the requester (R549). -/
  src : Nat
deriving DecidableEq, Repr

/-- A commit or swap request of a page (R30, R66, R386). -/
structure CommitReq where
  /-- The page. -/
  page : Page
  /-- Time of the request. -/
  at_ : Nat
  /-- Source number of the requester (R549). -/
  src : Nat
  /-- Instance of its records: the link of a network requester (R70). -/
  inst : Nat
  /-- Low 8 bits of the requester's STN (R70). -/
  stn : Nat
  /-- Slots whose coefficient banks it swaps; 0 for a PAGE_COMMIT (R386). -/
  swap : Nat
  /-- The parameter-store load requests it (R521): it writes no kind 2 record. -/
  load : Bool := false
deriving DecidableEq, Repr

/-- A command pending on AXB_CMD or PRF_CMD (R293, R307). -/
structure PendingCmd where
  /-- Command code. -/
  code : Nat
  /-- Time of the write. -/
  at_ : Nat
  /-- Source number of the requester (R549). -/
  src : Nat
deriving DecidableEq, Repr

/-- One current window of a plan (R168, R169, R173, R182). -/
structure Win where
  /-- Start, in 1.25 ns steps from t_v. -/
  start : Int
  /-- End, in 1.25 ns steps from t_v. -/
  stop : Int
  /-- Channel numbers in slot order, the bus channel last (R138). -/
  chans : List Nat
  /-- Phase a link window determines (0 U, 1 V, 2 W; 3 none), R169. -/
  phase : Nat
  /-- 1 when that current is minus the link reading, 0 when it equals it (R169). -/
  neg : Nat
deriving DecidableEq, Repr

/-- The tick snapshot of one axis (R29, R361). -/
structure Snap where
  /-- Counter of COMM_PORT. -/
  posComm : Int := 0
  /-- Counter of POS_PORT. -/
  posPos : Int := 0
  /-- FB_SPEED of COMM_PORT. -/
  speed : Int := 0
  /-- Electrical angle delivered by COMM_PORT. -/
  portAngle : Nat := 0
  /-- FB_STATUS word of COMM_PORT. -/
  fbStatus : Nat := 0
  /-- p_cmd, Q48.16. -/
  pCmd : Int := 0
  /-- Velocity output of the generator, Q28.4. -/
  vGen : Int := 0
  /-- Velocity feed-forward, Q28.4 POS_PORT counts/s. -/
  vFf : Int := 0
  /-- Commanded acceleration, counts/s². -/
  aCmd : Int := 0
  /-- Applied i_src, Q16.16 A. -/
  iSrc : Int := 0
  /-- Velocity reference v_ref before floor and clamp (R279), Q28.4. -/
  vRef : Int := 0
  /-- FOC_ID_CMD. -/
  idCmd : Int := 0
  /-- FOC_IQ_CMD. -/
  iqCmd : Int := 0
  /-- Axis word of input port 0x14. -/
  axisWord : Nat := 0
  /-- TICK_COUNT[31:0]. -/
  tick : Nat := 0
  /-- FOC_I_LIM_ACT. -/
  iLim : Int := 0
  /-- ADC_RES_0 to ADC_RES_15 of the cluster's bank. -/
  adcRes : List Nat := []
  /-- PRG_HOST_IN_0 to PRG_HOST_IN_7. -/
  hostIn : List Nat := []
  /-- PRG_OUT_0 to PRG_OUT_7. -/
  outs : List Nat := []
  /-- OBS_SPEED_CNT. -/
  obsSpeed : Int := 0
  /-- Speed of the angle of the observer block that the velocity loop runs on, Q28.4 counts/s (R251, R258). -/
  velSpeed : Int := 0
  /-- Observer angle. -/
  obsAngle : Nat := 0
  /-- OBS_POS. -/
  obsPos : Int := 0
  /-- Electrical speed of R191, Q16.16 rad/s. -/
  wE : Int := 0
  /-- Electrical angle of R191. -/
  theta : Nat := 0
  /-- Time of the boundary. -/
  time : Nat := 0
  /-- Excitation value x_k of the tick (R291). -/
  exc : Int := 0
  /-- v_ref of the ramp of R297, Q28.4. -/
  vStop : Int := 0
  /-- Phase currents, Q16.16 A. -/
  iPh : List Int := [0, 0, 0]
  /-- V_b of R108, Q16.16 V. -/
  vBus : Int := 0
  /-- Applied output of the POS slot, Q28.4 (port 0x11). -/
  vApp : Int := 0
deriving DecidableEq, Repr

/-- The DRV settings that the loads of an axis use (R111). -/
structure DrvUse where
  /-- OVERMOD. -/
  overmod : Bool := false
  /-- TWO_PHASE. -/
  twoPhase : Bool := false
  /-- BUS_FF. -/
  busFf : Bool := true
  /-- DT_COMP. -/
  dtComp : Bool := true
  /-- SHIFT_EN. -/
  shiftEn : Bool := true
  /-- BRAKE_SIDE: ALTERNATE. -/
  alternate : Bool := false
  /-- DEADTIME, in 1.25 ns steps. -/
  dead : Nat := 80
  /-- PULSE_MIN, in 1.25 ns steps. -/
  pulse : Nat := 80
  /-- OC_BLANK, in 1.25 ns steps. -/
  blank : Nat := 0
  /-- DT_BAND, Q16.16 A. -/
  band : Int := 0x3333
  /-- VBUS_NOM, Q16.16 V. -/
  nominal : Nat := 0x180000
deriving DecidableEq, Repr

/-- A loss of feedback with SUP_FB_LOSS.ACT 2 that waits for the boundary after it (R287, R288). -/
structure Fallback where
  /-- Time of the fault. -/
  at_ : Nat
  /-- No port but COMM_PORT was lost. -/
  comm : Bool
  /-- The most drastic reaction that the entries of the faults gave. -/
  own : Nat := 0
  /-- Angle of the last snapshot before the fault. -/
  theta : Nat := 0
  /-- ω_e of that snapshot, Q16.16 rad/s. -/
  wE : Int := 0
  /-- Boundary of that snapshot. -/
  time : Nat := 0
deriving DecidableEq, Repr

/-- The typed state of one axis behind its DRV, CUR, FOC, OBS, MOT, SUP and AXB pages. -/
structure Axis where
  /-- Bridge as commanded: 0 HIZ, 1 PWM, 2 SHORT_LO, 3 SHORT_HI, 4 BRAKE_OFF (R127; TRIPPED and DISABLED are read over it). -/
  bridge : Nat := 0
  /-- Time at which the shorting switches close, in quarters of a ns: DRV_DEADTIME after all switches are off (R121 to R123). -/
  closeAt : Nat := 0
  /-- A change of the shorting side that is due: its time, in quarters of a ns, and the bridge state it brings (R123). -/
  sideTo : Option (Nat × Nat) := none
  /-- The side on which the short was when a regulation crossing opened it (R122, R123). -/
  openSide : Nat := 2
  /-- The DRV settings that the last load used, and a brake or a comparator uses until the next load (R111). -/
  drvUse : DrvUse := {}
  /-- Ports for which 0x1601 was raised on the axis, bit p for port p; a clear of it resumes them (R214). -/
  wirePorts : Nat := 0
  /-- A trip latched: the settings stay until the axis drives again (R111). -/
  drvHeld : Bool := false
  /-- Commanded level of each phase, and the time of its last commanded edge in quarters of a ns, when the standing vector
  was loaded (R104, R117). -/
  ran : List (Bool × Int) := [(true, 0), (true, 0), (true, 0)]
  /-- Time since which the bridge has been SHORT_LO without interruption (R267). -/
  lowSince : Nat := 0
  /-- A commanded brake waits for the next valley with the bridge still switching (R121). -/
  brakeWait : Bool := false
  /-- All switches are off for the dead time or after a regulation opening until the next valley or peak (R122). -/
  regOpen : Bool := false
  /-- A regulation crossing occurred in the present low-side tick (R123). -/
  regTick : Bool := false
  /-- A regulation opening occurred in the present tick (R267). -/
  regSeen : Bool := false
  /-- Time since which the bridge state has been HIZ, TRIPPED or DISABLED without interruption (R183). -/
  offSince : Nat := 0
  /-- Every bootstrap of the axis has been precharged (R97). -/
  bootOk : Bool := false
  /-- Duty vector before compensation of the previous load, Q2.30 (R110). -/
  lastVec : List Int := [536870912, 536870912, 536870912]
  /-- Duty vector the program of the tick committed (R110, R362). -/
  newVec : Option (List Int) := none
  /-- Last committed duty of each phase (R362). -/
  comDuty : List Int := [536870912, 536870912, 536870912]
  /-- Low-pulse halves before and after the valley, in 1.25 ns steps, phases U, V, W (R103). -/
  before : List Int := [0, 0, 0]
  /-- Low-pulse halves after the valley. -/
  after : List Int := [0, 0, 0]
  /-- Last valid bus measurement, Q16.16 V (R108); none before the first. -/
  busValid : Option Nat := none
  /-- Consecutive ticks without a valid bus measurement (R108). -/
  busStale : Nat := 0
  /-- Consecutive ticks on which the bus was out of range (R126, external axes). -/
  busOut : Nat := 0
  /-- The bus of an external axis was below range and has not reached the hysteresis level (R126). -/
  busLow : Bool := false
  /-- Kind of the plan of the tick: 0 NONE, 1 LEGS3, 2 LEGS2, 3 LINKS, 4 PASSIVE (R165). -/
  plan : Nat := 4
  /-- Windows of that plan. -/
  wins : List Win := []
  /-- The plan was formed under R588 and does not count towards STALE_LIMIT. -/
  planFree : Bool := false
  /-- The bridge left PWM since the plan was formed (R179). -/
  planLost : Bool := false
  /-- The valley t_v on which the planned interval is centred, in quarters of a ns (R165). -/
  planTv : Nat := 0
  /-- The carrier period of that interval, in 1.25 ns steps. -/
  planTc : Nat := 0
  /-- The windows of the plan are still to be delivered (R177). -/
  planOpen : Bool := false
  /-- Shifts of the planned interval, in 1.25 ns steps (R112, R114). -/
  shift : List Int := [0, 0, 0]
  /-- Gain codes of the axis's current channels when the plan was formed (R163, R166). -/
  planGain : Nat := 0
  /-- CUR_SUM_TOL of the plan (R166, R180). -/
  planTol : Int := 0x8000
  /-- STALE_LIMIT of the plan (R166, R178). -/
  planStaleLim : Nat := 4
  /-- SUM_N of the plan (R166, R180). -/
  planSumN : Nat := 8
  /-- Channels whose records of the present plan are marked SETTLE (R147). -/
  planSettle : List Nat := []
  /-- Window channels whose next records are marked SETTLE, and how many of them (R147). -/
  winSettle : Tab Nat Nat := []
  /-- Consecutive stale ticks in PWM (R178). -/
  staleRun : Nat := 0
  /-- Consecutive sum-error ticks (R180). -/
  sumRun : Nat := 0
  /-- Offset measurement in progress: ticks taken (R184). -/
  ofsCount : Nat := 0
  /-- Sums of the records of the four sense channels, in Q16.16 A (R184). -/
  ofsSum : List Int := [0, 0, 0, 0]
  /-- Boundary number at which the last offset measurement started (R184). -/
  ofsStart : Option Nat := none
  /-- Sense offsets are pending from start-up (R85). -/
  ofsPending : Bool := false
  /-- How many records of each sense channel those sums hold. -/
  ofsNum : List Nat := [0, 0, 0, 0]
  /-- The sense-channel records of the last tick, formed without an offset, when that tick was at rest (R183, R184). -/
  ofsTick : Option (List (Option Int)) := none
  /-- Offsets that apply at the next boundary (R184). -/
  ofsNew : Option (List Int) := none
  /-- I²t state y in A², Q32.32 (R196). -/
  i2t : Int := 0
  /-- Magnitude of the measured currents of the last measured tick, squared, Q32.32 A² (R196). -/
  idq2 : Int := 0
  /-- An FOC_INT_RESET waits for the next program run (R200). -/
  focReset : Bool := false
  /-- The current program run that has started begins with an FOC_INT_RESET (R200). -/
  focResetRun : Bool := false
  /-- A MOT_INT_RESET waits for the next velocity run (R283). -/
  velReset : Bool := false
  /-- A MOT_INT_RESET waits for the next position run (R283). -/
  posReset : Bool := false
  /-- Consecutive tracking-error ticks (R206). -/
  trackRun : Nat := 0
  /-- The thermal limit is 0 and 0x1502 has been raised for it (R207). -/
  thermZero : Bool := false
  /-- Ticks since the last committed run of the current program (R248). -/
  sinceRun : Nat := 1
  /-- v_prev: voltage vector of the previous committed run, Q16.16 V (R248). -/
  vPrev : List Int := [0, 0]
  /-- Observer current estimate î, Q16.16 A (R248). -/
  iHat : List Int := [0, 0]
  /-- Observer integral w_int, Q16.16 rad/s (R248). -/
  wInt : Int := 0
  /-- Forced angle θ_f (R252). -/
  thF : Nat := 0
  /-- HFI angle θ_h (R258). -/
  thH : Nat := 0
  /-- HFI speed ω̂_h, Q16.16 rad/s (R258). -/
  wH : Int := 0
  /-- HFI loop integral (R258). -/
  wHInt : Int := 0
  /-- i_q of the previous HFI tick (R258). -/
  hfiIq : Int := 0
  /-- Start direction σ, +1 or −1 (R252). -/
  sigma : Int := 1
  /-- Device time at which the present phase began. -/
  phaseAt : Nat := 0
  /-- Device time at which the handover speed was first reached (R254, R258). -/
  handAt : Option Nat := none
  /-- Synchronisation that the first run in RUN applies (R262): θ_c, ω_c (Q16.16 rad/s), t_M, e_a and e_b (Q16.16 V). -/
  sync : Option (Nat × Int × Nat × Int × Int) := none
  /-- The start direction is taken from the snapshot of this boundary (R252). -/
  sigmaInit : Bool := false
  /-- Boundary of the first run of BLEND (R255). -/
  blendAt : Nat := 0
  /-- BLEND runs from the HFI angle (R258). -/
  blendHfi : Bool := false
  /-- Sum and number of the rises of |i_d| in the two pulses of POLARITY (R258, log entry 11). -/
  polRise : List (Nat × Nat) := [(0, 0), (0, 0)]
  /-- i_d of the previous run in POLARITY (R258). -/
  polId : Int := 0
  /-- Consecutive agreeing ticks (R254). -/
  agreeRun : Nat := 0
  /-- Loss or disagreement count (R255, R264). -/
  lossRun : Nat := 0
  /-- Consecutive ticks in TRACK (R264). -/
  trackTicks : Nat := 0
  /-- Samples of the flying start: time, e_a, e_b, span of the phase voltages (R259, R260). -/
  samples : List (Nat × Int × Int × Int) := []
  /-- State a decided catch, loss or brake end takes at the next boundary: state code, phase code, cause (R261, R267). -/
  nextState : Option (Nat × Nat × Nat) := none
  /-- Counted brake-measured ticks below the threshold (R267). -/
  brakeRun : Nat := 0
  /-- The end count of a stop-purpose brake has been reached at this time (R267). -/
  brakeDone : Option Nat := none
  /-- Fraction of OBS_POS below a count, in 2^-32 counts (R251). -/
  obsFrac : Int := 0
  /-- Angle in use of the last run (R251). -/
  angUse : Nat := 0
  /-- A reaction ends the present brake, catch or stop in FAULT (R267, R295). -/
  toFault : Bool := false
  /-- STOP_HOLD or a hold reaction ends the present stop in RUN frozen (R295, R298). -/
  toFrozen : Bool := false
  /-- A hold reaction freezes the input once the segment in execution completes (R298). -/
  holdPend : Bool := false
  /-- v_ref of the stop ramp, Q28.4 (R297). -/
  stopRef : Int := 0
  /-- v_ref of the last velocity run of this RUN; none before the first (R297). -/
  lastVref : Option Int := none
  /-- Boundaries that met the end test of the stop in a row (R297). -/
  stopRun : Nat := 0
  /-- The first stop boundary's snapshot still sets the start of a TORQUE ramp (R297). -/
  stopInit : Bool := false
  /-- Device time at which the stop began (R295). -/
  stopAt : Nat := 0
  /-- Axis command waiting for its boundary (R293). -/
  cmd : Option PendingCmd := none
  /-- Output of the velocity program that applies at the next boundary (R277, R362). -/
  velOut : Option Int := none
  /-- Output of the position program that applies at the next boundary. -/
  posOut : Option Int := none
  /-- Applied velocity reference, the output of the POS slot, Q28.4 (R277). -/
  vRefApp : Int := 0
  /-- Consecutive overruns of the four slots (R289). -/
  ovrRun : List Nat := [0, 0, 0, 0]
  /-- Consecutive freeze ticks on COMM_PORT and on POS_PORT (R286). -/
  frzComm : Nat := 0
  /-- Consecutive freeze ticks on POS_PORT. -/
  frzPos : Nat := 0
  /-- Counter of COMM_PORT at the previous boundary (R286). -/
  lastComm : Int := 0
  /-- Counter of POS_PORT at the previous boundary. -/
  lastPos : Int := 0
  /-- Consecutive boundaries above SUP_V_TRIP (R290). -/
  speedRun : Nat := 0
  /-- An observer fallback is due at the boundary after a loss of feedback (R288). -/
  fallDue : Option Fallback := none
  /-- Ticks of the running excitation (R291). -/
  excK : Nat := 0
  /-- Phase of the excitation, full turn 2^32 (R291). -/
  excPhi : Nat := 0
  /-- An excitation starts at the next boundary (R291). -/
  excStart : Bool := false
  /-- p_fb when the excitation started (R292). -/
  excBase : Int := 0
  /-- The running current program of the tick has been started, finished or cut off: 0 waiting, 1 running, 2 done (R377). -/
  curRun : Nat := 2
  /-- The current program of the tick that ended is not done and its deadline is still to come: the snapshot it reads, and
  that deadline in quarters of a ns (R29, R40). -/
  curKeep : Option (Snap × Nat × List (Fld × Nat)) := none
  /-- Tick snapshot (R29). -/
  snap : Snap := {}
deriving DecidableEq, Repr

/-- The filter and comparator state of one sequence entry (R146 to R148). -/
structure SeqEntry where
  /-- Latest conversions, newest first (R146). -/
  hist : List Int := []
  /-- IIR value in units of 2^-16 code; none after a restart (R146). -/
  iir : Option Int := none
  /-- Records still to be marked SETTLE (R147). -/
  settle : Nat := 0
  /-- Comparator state: none unknown, some true inside (R148). -/
  inside : Option Bool := none
deriving DecidableEq, Repr

/-- One pending or running injected conversion (R140). -/
structure Injection where
  /-- Time of the trigger. -/
  at_ : Nat
  /-- Channel it converts, fixed at the trigger. -/
  chan : Nat
  /-- Gain code, fixed at the trigger. -/
  gain : Nat
  /-- Sampling time code, fixed at the trigger. -/
  ts : Nat
deriving DecidableEq, Repr

/-- What a rotation start is given to (R137). -/
inductive Job
  | /-- Channel slot j of window w of axis n. -/ window (n w j : Nat)
  | /-- Nobody: the turn of window w of axis n was lost (R129, R138). -/ lost (n w : Nat)
  | /-- Injection slot i. -/ inject (i : Nat)
  | /-- Conversion i of the cross-check: 0 to 3 of channel 0x3F, 4 to 7 of channel 0x3E. -/ cross (i : Nat)
  | /-- Channel i of the supervision scan. -/ scan (i : Nat)
  | /-- Entry e of the sequence. -/ entry (e : Nat)
  | /-- A step of the foreground calibration. -/ step
deriving DecidableEq, Repr

/-- A conversion that the rotation has started; its times are in quarters of a nanosecond. -/
structure Conv where
  /-- What it converts for. -/
  job : Job
  /-- Start of its sampling phase. -/
  start : Nat
  /-- End of its sampling phase. -/
  held : Nat
  /-- Its end. -/
  stop : Nat
  /-- The slice that makes it. -/
  slice : Nat
  /-- Filter and K of its entry at its start (R145). -/
  filt : Nat × Nat := (0, 0)
  /-- The filter of its entry as it was before a commit changed the entry after the start (R145, R147). -/
  was : Option SeqEntry := none
deriving DecidableEq, Repr

/-- The rotation of a converter bank (R129, R137, R138, R140). -/
structure Rotation where
  /-- The next start, in quarters of a nanosecond. -/
  next : Nat := 0
  /-- The slice whose turn it is. -/
  slice : Nat := 0
  /-- The latest conversion of each slice. -/
  runs : Tab Nat Conv := []
  /-- Conversions and lost turns whose results have not been delivered, oldest first. -/
  given : List Conv := []
  /-- The windows open at the last start, by axis and number (R138). -/
  opens : List (Nat × Nat) := []
  /-- Starts since that set of windows opened. -/
  turn : Nat := 0
  /-- Entries of the running pass that are still to be started. -/
  entries : List Nat := []
  /-- Channels of the supervision scan that are still to be started. -/
  scan : List Nat := []
  /-- Conversions of the cross-check that are still to be started. -/
  cross : List Nat := []
  /-- Steps of the foreground calibration left for each slice (R150). -/
  steps : Tab Nat Nat := []
  /-- Injection slots whose conversions the foreground calibration waits for (R150). -/
  after : List Nat := []
deriving DecidableEq, Repr

/-- The typed state of a converter bank behind its ADC page. -/
structure AdcBank where
  /-- Entries' filters and comparators by entry number. -/
  entries : Tab Nat SeqEntry := []
  /-- A pass is running; the length at which it started (R144, R145). -/
  pass : Option Nat := none
  /-- Pending or running injections by slot (R140). -/
  inj : Tab Nat Injection := []
  /-- Time at which the supervision scan fell due and runs or waits; none when no scan is due (R149). -/
  scan : Option Nat := none
  /-- Time at which the last scan fell due (R149). -/
  scanLast : Option Nat := none
  /-- The late scan has been reported (R149). -/
  scanLate : Bool := false
  /-- The first scan has completed (R149). -/
  scanned : Bool := false
  /-- VBUSc out of range on this many consecutive ticks (R126). -/
  busOut : Nat := 0
  /-- The bus was below range and has not reached the hysteresis level (R126). -/
  busLow : Bool := false
  /-- Consecutive readings of each die sensor above PWD_TEMP_TRIP (R126). -/
  hot : List Nat := [0, 0, 0, 0, 0]
  /-- Time at which each retired slice is next retried (R132). -/
  retryAt : List Nat := [0, 0, 0, 0, 0]
  /-- A background calibration is under way, whatever BG_EN reads now (ADC_BGCAL). -/
  bgRun : Bool := true
deriving DecidableEq, Repr

/-- One program slot of an axis (R355, R384). -/
structure Slot where
  /-- PROG_ID of the slot: 0 empty, 1 CUR_FOC, 2 VEL_PI, 3 POS_PI, 0x8000 custom (R356). -/
  id : Nat
  /-- Instruction words of a custom program. -/
  code : List Nat := []
  /-- First word of the program in its lane's program memory (R381). -/
  base : Nat := 0
  /-- Parameter words P[0] to P[255], as listed; 0 elsewhere (R384). -/
  params : Tab Nat Nat := []
  /-- Coefficient bank A. -/
  bankA : Tab Nat Nat := []
  /-- Coefficient bank B. -/
  bankB : Tab Nat Nat := []
  /-- Bank B is the active bank (R384). -/
  active : Bool := false
  /-- GP bit that the program of the slot committed (R352, R362). -/
  gp : Bool := false
deriving DecidableEq, Repr

/-- An install or removal request of an axis (R380 to R382). -/
structure Install where
  /-- Slot it names. -/
  slot : Nat
  /-- Action: 1 custom, 2 stock, 3 remove. -/
  action : Nat
  /-- KEEP bit. -/
  keep : Bool
  /-- STOCK_ID of action 2. -/
  stock : Nat
  /-- Code words read by the loader. -/
  code : List Nat
  /-- First word of the range taken in program memory. -/
  base : Nat
  /-- Source number of the requester. -/
  src : Nat
  /-- Master through which the command arrived, numbered as an owner (R381, R395). -/
  master : Nat
  /-- Time of the judgement; none while copy and validation run (R381). -/
  judgedAt : Option Nat
deriving DecidableEq, Repr

/-- A lane of the loop engine (R354): programs waiting and the one that runs. -/
structure Lane where
  /-- Programs in the order in which they run: axis and slot; the head is the running one (R39, R378). -/
  queue : List (Nat × Nat) := []
  /-- The head of the queue has been started, at this device time. -/
  started : Option Nat := none
  /-- Busy cycles of the present tick (R391). -/
  busy : Nat := 0
  /-- Corrupted program-memory words: address and whether the error is uncorrectable (R387). -/
  bad : List (Nat × Bool) := []
  /-- Program ranges that hold an uncorrectable word since 0x2A01 or 0x3A01 was raised: axis and slot (R387). -/
  faulty : List (Nat × Nat) := []
deriving DecidableEq, Repr

end Sys2Proof.Machine
end

