-- ==== Sys2Proof/Machine/Ports.lean ====
section
/-! DEFINITION. The requesters of page accesses, and the typed state of the feedback ports, profile generators,
ephemerides, curves and event ports behind their register pages. -/
namespace Sys2Proof.Machine

/-- A requester of page accesses (R13, R64): Meridian, Almanac, the host port, or a Llyntal source address reached
through a link. -/
inductive Req
  | mer
  | alm
  | host
  | net (link stn : Nat)
deriving DecidableEq, Repr

/-- Source number of a requester (R70, R549). -/
def Req.src : Req → Nat
  | .mer => 0 | .alm => 1 | .host => 2 | .net _ _ => 3

/-- The order in which the writes of one system cycle apply (R60): Almanac, host port, network, Meridian. -/
def Req.rank : Req → Nat
  | .alm => 0 | .host => 1 | .net _ _ => 2 | .mer => 3

/-- Instance of the records of a requester: its link (R70). -/
def Req.inst : Req → Nat
  | .net m _ => m
  | _ => 0

/-- Low 8 bits of the STN of a network requester (R70). -/
def Req.stn : Req → Nat
  | .net _ a => a % 256
  | _ => 0

/-- Two names of one requester: a Llyntal source address counts whatever link it is reached through (R13). -/
def Req.same : Req → Req → Bool
  | .net _ a, .net _ b => a == b
  | a, b => a == b

/-- One segment of a plan: constant jerk for a time (R311, R313, R315). -/
structure Seg where
  /-- Duration, in 2^-18 ns. -/
  dur : Nat
  /-- Jerk, counts/s³. -/
  jerk : Int
  /-- PRF_STATUS.PHASE while it runs. -/
  ph : Nat
deriving DecidableEq, Repr

/-- A plan of the profile generator, in closed form from its start (R312). -/
structure Plan where
  /-- Boundary at which it was made. -/
  t0 : Nat
  /-- Position at t0, in 2^-32 counts. -/
  p0 : Int
  /-- Velocity at t0, in 2^-32 counts/s. -/
  v0 : Int
  /-- Acceleration at t0, in 2^-32 counts/s². -/
  a0 : Int
  /-- Its segments. -/
  segs : List Seg
  /-- Target: Q48.16 counts of a position plan, Q28.4 counts/s of a velocity plan. -/
  target : Int
deriving DecidableEq, Repr

/-- One ephemeris entry in the interpolator's buffer (R316, R317). -/
structure EphEntry where
  /-- END_POS, Q48.16 counts. -/
  pos : Int
  /-- END_VEL, Q28.4 counts/s. -/
  vel : Int
  /-- DUR, ticks. -/
  dur : Nat
  /-- FLAGS: bit 0 LAST, bit 1 EVENT, bit 2 WAIT. -/
  flags : Nat
  /-- TAG. -/
  tag : Nat
  /-- Device time at which the pager delivered it. -/
  at_ : Nat
  /-- The test of R317, made as the entry reached the buffer, found it invalid. -/
  bad : Bool := false
deriving DecidableEq, Repr

/-- The typed state of an axis's generators behind its PRF and CRV pages. -/
structure Profile where
  /-- Command waiting for its boundary (R307). -/
  cmd : Option PendingCmd := none
  /-- Generator position, in 2^-32 counts. -/
  p : Int := 0
  /-- Generator velocity, in 2^-32 counts/s. -/
  v : Int := 0
  /-- Generator acceleration, in 2^-32 counts/s². -/
  a : Int := 0
  /-- The plan in execution. -/
  plan : Option Plan := none
  /-- The state of R308 is taken at the next boundary. -/
  init : Bool := false
  /-- A limit changed during a move: replan (R313). -/
  replan : Bool := false
  /-- HALT holds the SPEED target at 0 until PRF_V_TARGET is written (R314). -/
  halted : Bool := false
  /-- The interpolator's buffer: the entry at EPH_IDX first (R317). -/
  buf : List EphEntry := []
  /-- Stream the list is bound to (R319). -/
  stream : Option Nat := none
  /-- Start position of the entry in execution, in 2^-32 counts (R318). -/
  p0 : Int := 0
  /-- Start velocity, in 2^-32 counts/s. -/
  v0 : Int := 0
  /-- D of the entry in execution, ticks. -/
  dur : Nat := 1
  /-- T of the entry in execution, ns. -/
  len : Nat := 1
  /-- k of the entry in execution. -/
  k : Nat := 0
  /-- EPH_K at the resume, counted into EPH_K by a replacement cubic (R323). -/
  k0 : Nat := 0
  /-- The entry due next runs as a replacement cubic (R323). -/
  resume : Bool := false
  /-- A STARVED entry does not start by itself: the axis re-entered RUN or is frozen (R308, R325). -/
  waitCmd : Bool := false
  /-- A new curve input value arrived since the last boundary (R326). -/
  fresh : Bool := false
  /-- The latest value of the selected input. -/
  x : Int := 0
  /-- Consecutive boundaries without a new value (R330). -/
  staleRun : Nat := 0
deriving DecidableEq, Repr

/-- The typed state of a feedback port behind its FB page. Edge times are in quarters of a nanosecond, on the 1.25 ns
grid (R211). -/
structure FbPort where
  /-- Time of the pending SET_POS request (R237). -/
  setPos : Option Nat := none
  /-- Edge time of the last count (R239). -/
  lastQ : Option Nat := none
  /-- Edge time of the count before it in the run (R240). -/
  prevQ : Option Nat := none
  /-- Counts of the present run in the present tick, newest first: edge time and increment (R240). -/
  tick : List (Nat × Nat) := []
  /-- Direction of the previous count, negative true; none when there is no previous count (R238). -/
  lastDir : Option Bool := none
  /-- Edge times of the illegal transitions of the last millisecond (R218). -/
  illegal : List Nat := []
  /-- Last sector in force (R219). -/
  sector : Option Nat := none
  /-- Edge time at which it was entered. -/
  sectorAt : Nat := 0
  /-- It was entered backwards (R221). -/
  sectorBack : Bool := false
  /-- Edge time of the last counted tooth (R224). -/
  tooth : Option Nat := none
  /-- The interval that ended at it. -/
  interval : Option Nat := none
  /-- Direction under DIR_SRC 2, negative true (R223). -/
  toothNeg : Bool := false
  /-- Counts since the last reference (R226). -/
  since : Nat := 0
  /-- The next reference is checked (R226). -/
  checkRef : Bool := false
  /-- The last reference set: edge time and the counter before it (R242). -/
  refSet : Option (Nat × Int) := none
  /-- Pairs that disagree now (R213). -/
  disagree : Nat := 0
  /-- Sample time of the serial frame in progress (R227). -/
  frameAt : Option Nat := none
  /-- Absolute count A (R230). -/
  absA : Option Int := none
  /-- Field value of the last valid frame. -/
  field : Int := 0
  /-- A and the sample time of the last valid frame (R232). -/
  sample : Option (Int × Nat) := none
  /-- Time at which A last changed (R232). -/
  changedAt : Nat := 0
  /-- Consecutive failed frames (R231). -/
  errRun : Nat := 0
  /-- Cause of the last failure: 1 BUSY, 2 CRC. -/
  errCause : Nat := 0
deriving DecidableEq, Repr

/-- One reticle entry in a compare buffer (R339). -/
structure RetEntry where
  /-- POS, counts of the source. -/
  pos : Int
  /-- WIDTH, ns. -/
  width : Nat
  /-- MASK, bit j for event port j. -/
  mask : Nat
  /-- DIR: 0 either, 1 positive only, 2 negative only; 3 is invalid. -/
  dir : Nat
  /-- A reserved bit is not 0. -/
  odd : Bool
  /-- LAST. -/
  last : Bool
  /-- EVENT. -/
  event : Bool
  /-- TAG. -/
  tag : Nat
deriving DecidableEq, Repr

/-- Steps of an emulation that wait, all in one direction (R346): evenly spread over a span that begins at a time, in quarters of a
nanosecond. -/
structure EmuRun where
  /-- E rises. -/
  up : Bool
  /-- Steps of the run. -/
  total : Nat
  /-- Steps not emitted yet. -/
  left : Nat
  /-- Time of the first step. -/
  at_ : Nat
  /-- Span of the run: 0 for a counter source, a tick for OBS_POS. -/
  span : Nat
deriving DecidableEq, Repr

/-- The typed state of an event port behind its EVP page. Pulse and edge times are in quarters of a nanosecond. -/
structure EventPort where
  /-- Command waiting for its boundary (R345). -/
  cmd : Option PendingCmd := none
  /-- Stream the list is bound to (R434). -/
  stream : Option Nat := none
  /-- The compare buffer, the head first (R339, R340). -/
  buf : List RetEntry := []
  /-- Time at which the present head became head. -/
  headAt : Nat := 0
  /-- Range of source positions traversed while STARVED (R344), in units of 1 / 16,000,000,000 count. -/
  range : Option (Int × Int) := none
  /-- The latest network sample: P, V (Q28.4 counts/s), Ts (R341). -/
  sample : Option (Int × Int × Int) := none
  /-- Ticks without a new sample (R342). -/
  noSample : Nat := 0
  /-- Time from which the network source predicts without interruption (R342), in quarters of a ns. -/
  freshAt : Nat := 0
  /-- Pulses of the port, first to last: start and end (R343). -/
  pulses : List (Nat × Nat) := []
  /-- E of the emulation (R346). -/
  emuE : Int := 0
  /-- Steps of E that are not emitted yet, in order. -/
  emuRuns : List EmuRun := []
  /-- State of A and B, 0 to 3: each emitted step moves it by one (R346). -/
  emuPhase : Nat := 0
  /-- Time of the last emitted edge. -/
  emuAt : Option Nat := none
  /-- Time of the opening edge of the pulse in progress (R351). -/
  opened : Option Nat := none
  /-- Time of the opening edge before it. -/
  openedBefore : Option Nat := none
deriving DecidableEq, Repr

/-- A handover request of a bank (R398 to R401). -/
structure HoReq where
  /-- New owner. -/
  owner : Nat
  /-- New reader set. -/
  readers : Nat
  /-- FORCE, honoured. -/
  force : Bool
  /-- Time of the write. -/
  at_ : Nat
  /-- Source number of the requester. -/
  src : Nat
  /-- Boundaries at which it has been judged. -/
  judged : Nat
deriving DecidableEq, Repr

/-- A power request of a bank (R407). -/
structure PwrReq where
  /-- State asked for. -/
  new : Nat
  /-- PSTATE before the change. -/
  old : Nat
  /-- Time of the write. -/
  at_ : Nat
  /-- Source number of the requester. -/
  src : Nat
deriving DecidableEq, Repr

/-- A word access that a port of a bank serves in a system cycle (R402, R403). -/
structure BankGrant where
  /-- System cycle, counted from device time 0. -/
  cycle : Nat
  /-- Word of the bank. -/
  word : Nat
  /-- A write, or a cycle of a write of part of the word. -/
  write : Bool
  /-- Master (R395). -/
  master : Nat
  /-- It lost an arbitration round before the cycle. -/
  lost : Bool
deriving DecidableEq, Repr

/-- An access that a master issues to the banks (R402, R405). -/
structure PortAccess where
  /-- Master (R395). -/
  m : Nat
  /-- A write. -/
  write : Bool
  /-- Byte address. -/
  a : Nat
  /-- Bytes. -/
  n : Nat
  /-- Value of a write. -/
  v : Nat
  /-- System cycles after the command's time at which it is issued. -/
  wait : Nat
  /-- The word accessed turns out to hold a single-bit (false) or a double-bit (true) error (R394). -/
  upset : Option Bool
deriving DecidableEq, Repr

/-- One bank behind the BNK page. -/
structure BankSt where
  /-- The words that the ports serve in the present system cycle and in later ones. -/
  grants : List BankGrant := []
  /-- It has left ON during the present pass of the sweeper (R408). -/
  missed : Bool := false
  /-- Spare rows in use: the row replaced, and whether the parameter store holds the remap (R410, R412). -/
  spares : List (Option (Nat × Bool)) := [none, none, none, none]
  /-- Words that hold an error: word and whether it is uncorrectable (R394). -/
  bad : List (Nat × Bool) := []
  /-- Uncorrectable words for which 0x3B01 has been raised (R394). -/
  told : List Nat := []
  /-- The pending handover. -/
  ho : Option HoReq := none
  /-- The pending power request. -/
  pwr : Option PwrReq := none
  /-- Masters whose record 0x0080 of the present tick is written (R396). -/
  refused : List Nat := []
deriving DecidableEq, Repr

/-- A software transfer of a serial memory port, with its settings as they stood at GO (R424 to R427). -/
structure Transfer where
  /-- Bits. -/
  len : Nat
  /-- Byte address of the buffer. -/
  buf : Nat
  /-- 0 DUPLEX, 1 TX, 2 RX. -/
  dir : Nat
  /-- SMq_CS0 selects the device. -/
  cs0 : Bool
  /-- The GPIO select is watched. -/
  watch : Bool
  /-- The pin watched, and the level that is inactive for it (R427). -/
  watchPin : Nat
  /-- The level that is a release: high with WATCH_POL 0. -/
  watchHigh : Bool
  /-- The master through which GO was written (R395). -/
  master : Nat
  /-- Bits in one SCK cycle: lanes times rate factor (R423). -/
  perCycle : Nat
  /-- System cycles of an SCK cycle, DIV. -/
  div : Nat
  /-- System cycles before the first SCK cycle: CS_SETUP with SMq_CS0, otherwise 0. -/
  setup : Nat
  /-- Device time at which it began to run; none while it is pending (R423). -/
  since : Option Nat := none
  /-- The bank of its buffer was taken by a forced handover: the words that had been transferred by then (R401). -/
  cut : Option Nat := none
deriving DecidableEq, Repr

/-- What a serial memory port can have to do (R423). -/
inductive PortItem
  /-- The next page read of a stream. -/
  | page (s : Nat)
  /-- A window line fetch, by the external address of its line. -/
  | fetch (line : Nat)
  /-- The software transfer. -/
  | transfer
  /-- An export write of a stream. -/
  | export_ (s : Nat)
deriving DecidableEq, Repr

/-- A hardware transaction under SMq_CS0 (R416 to R419): SMq_CS0 falls, `setup` system cycles pass, the bytes of the command and the
address are sent, `dummy` SCK cycles pass, the data bytes transfer, `hold` system cycles pass, SMq_CS0 rises and stays high for at
least `high` system cycles. -/
structure BusOp where
  /-- It writes. -/
  write : Bool
  /-- 8D-8D-8D, otherwise 1S-1S-1S. -/
  octal : Bool
  /-- System cycles of an SCK cycle, HW_DIV. -/
  div : Nat
  /-- CS_SETUP. -/
  setup : Nat
  /-- Command and address bytes, in the order in which they are sent. -/
  head : List Nat
  /-- Dummy SCK cycles. -/
  dummy : Nat
  /-- Data bytes. -/
  count : Nat
  /-- CS_HOLD. -/
  hold : Nat
  /-- CS_HIGH. -/
  high : Nat
deriving DecidableEq, Repr

/-- One serial memory port behind its SMP page. -/
structure SerialPort where
  /-- The software transfer pending or running. -/
  sw : Option Transfer := none
  /-- Valid line buffers, most recently used first: external address of the line and its 8 words (R421). -/
  lines : List (Nat × List Nat) := []
  /-- The item whose transaction runs (R423). -/
  cur : Option PortItem := none
  /-- Lines whose fetch is pending, in order of request (R423). -/
  fetches : List Nat := []
  /-- The stream served last (R423). -/
  last : Nat := 47
  /-- The transactions of the hardware item that runs or ran last, in order. -/
  ops : List BusOp := []
deriving DecidableEq, Repr

/-- One stream of the pager (R430). -/
structure Stream where
  /-- Repeats of a failed page read. -/
  retry : Nat := 2
  /-- Pages read ahead. -/
  depth : Nat := 4
  /-- 0 CONSUME, 1 RETAIN. -/
  replace : Nat := 0
  /-- Check words. -/
  check : Nat := 1
  /-- 0 external list, 1 bank ring. -/
  src : Nat := 0
  /-- 0 off, 1 ephemeris, 2 reticle list, 3 chronograph export. -/
  kind : Nat := 0
  /-- External address or bank byte address. -/
  base : Nat := 0
  /-- Entries of an external list. -/
  len : Nat := 0
  /-- Ring entries. -/
  ring : Nat := 0
  /-- First export entry index. -/
  start : Nat := 0
  /-- Boundaries to a partial export write. -/
  flush : Nat := 25
  /-- Entries written by host software to a bank ring. -/
  wr : Nat := 0
  /-- Entries delivered, or exported. -/
  rd : Nat := 0
  /-- Address of the failed page. -/
  errAddr : Nat := 0
  /-- Last cause: 1 CHECK, 2 DQS, 3 FRAME, 4 RANGE. -/
  cause : Nat := 0
  /-- It has been opened and not closed. -/
  isOpen : Bool := false
  /-- A read error stopped it (R435). -/
  stopped : Bool := false
  /-- Bound consumer: axis n, or 0x8000 + k for event port k (R434). -/
  consumer : Option Nat := none
  /-- Result of the last command. -/
  result : Nat := 0
  /-- Reserved frames: 32 × bank + frame (R429, R433). -/
  frames : List Nat := []
  /-- Page held by each frame in use: frame and page index. -/
  held : List (Nat × Nat) := []
  /-- Good words of the list from word `from_` on, in list order (R435). -/
  words : List Nat := []
  /-- Index of the first of them. -/
  from_ : Nat := 0
  /-- Next page to be read. -/
  page : Nat := 0
  /-- Failed attempts at that page. -/
  tries : Nat := 0
  /-- Next entry to be delivered. -/
  next : Nat := 0
  /-- Export: words in the current frame and in full frames, not written yet. -/
  expWords : List Nat := []
  /-- Export: word index in the ring of the first of them. -/
  expAt : Nat := 0
  /-- Export: number, in turn, of the frame that holds the first of them. -/
  expFrame : Nat := 0
  /-- Export: boundaries since the first entry of the present partial frame; none while it is empty. -/
  expAge : Option Nat := none
  /-- Export: the flush instant has come (R437). -/
  expDue : Bool := false
  /-- Export: entries lost in the present tick (R438). -/
  lostTick : Nat := 0
deriving DecidableEq, Repr

end Sys2Proof.Machine
end

