-- ==== Sys2Proof/Machine/NetUnits.lean ====
section
/-! DEFINITION. The typed state of the Llyntal station and head, of Almanac's supervision and of the persistence engine,
and what survives every reset. -/
namespace Sys2Proof.Machine

/-- An answer given to a requester: the result of R58 and the data. -/
structure Answer where
  /-- Result: 0 OK, 1 NO_PAGE, 2 BAD_ACCESS, 3 LOCKED (R58), or a dispatch result (R455); of a host frame, the status byte that
it shifted out (R500). -/
  result : Nat
  /-- Data words returned. -/
  data : List Nat
deriving DecidableEq, Repr

/-- A frame the device transmits. -/
structure TxFrame where
  /-- Link on which it leaves. -/
  link : Nat
  /-- KIND: 1 cyclic pennant, 2 enumeration pennant, 3 dispatch, 4 acknowledge (R452, R454). -/
  kind : Nat
  /-- CHAN. -/
  chan : Nat := 0
  /-- SEQ. -/
  seq : Nat := 0
  /-- SYNC. -/
  sync : Bool := false
  /-- DST. -/
  dst : Nat := 0
  /-- SRC. -/
  src : Nat := 0
  /-- UNADDR: SRC holds (SEG, position). -/
  unaddr : Bool := false
  /-- TTL. -/
  ttl : Nat := 16
  /-- RESULT of an acknowledge. -/
  result : Nat := 0
  /-- Payload words; of a pennant every word from the header to the status area. -/
  words : List Nat := []
  /-- Bytes by which the payload is shorter than its words. -/
  pad : Nat := 0
  /-- The FCS is a marked one: the frame was not good on receipt (R450, R451). -/
  marked : Bool := false
  /-- The FCS with which the frame arrived, where it is forwarded as it is. -/
  fcs : Option Nat := none
deriving DecidableEq, Repr

/-- The header of a dispatch or acknowledge as it arrives (R450, R454). -/
structure DispHdr where
  /-- Link on which it arrives. -/
  link : Fin 4
  /-- FCS as it arrives (R450). -/
  fcs : Nat := 0
  /-- SRC. -/
  src : Nat
  /-- DST. -/
  dst : Nat
  /-- SEQ. -/
  seq : Nat
  /-- SYNC. -/
  sync : Bool
  /-- UNADDR. -/
  unaddr : Bool := false
  /-- TTL. -/
  ttl : Nat := 16
  /-- LEN, in bytes. -/
  len : Nat
deriving DecidableEq, Repr

/-- A pennant as a device meets it: on its outbound pass and on its return pass (R449, R452, R462). -/
structure PennantIn where
  /-- Link on which it arrives. -/
  link : Fin 4
  /-- FCS on the outbound pass, as it arrives. -/
  fcs : Nat := 0
  /-- The words of the frame from the header to the status area, as they arrive. -/
  frame : List Nat
  /-- Arrival of SOP on the outbound pass, device time in units of 0.125 ns (R462). -/
  ta : Nat
  /-- Departure of SOP on the return pass. -/
  tr : Nat
  /-- FCS on the return pass, as it arrives. -/
  fcsBack : Nat := 0
  /-- The words of the frame on the return pass. -/
  back : List Nat
  /-- Measured forwarding delay, 0.125 ns units (LNK_FWD). -/
  fwd : Nat := 0
deriving DecidableEq, Repr

/-- The context of one source and channel (R471). -/
structure NetCtx where
  /-- Source address; the address (SEG, position) of a frame with UNADDR lies 2^18 above. -/
  src : Nat
  /-- Channel. -/
  chan : Nat
  /-- LAST_SEQ. -/
  seq : Nat
  /-- The stored acknowledge; none while the answer is awaited. -/
  ack : Option Answer
  /-- Time of its last use. -/
  used : Nat
deriving DecidableEq, Repr

/-- A dispatch that the device sent and that has not ended (R472, R473). -/
structure OutDisp where
  /-- Destination. -/
  dst : Nat
  /-- Channel. -/
  chan : Nat
  /-- SEQ. -/
  seq : Nat
  /-- SYNC. -/
  sync : Bool
  /-- SRC. -/
  src : Nat
  /-- UNADDR. -/
  unaddr : Bool
  /-- Payload. -/
  words : List Nat
  /-- Link on which it leaves. -/
  link : Nat
  /-- Repeats made. -/
  tries : Nat
  /-- Time of the last transmission. -/
  at_ : Nat
deriving DecidableEq, Repr

/-- The sequence state of a sender for one destination and channel (R472). -/
structure TxSeq where
  /-- Destination. -/
  dst : Nat
  /-- Channel. -/
  chan : Nat
  /-- SEQ of the last dispatch. -/
  last : Nat
  /-- The next dispatch carries SYNC = 1. -/
  sync : Bool
deriving DecidableEq, Repr

/-- A dispatch that waits for the end of an earlier one to its destination on its channel (R472). -/
structure WaitDisp where
  /-- Sent by the head of the segment. -/
  head : Bool
  /-- UNADDR. -/
  unaddr : Bool
  /-- Destination. -/
  dst : Nat
  /-- Channel. -/
  chan : Nat
  /-- Payload. -/
  words : List Nat
deriving DecidableEq, Repr

/-- A dispatch or acknowledge that passed the station outbound and has not come back (R467). -/
structure Passed where
  /-- It is an acknowledge. -/
  ack : Bool
  /-- Source as its context names it. -/
  src : Nat
  /-- Destination. -/
  dst : Nat
  /-- Channel. -/
  chan : Nat
  /-- SEQ. -/
  seq : Nat
deriving DecidableEq, Repr

/-- A timed dispatch of channel 2 that waits for its boundary (R470). -/
structure Timed where
  /-- Requester. -/
  req : Req
  /-- Source as its context names it. -/
  src : Nat
  /-- SEQ. -/
  seq : Nat
  /-- A broadcast is not acknowledged. -/
  bcast : Bool
  /-- EXEC_T. -/
  exec : Nat
  /-- Words of its write groups. -/
  groups : List Nat
  /-- Time of receipt. -/
  at_ : Nat
deriving DecidableEq, Repr

/-- A dispatch held for Almanac (R493). -/
structure AlmItem where
  /-- Link on which it arrived. -/
  link : Nat
  /-- Source as its context names it. -/
  src : Nat
  /-- Channel. -/
  chan : Nat
  /-- SEQ. -/
  seq : Nat
  /-- Payload. -/
  words : List Nat
deriving DecidableEq, Repr

/-- A slot's content as Meridian reads it for a verification (R494, R495). -/
structure SlotImage where
  /-- Words of the container from its first byte on. -/
  words : List Nat
  /-- A read of the slot's port failed. -/
  readErr : Bool
deriving DecidableEq, Repr

/-- A slice: OUT_OFF, OUT_LEN, IN_OFF, IN_LEN in bytes (R460). -/
structure Slice where
  /-- OUT_OFF. -/
  outOff : Nat := 0
  /-- OUT_LEN. -/
  outLen : Nat := 0
  /-- IN_OFF. -/
  inOff : Nat := 0
  /-- IN_LEN. -/
  inLen : Nat := 0
deriving DecidableEq, Repr

/-- A grant that waits for its cycle: at the station its own, at the head one of a joining device (R479). -/
structure Grant where
  /-- First cycle C_g. -/
  cycle : Nat
  /-- STN granted. -/
  stn : Nat
  /-- Its slice. -/
  slice : Slice
  /-- Position of the device. -/
  pos : Nat
deriving DecidableEq, Repr

/-- A station of the segment as its head knows it. -/
structure Member where
  /-- STN. -/
  stn : Nat
  /-- Position at enumeration or join. -/
  pos : Nat
  /-- Consecutive good pennants without its ALIVE (R480). -/
  miss : Nat := 0
  /-- Its last status word. -/
  word : Nat := 0
deriving DecidableEq, Repr

/-- An announced tick period (R465). -/
structure Announce where
  /-- Announced period, 5 ns cycles. -/
  period : Nat
  /-- System time of the boundary. -/
  time : Nat
  /-- CONFIRM was set, or has been seen. -/
  confirm : Bool
  /-- Source number of the requester of the commit. -/
  src : Nat := 0
  /-- The station has reported TICK_ACK for it in a pennant (R34). -/
  acked : Bool := false
deriving DecidableEq, Repr

/-- The typed state of the Llyntal station and head behind the LNK and NET pages. -/
structure Net where
  /-- Frames transmitted by the last network command. -/
  tx : List TxFrame := []
  /-- Consecutive good cyclic pennants (R479). -/
  good : Nat := 0
  /-- Device time of the last good pennant. -/
  lastGood : Nat := 0
  /-- Cycle and Δ of the last good pennant, 0.125 ns units (R462). -/
  last : Option (Nat × Nat) := none
  /-- Path delays of the last 16 good pennants of line X (R462). -/
  pathX : List Nat := []
  /-- Path delays of the last 16 good pennants of line Y. -/
  pathY : List Nat := []
  /-- Estimated offset in ACQUIRE, 0.125 ns units (R463). -/
  offset : Option Int := none
  /-- The tick boundaries are aligned under R48. -/
  aligned : Bool := false
  /-- SEG of the last good pennant. -/
  seg : Nat := 0
  /-- Ticks per cycle of the last good pennant. -/
  ncyc : Nat := 1
  /-- PERIOD of the last good pennant. -/
  period : Nat := 8000
  /-- UNFOLD_NEXT pennants seen in a row (R478). -/
  unfoldSeen : Nat := 0
  /-- Receiver contexts (R471). -/
  ctxs : List NetCtx := []
  /-- Dispatches sent and not ended (R472). -/
  out : List OutDisp := []
  /-- Dispatches that wait for the end of an outstanding one (R472). -/
  waiting : List WaitDisp := []
  /-- Frames that passed the station outbound and have not come back (R467). -/
  passed : List Passed := []
  /-- Sequence state of the sender (R472). -/
  seqs : List TxSeq := []
  /-- The last broadcast SEQ of each source (R473). -/
  bcast : List (Nat × Nat) := []
  /-- Timed dispatches (R470). -/
  timed : List Timed := []
  /-- Dispatches held for Almanac (R493). -/
  alm : List AlmItem := []
  /-- The grant of this device (R479). -/
  grant : Option Grant := none
  /-- Own slices that wait for their cycle (R460). -/
  slices : List (Nat × Slice) := []
  /-- Time of the JOIN (R479). -/
  joinAt : Nat := 0
  /-- STN taken in the running enumeration; 0 none (R457). -/
  enumStn : Nat := 0
  /-- The announced period at a station (R465). -/
  ann : Option Announce := none
  /-- PERIOD to be taken at the next boundary (R465). -/
  take : Option Nat := none
  /-- Values of the mapped words at the last boundary, by map entry (R461). -/
  mapNow : List (List Nat) := []
  /-- Time of that boundary. -/
  mapAt : Nat := 0
  /-- The values at the boundary before it. -/
  mapPrev : List (List Nat) := []
  /-- Its time. -/
  prevAt : Nat := 0
  /-- Head: stations of the segment. -/
  members : List Member := []
  /-- Head: granted joins whose cycle has not come (R479). -/
  joins : List Grant := []
  /-- Head: slice entries still in use: STN, first cycle of the entry that replaces it, and the entry (R460). -/
  oldSlices : List (Nat × Nat × Slice) := []
  /-- Head: CYCLE of the last pennant sent. -/
  cycle : Nat := 0
  /-- Head: boundary of the last pennant sent. -/
  sentAt : Option Nat := none
  /-- Head: the last pennant sent has returned (R451, R484). -/
  back : Bool := true
  /-- Head: link of line X of the ring (R449). -/
  xLink : Nat := 0
  /-- Head: last measured Δ_0, 0.125 ns units (R462). -/
  delta0 : Nat := 0
  /-- Head: last measured Δ_0 of line Y (R477). -/
  deltaY : Nat := 0
  /-- Head: number of the enumeration pennant sent last, 0 before E1 (R456). -/
  enumK : Nat := 0
  /-- Head: number of the enumeration pennant that returned last, 0 before E1 returned (R459). -/
  enumBack : Nat := 0
  /-- Head: restarts of this enumeration (R459). -/
  enumTry : Nat := 0
  /-- Head: NO_RETAIN of this enumeration. -/
  noRetain : Bool := false
  /-- Head: entries returned in E1: position and word 1 (R459). -/
  entries : List (Nat × Nat) := []
  /-- Head: the announced period (R465). -/
  headAnn : Option Announce := none
  /-- Head: pennants that still carry UNFOLD_NEXT (R478). -/
  unfoldIn : Option Nat := none
  /-- Head: consecutive cycles with RESTORED from both sides of the break (R478). -/
  restoredRun : Nat := 0
  /-- Head: position of the last station on line X of the fold (R482). -/
  foldPos : Nat := 0
  /-- Head: data and status area returned on lines X and Y of a fold (R477). -/
  foldX : List Nat := []
  /-- Head: what returned on line Y. -/
  foldY : List Nat := []
deriving DecidableEq, Repr

/-- Meridian's supervision of Almanac and its mailbox (R487 to R497). -/
structure Almanac where
  /-- Verification under way for a command: 0 none, 1 ALM_VERIFY, 3 switch, 4 return to the previous slot, 5 start. -/
  purpose : Nat := 0
  /-- The verification of a restart of cause 4 or 5 is under way (R491, R492). -/
  restart : Bool := false
  /-- Slot it concerns. -/
  slot : Nat := 0
  /-- Slot in use before a switch. -/
  prev : Nat := 0
  /-- The core is released and has not written its first heartbeat. -/
  waiting : Bool := false
  /-- Time of the last heartbeat, or of the release (R491). -/
  beat : Nat := 0
  /-- Times of the restarts of causes 4 and 5 (R491). -/
  restarts : List Nat := []
  /-- A switch waits for the quiet point since this time (R497). -/
  quietAt : Option Nat := none
  /-- Valid lines of the code cache: external address of the line and its 16 words (R490). -/
  cache : List (Nat × List Nat) := []
deriving DecidableEq, Repr

/-- The command of the persistence engine (R515). -/
structure Engine where
  /-- 0 none, 1 PROGRAM, 2 REBURN, 3 LOCK, 4 CHECK, 6 STORE. -/
  cmd : Nat := 0
  /-- Region of an OTP command. -/
  region : Nat := 0
  /-- Staged image of a PROGRAM. -/
  image : List Nat := []
  /-- Target half of a STORE. -/
  half : Nat := 0
  /-- Generation of a STORE. -/
  gen : Nat := 0
  /-- Records of a STORE: word 0 and word 1. -/
  records : List (Nat × Nat) := []
deriving DecidableEq, Repr

/-- What no reset and no supply loss takes away. -/
structure NonVol where
  /-- Burned bits of each physical row of the OTP array (R509). -/
  fuses : Tab Nat Nat := []
  /-- Words of the two halves of the parameter store (R519). -/
  halves : List (List Nat) := [[], []]
  /-- Write cycles of the two halves (R526). -/
  writes : List Nat := [0, 0]
deriving DecidableEq, Repr

/-- The states of the test access port controller (R583, IEEE 1149.1). -/
inductive TapState
  | reset | idle | selectDr | captureDr | shiftDr | exit1Dr | pauseDr | exit2Dr | updateDr
  | selectIr | captureIr | shiftIr | exit1Ir | pauseIr | exit2Ir | updateIr
deriving DecidableEq, Repr

/-- What reaches the test access port: a TCK cycle with TMS and TDI, or a level of TRST_N. -/
inductive TapInput
  | tck (tms tdi : Bool)
  | trst (high : Bool)
deriving DecidableEq, Repr

/-- The test access port (R583, R584). -/
structure Tap where
  /-- State of the controller. -/
  st : TapState := .reset
  /-- Level of TRST_N, which a pull-down holds low (R572). -/
  trstN : Bool := false
  /-- Instruction in force. -/
  ir : Nat := 0xF
  /-- Instruction register as it shifts. -/
  irShift : Nat := 0xF
  /-- The bypass register. -/
  bypass : Bool := false
  /-- The boundary register as it shifts, bit 0 next to TDO. -/
  cells : Nat := 0
  /-- The boundary values latched at Update-DR, which EXTEST and CLAMP drive. -/
  latch : Nat := 0
  /-- Level of TDO. -/
  tdo : Bool := false
deriving DecidableEq, Repr

end Sys2Proof.Machine
end

