-- ==== Sys2Proof/Machine/Dev.lean ====
section
/-! DEFINITION. The block without its memory: pin levels, the register file, and the typed state of every unit. -/
namespace Sys2Proof.Machine

/-- The levels at the pins and the supplies, which no reset of the block changes. -/
structure Pins where
  /-- VDDC, VDDA, VDDIO and VDDL are in range: the supply monitor is released (R73, R567). -/
  supplies : Bool := false
  /-- The level of RESET_N. -/
  resetN : Bool := false
  /-- The reference is clock-good (R74). -/
  clockGood : Bool := false
  /-- The next start-up follows an assertion of the supply monitor (R567). -/
  powerOn : Bool := true
  /-- VDDSM is in range (R568). -/
  vddsm : Bool := false
  /-- The store supply detector reads good: PST_STATUS.VOK (R522). -/
  vok : Bool := false
  /-- VGD of power die c is in range, bit c (R126). -/
  vgd : Nat := 0
  /-- Levels of DEN0 to DEN3, bit c (R100). -/
  den : Nat := 0
  /-- Level of DENX (R100). -/
  denx : Bool := false
  /-- Asserted Xn_FLT_N, bit n − 16 (R99). -/
  xflt : Nat := 0
  /-- Levels of the lines A, B, Z of each feedback port, bits 0 to 2. -/
  fb : Tab Nat Nat := []
  /-- Levels of EVk_P and EVk_N, bits 0 and 1. -/
  ev : Tab Nat Nat := []
  /-- Levels at GPIO0 to GPIO31 (R585). -/
  gpio : Nat := 0
  /-- Clock departures in progress: region A bit 0, region B bit 1 (R536). -/
  depart : Nat := 0
  /-- Comparators beyond their threshold, as last reported for each axis (R118). -/
  oc : Nat := 0
deriving DecidableEq, Repr

/-- The block without its memory. A unit that is not listed in the table of its kind is as `{}` says: as reset leaves it
(a program slot: as `slotAtReset` says). -/
structure Dev where
  /-- Pins and supplies. -/
  pins : Pins := {}
  /-- RESET_N is released and the reference is good: the block runs (R74). -/
  running : Bool := false
  /-- Device time of the latest event (R42). -/
  now : Nat := 0
  /-- Counter of the free values used (the model's own field, log entry 1). -/
  freeCtr : Nat := 0
  /-- Register fields that differ from their reset value or were written. -/
  regs : Tab Fld Nat := []
  /-- RWT shadows written since their last commit: time and value, oldest first (R66). -/
  shadows : Tab Fld (List (Nat × Nat)) := []
  /-- Commit and swap requests that wait for their boundary (R30, R67, R69). -/
  commits : List CommitReq := []
  /-- Time at which DEV_COMMIT_HOLD returned to 0 (R69). -/
  holdEnd : Nat := 0
  /-- Holding copies of R12: requester, page index and offset of the high word, value. -/
  rdHold : List (Req × Nat × Nat × Nat) := []
  /-- Held high words of R13: requester, page index and offset of the low word, value. -/
  wrHold : List (Req × Nat × Nat × Nat) := []
  /-- The system cycle of the latest register write (R60). -/
  cycleAt : Nat := 0
  /-- Register words written in that cycle: rank of the requester, page index and offset (R60). -/
  cycleWrites : List (Nat × Nat × Nat) := []
  /-- Open expert areas: requester, page, tick of the last expert write or of the opening (R64, R65). -/
  expert : List (Req × Page × Nat) := []
  /-- Requester and page index whose kind 5 record of the present tick is written (R71). -/
  refused5 : List (Req × Nat) := []
  /-- The last answer given to a requester: what a read, a frame or a dispatch returns. -/
  answer : Option Answer := none
  /-- Active pairs of entry and instance (R533). -/
  active : List ActiveFault := []
  /-- Ramp stops and holds that wait for their boundary (R538). -/
  deferred : List Deferred := []
  /-- The pending clear (R544). -/
  clearReq : Option ClearReq := none
  /-- Entry and instance of the events written in the present tick (R539). -/
  evtTick : List (Nat × Nat) := []
  /-- Entries waiting in the chronograph writer, in order of arrival (R551). -/
  queue : List ChronEntry := []
  /-- Entries lost at a full queue and not yet stated by 0x0160 (R551). -/
  lostPend : Nat := 0
  /-- The start-up buffer of R81. -/
  startBuf : List ChronEntry := []
  /-- Start-up entries counted, not stored (R81). -/
  bufOver : Nat := 0
  /-- Bank 31 is zeroed: entries go to the writer's queue (R81). -/
  chronOn : Bool := false
  /-- Minimum reactions from SAFE words 110 to 125, by entry (R542); none: SAFE invalid, the catalogue default. -/
  reactMin : Option (Tab Nat Nat) := none
  /-- TABLE_FIXED of SAFE word 126; 1 with SAFE invalid (R542). -/
  tableFixed : Bool := true
  /-- FLT_PKG_TEMP readings above FLT_PKG_TRIP in a row (R537). -/
  pkgHot : Nat := 0
  /-- Steps of start-up completed (R79, R80). -/
  stepsDone : Nat := 0
  /-- A failure marked READY never set has occurred (R92). -/
  neverReady : Bool := false
  /-- Ticks without a time correction (R45). -/
  noTime : Nat := 0
  /-- Consecutive LOCKED ticks with a time error beyond 10 ns (R52). -/
  errRun : Nat := 0
  /-- Consecutive agreeing time samples in ACQUIRE (R463). -/
  agree : Nat := 0
  /-- Offset of R48 still to be removed by lengthening ticks, in system cycles. -/
  alignLeft : Nat := 0
  /-- The latest tick boundary fell at this device time (R27). -/
  tickStart : Nat := 0
  /-- The next boundary is due at this device time (R27, R48). -/
  nextTick : Nat := 0
  /-- System cycles by which the present tick is lengthened (R48). -/
  stretch : Nat := 0
  /-- Clusters whose carriers restart at the present boundary, once its commits have been applied (R33, R106, R588). -/
  restart : Nat := 0
  /-- The axes. -/
  axes : Tab Nat Axis := []
  /-- The generators of the axes. -/
  profs : Tab Nat Profile := []
  /-- The rotations of the converter banks. -/
  rots : Tab Nat Rotation := []
  /-- The converter banks. -/
  adc : Tab Nat AdcBank := []
  /-- Pairs whose cross-check has fallen due and is not evaluated yet, bit p (R154). -/
  xckDue : Nat := 0
  /-- Program slots by axis and slot: CUR 0, VEL 1, POS 2, AUX 3 (R355, R356). -/
  slots : Tab (Nat × Nat) Slot := []
  /-- Install requests in progress, by axis (R380). -/
  installs : Tab Nat Install := []
  /-- The lanes L0 to L5, G0, G1 (R354). -/
  lanes : Tab Nat Lane := []
  /-- Changes of admission inputs: lane, time of the change, end of the evaluation that includes it (R375). -/
  admWait : List (Nat × Nat × Option Nat) := []
  /-- The accesses of the last BANK_ACCESS as they were served: the device time at the end of the last cycle of each, and what its
  master received. -/
  served : List (Nat × Answer) := []
  /-- MEMBUSY is asserted (R403). -/
  memBusy : Bool := false
  /-- The memory banks (R393). -/
  banks : Tab Nat BankSt := []
  /-- The feedback ports. -/
  fbps : Tab Nat FbPort := []
  /-- The event ports. -/
  evps : Tab Nat EventPort := []
  /-- The serial memory ports. -/
  smps : Tab Nat SerialPort := []
  /-- The pager's streams (R430). -/
  streams : Tab Nat Stream := []
  /-- The Llyntal station and head. -/
  net : Net := {}
  /-- Meridian's supervision of Almanac. -/
  alm : Almanac := {}
  /-- The persistence engine (R515). -/
  eng : Engine := {}
  /-- The last three readings of each OTP row: normal, low, high (R513, R514). -/
  otpReads : Tab Nat (Nat × Nat × Nat) := []
  /-- Majority entries of the redirection table (R512). -/
  otpTable : List Nat := []
  /-- SAFE words as loaded at step 1; none while the region is invalid (R511, R514). -/
  safe : Option (List Nat) := none
  /-- KEY words as loaded at step 1: the two key hashes (R510). -/
  keys : List Nat := []
  /-- The record list of the image in force (R521, R523). -/
  image : List (Nat × Nat) := []
  /-- The OTP fuses and the parameter store. -/
  nv : NonVol := {}
  /-- The test access port. -/
  tap : Tap := {}
deriving DecidableEq, Repr

end Sys2Proof.Machine
end

