-- ==== Sys2Proof/Machine/FieldsAxis.lean ====
section
/-! DEFINITION. The register fields of the axis pages: AXB, DRV, CUR, FOC, OBS, MOT, PRF, FB, SUP, CRV, PRG, and the event ports EVP.
One definition per field of the register tables: page, offset, lowest bit, width, access code, reset value (R14, R17).
Generated from the tables of the chapter named at each page. -/
namespace Sys2Proof.Machine

/-! ### AXB page (spec/10_motion_loops.md) -/
def axbFrozen (n : Nat) : Fld := ⟨(.axb n), 0x040, 11, 1, .ro, 0⟩
def axbFallback (n : Nat) : Fld := ⟨(.axb n), 0x040, 10, 1, .ro, 0⟩
def axbState (n : Nat) : Fld := ⟨(.axb n), 0x040, 0, 4, .ro, 0⟩
def axbMode (n : Nat) : Fld := ⟨(.axb n), 0x044, 0, 3, .rwt, 2⟩
def axbCmd (n : Nat) : Fld := ⟨(.axb n), 0x04C, 0, 4, .wo, 0⟩
def axbLastCmd (n : Nat) : Fld := ⟨(.axb n), 0x050, 8, 4, .ro, 0⟩
def axbResult (n : Nat) : Fld := ⟨(.axb n), 0x050, 0, 8, .ro, 0⟩
def axbStateTime (n : Nat) : Fld := ⟨(.axb n), 0x058, 0, 64, .ro, 0⟩

/-- The stored fields of the AXB page. -/
def axbFields (n : Nat) : List Fld :=
  [axbFrozen n, axbFallback n, axbState n, axbMode n, axbCmd n, axbLastCmd n, axbResult n, axbStateTime n]

/-! ### DRV page (spec/04_drive_stages.md) -/
def drvVbusStale (n : Nat) : Fld := ⟨(.drv n), 0x040, 11, 1, .ro, 0⟩
def drvShiftShort (n : Nat) : Fld := ⟨(.drv n), 0x040, 10, 1, .ro, 0⟩
def drvLim (n : Nat) : Fld := ⟨(.drv n), 0x040, 8, 1, .ro, 0⟩
def drvTrip (n : Nat) : Fld := ⟨(.drv n), 0x040, 3, 3, .ro, 0⟩
def drvBrakeSide (n : Nat) : Fld := ⟨(.drv n), 0x044, 8, 1, .rwt, 0⟩
def drvShiftEn (n : Nat) : Fld := ⟨(.drv n), 0x044, 4, 1, .rwt, 1⟩
def drvDtComp (n : Nat) : Fld := ⟨(.drv n), 0x044, 3, 1, .rwt, 1⟩
def drvBusFf (n : Nat) : Fld := ⟨(.drv n), 0x044, 2, 1, .rwt, 1⟩
def drvTwoPhase (n : Nat) : Fld := ⟨(.drv n), 0x044, 1, 1, .rwt, 0⟩
def drvOvermod (n : Nat) : Fld := ⟨(.drv n), 0x044, 0, 1, .rwt, 0⟩
def drvDeadtime (n : Nat) : Fld := ⟨(.drv n), 0x048, 0, 11, .rwt, 80⟩
def drvPulseMin (n : Nat) : Fld := ⟨(.drv n), 0x04C, 0, 10, .rwt, 80⟩
def drvOcBlank (n : Nat) : Fld := ⟨(.drv n), 0x050, 0, 8, .rwt, 0⟩
def drvOcLeg (n : Nat) : Fld := ⟨(.drv n), 0x054, 0, 12, .rwt, if n < 16 then 160 else 800⟩
def drvOcLink (n : Nat) : Fld := ⟨(.drv n), 0x058, 0, 12, .rwt, if n < 16 then 160 else 800⟩
def drvBrakeIlim (n : Nat) : Fld := ⟨(.drv n), 0x05C, 0, 12, .rwt, if n < 16 then 64 else 400⟩
def drvDtBand (n : Nat) : Fld := ⟨(.drv n), 0x060, 0, 32, .rwt, 0x00003333⟩
def drvVbusNom (n : Nat) : Fld := ⟨(.drv n), 0x064, 0, 32, .rwt, 0x00180000⟩
def drvModIndex (n : Nat) : Fld := ⟨(.drv n), 0x088, 0, 32, .ro, 0⟩
def drvVbus (n : Nat) : Fld := ⟨(.drv n), 0x08C, 0, 32, .ro, 0⟩
def drvBrakeReg (n : Nat) : Fld := ⟨(.drv n), 0x0A0, 16, 16, .ro, 0⟩
def drvTrips (n : Nat) : Fld := ⟨(.drv n), 0x0A0, 0, 16, .ro, 0⟩
def drvTestEn (n : Nat) : Fld := ⟨(.drv n), 0x400, 0, 1, .rw, 0⟩
def drvDutyU (n : Nat) : Fld := ⟨(.drv n), 0x070, 0, 32, .ro, 0⟩
def drvDutyV (n : Nat) : Fld := ⟨(.drv n), 0x074, 0, 32, .ro, 0⟩
def drvDutyW (n : Nat) : Fld := ⟨(.drv n), 0x078, 0, 32, .ro, 0⟩
def drvVAlpha (n : Nat) : Fld := ⟨(.drv n), 0x080, 0, 32, .ro, 0⟩
def drvVBeta (n : Nat) : Fld := ⟨(.drv n), 0x084, 0, 32, .ro, 0⟩
def drvTestDutyU (n : Nat) : Fld := ⟨(.drv n), 0x404, 0, 32, .rw, 0⟩
def drvTestDutyV (n : Nat) : Fld := ⟨(.drv n), 0x408, 0, 32, .rw, 0⟩
def drvTestDutyW (n : Nat) : Fld := ⟨(.drv n), 0x40C, 0, 32, .rw, 0⟩

/-- The stored fields of the DRV page. -/
def drvFields (n : Nat) : List Fld :=
  [drvVbusStale n, drvShiftShort n, drvLim n, drvTrip n, drvBrakeSide n, drvShiftEn n, drvDtComp n, drvBusFf n, drvTwoPhase n, drvOvermod n, drvDeadtime n, drvPulseMin n, drvOcBlank n, drvOcLeg n, drvOcLink n, drvBrakeIlim n, drvDtBand n, drvVbusNom n, drvModIndex n, drvVbus n, drvBrakeReg n, drvTrips n, drvTestEn n, drvDutyU n, drvDutyV n, drvDutyW n] ++
  [drvVAlpha n, drvVBeta n, drvTestDutyU n, drvTestDutyV n, drvTestDutyW n]

/-! ### CUR page (spec/06_current_sensing.md) -/
def curOfsValid (n : Nat) : Fld := ⟨(.cur n), 0x040, 15, 1, .ro, 0⟩
def curOfsBusy (n : Nat) : Fld := ⟨(.cur n), 0x040, 14, 1, .ro, 0⟩
def curXchk (n : Nat) : Fld := ⟨(.cur n), 0x040, 13, 1, .ro, 0⟩
def curSumErr (n : Nat) : Fld := ⟨(.cur n), 0x040, 12, 1, .ro, 0⟩
def curStale (n : Nat) : Fld := ⟨(.cur n), 0x040, 11, 1, .ro, 0⟩
def curReduced (n : Nat) : Fld := ⟨(.cur n), 0x040, 10, 1, .ro, 0⟩
def curShiftReq (n : Nat) : Fld := ⟨(.cur n), 0x040, 9, 1, .ro, 0⟩
def curDirect (n : Nat) : Fld := ⟨(.cur n), 0x040, 4, 3, .ro, 0⟩
def curPlan (n : Nat) : Fld := ⟨(.cur n), 0x040, 0, 3, .ro, 4⟩
def curMethod (n : Nat) : Fld := ⟨(.cur n), 0x044, 0, 2, .rwt, if n < 16 then 3 else 0⟩
def curWMin (n : Nat) : Fld := ⟨(.cur n), 0x04C, 0, 12, .rwt, 800⟩
def curTBlank (n : Nat) : Fld := ⟨(.cur n), 0x050, 0, 11, .rwt, 320⟩
def curWLate (n : Nat) : Fld := ⟨(.cur n), 0x054, 0, 15, .rwt, 2000⟩
def curSumTol (n : Nat) : Fld := ⟨(.cur n), 0x05C, 0, 32, .rwt, 0x00008000⟩
def curStaleLimit (n : Nat) : Fld := ⟨(.cur n), 0x060, 8, 8, .rwt, 4⟩
def curSumN (n : Nat) : Fld := ⟨(.cur n), 0x060, 0, 8, .rwt, 8⟩
def curISum (n : Nat) : Fld := ⟨(.cur n), 0x07C, 0, 32, .ro, 0⟩
def curShiftCount (n : Nat) : Fld := ⟨(.cur n), 0x094, 0, 32, .ro, 0⟩
def curOfsEn (n : Nat) : Fld := ⟨(.cur n), 0x0B0, 31, 1, .rw, 1⟩
def curOfsN (n : Nat) : Fld := ⟨(.cur n), 0x0B0, 16, 8, .rw, 64⟩
def curOfsPeriod (n : Nat) : Fld := ⟨(.cur n), 0x0B0, 0, 16, .rw, 250⟩
def curOfsFails (n : Nat) : Fld := ⟨(.cur n), 0x0B4, 16, 16, .ro, 0⟩
def curOfsPasses (n : Nat) : Fld := ⟨(.cur n), 0x0B4, 0, 16, .ro, 0⟩
def curVbus (n : Nat) : Fld := ⟨(.cur n), 0x0DC, 0, 32, .ro, 0⟩
def curIU (n : Nat) : Fld := ⟨(.cur n), 0x070, 0, 32, .ro, 0⟩
def curIV (n : Nat) : Fld := ⟨(.cur n), 0x074, 0, 32, .ro, 0⟩
def curIW (n : Nat) : Fld := ⟨(.cur n), 0x078, 0, 32, .ro, 0⟩
def curOfsU (n : Nat) : Fld := ⟨(.cur n), 0x0A0, 0, 32, .ro, 0⟩
def curFsU (n : Nat) : Fld := ⟨(.cur n), 0x0C0, 0, 32, .rw, if n < 16 then 0x00100000 else 0⟩
def curOfsV (n : Nat) : Fld := ⟨(.cur n), 0x0A4, 0, 32, .ro, 0⟩
def curFsV (n : Nat) : Fld := ⟨(.cur n), 0x0C4, 0, 32, .rw, if n < 16 then 0x00100000 else 0⟩
def curOfsW (n : Nat) : Fld := ⟨(.cur n), 0x0A8, 0, 32, .ro, 0⟩
def curFsW (n : Nat) : Fld := ⟨(.cur n), 0x0C8, 0, 32, .rw, if n < 16 then 0x00100000 else 0⟩
def curOfsLink (n : Nat) : Fld := ⟨(.cur n), 0x0AC, 0, 32, .ro, 0⟩
def curFsLink (n : Nat) : Fld := ⟨(.cur n), 0x0CC, 0, 32, .rw, if n < 16 then 0x00200000 else 0⟩
def curVphU (n : Nat) : Fld := ⟨(.cur n), 0x0D0, 0, 32, .ro, 0⟩
def curVphV (n : Nat) : Fld := ⟨(.cur n), 0x0D4, 0, 32, .ro, 0⟩
def curVphW (n : Nat) : Fld := ⟨(.cur n), 0x0D8, 0, 32, .ro, 0⟩
def curPair (n : Nat) : Fld := ⟨(.cur n), 0x044, 4, 2, .rwt, 0⟩
def curWinStart (n : Nat) (j : Nat) : Fld := ⟨(.cur n), 0x080 + 4 * j, 16, 16, .ro, 0⟩
def curWinEnd (n : Nat) (j : Nat) : Fld := ⟨(.cur n), 0x080 + 4 * j, 0, 16, .ro, 0⟩
def curLinkRd (n : Nat) (j : Nat) : Fld := ⟨(.cur n), 0x088 + 4 * j, 0, 32, .ro, 0⟩
def curStaleTicks (n : Nat) : Fld := ⟨(.cur n), 0x090, 16, 16, .ro, 0⟩
def curSumErrTicks (n : Nat) : Fld := ⟨(.cur n), 0x090, 0, 16, .ro, 0⟩

/-- The stored fields of the CUR page. -/
def curFields (n : Nat) : List Fld :=
  [curOfsValid n, curOfsBusy n, curXchk n, curSumErr n, curStale n, curReduced n, curShiftReq n, curDirect n, curPlan n, curMethod n, curWMin n, curTBlank n, curWLate n, curSumTol n, curStaleLimit n, curSumN n, curISum n, curShiftCount n, curOfsEn n, curOfsN n, curOfsPeriod n, curOfsFails n, curOfsPasses n, curVbus n, curIU n, curIV n, curIW n, curOfsU n, curFsU n, curOfsV n] ++
  [curFsV n, curOfsW n, curFsW n, curOfsLink n, curFsLink n, curVphU n, curVphV n, curVphW n, curPair n, curStaleTicks n, curSumErrTicks n] ++
  (List.range 2).flatMap (fun j => [curWinStart n j]) ++
  (List.range 2).flatMap (fun j => [curWinEnd n j]) ++
  (List.range 2).flatMap (fun j => [curLinkRd n j])

/-! ### FOC page (spec/07_field_control.md) -/
def focStock (n : Nat) : Fld := ⟨(.foc n), 0x040, 11, 1, .ro, 1⟩
def focStaleHold (n : Nat) : Fld := ⟨(.foc n), 0x040, 9, 1, .ro, 0⟩
def focFwActive (n : Nat) : Fld := ⟨(.foc n), 0x040, 8, 1, .ro, 0⟩
def focI2tActive (n : Nat) : Fld := ⟨(.foc n), 0x040, 7, 1, .ro, 0⟩
def focIlimSrc (n : Nat) : Fld := ⟨(.foc n), 0x040, 5, 2, .ro, 0⟩
def focIlim (n : Nat) : Fld := ⟨(.foc n), 0x040, 4, 1, .ro, 0⟩
def focIntHoldQ (n : Nat) : Fld := ⟨(.foc n), 0x040, 3, 1, .ro, 0⟩
def focIntHoldD (n : Nat) : Fld := ⟨(.foc n), 0x040, 2, 1, .ro, 0⟩
def focVlim (n : Nat) : Fld := ⟨(.foc n), 0x040, 1, 1, .ro, 0⟩
def focIntReset (n : Nat) : Fld := ⟨(.foc n), 0x04C, 0, 1, .wo, 0⟩
def focKpD (n : Nat) : Fld := ⟨(.foc n), 0x050, 0, 32, .rwt, 0⟩
def focKpQ (n : Nat) : Fld := ⟨(.foc n), 0x058, 0, 32, .rwt, 0⟩
def focKiD (n : Nat) : Fld := ⟨(.foc n), 0x054, 0, 32, .rwt, 0⟩
def focKiQ (n : Nat) : Fld := ⟨(.foc n), 0x05C, 0, 32, .rwt, 0⟩
def focRs (n : Nat) : Fld := ⟨(.foc n), 0x060, 0, 32, .rwt, 0⟩
def focLd (n : Nat) : Fld := ⟨(.foc n), 0x064, 0, 32, .rwt, 0⟩
def focLq (n : Nat) : Fld := ⟨(.foc n), 0x068, 0, 32, .rwt, 0⟩
def focPsi (n : Nat) : Fld := ⟨(.foc n), 0x06C, 0, 32, .rwt, 0⟩
def focEcounts (n : Nat) : Fld := ⟨(.foc n), 0x070, 0, 24, .rwt, 0⟩
def focAngleOfs (n : Nat) : Fld := ⟨(.foc n), 0x074, 0, 32, .rwt, 0⟩
def focKa (n : Nat) : Fld := ⟨(.foc n), 0x078, 0, 32, .rwt, 0⟩
def focVlimFrac (n : Nat) : Fld := ⟨(.foc n), 0x07C, 0, 32, .rwt, 0x3D70A3D7⟩
def focFwStart (n : Nat) : Fld := ⟨(.foc n), 0x080, 0, 32, .rwt, 0x3CCCCCCD⟩
def focFwKi (n : Nat) : Fld := ⟨(.foc n), 0x084, 0, 32, .rwt, 0x00000CCD⟩
def focFwMax (n : Nat) : Fld := ⟨(.foc n), 0x088, 0, 32, .rwt, 0⟩
def focIdCmd (n : Nat) : Fld := ⟨(.foc n), 0x08C, 0, 32, .rw, 0⟩
def focIqCmd (n : Nat) : Fld := ⟨(.foc n), 0x090, 0, 32, .rw, 0⟩
def focIPeak (n : Nat) : Fld := ⟨(.foc n), 0x094, 0, 32, .rwt, 0⟩
def focICont (n : Nat) : Fld := ⟨(.foc n), 0x098, 0, 32, .rwt, 0⟩
def focI2tTau (n : Nat) : Fld := ⟨(.foc n), 0x09C, 0, 16, .rwt, 1000⟩
def focTDerate (n : Nat) : Fld := ⟨(.foc n), 0x0A0, 0, 16, .rwt, 0x5A00⟩
def focErrLim (n : Nat) : Fld := ⟨(.foc n), 0x0A4, 0, 32, .rwt, 0x00020000⟩
def focErrN (n : Nat) : Fld := ⟨(.foc n), 0x0A8, 0, 8, .rwt, 16⟩
def focId (n : Nat) : Fld := ⟨(.foc n), 0x0B0, 0, 32, .ro, 0⟩
def focIq (n : Nat) : Fld := ⟨(.foc n), 0x0B4, 0, 32, .ro, 0⟩
def focIdRef (n : Nat) : Fld := ⟨(.foc n), 0x0B8, 0, 32, .ro, 0⟩
def focIqRef (n : Nat) : Fld := ⟨(.foc n), 0x0BC, 0, 32, .ro, 0⟩
def focVd (n : Nat) : Fld := ⟨(.foc n), 0x0C0, 0, 32, .ro, 0⟩
def focVq (n : Nat) : Fld := ⟨(.foc n), 0x0C4, 0, 32, .ro, 0⟩
def focILimAct (n : Nat) : Fld := ⟨(.foc n), 0x0C8, 0, 32, .ro, 0⟩
def focI2tLevel (n : Nat) : Fld := ⟨(.foc n), 0x0CC, 0, 32, .ro, 0⟩
def focIdFw (n : Nat) : Fld := ⟨(.foc n), 0x0D0, 0, 32, .ro, 0⟩
def focWE (n : Nat) : Fld := ⟨(.foc n), 0x0D4, 0, 32, .ro, 0⟩
def focTheta (n : Nat) : Fld := ⟨(.foc n), 0x0D8, 0, 32, .ro, 0⟩
def focIntD (n : Nat) : Fld := ⟨(.foc n), 0x0DC, 0, 32, .ro, 0⟩
def focIntQ (n : Nat) : Fld := ⟨(.foc n), 0x0E0, 0, 32, .ro, 0⟩
def focVlimTicks (n : Nat) : Fld := ⟨(.foc n), 0x0E4, 16, 16, .ro, 0⟩
def focIlimTicks (n : Nat) : Fld := ⟨(.foc n), 0x0E4, 0, 16, .ro, 0⟩
def focAdvTrim (n : Nat) : Fld := ⟨(.foc n), 0x400, 0, 16, .rwt, 0⟩
def focTderEn (n : Nat) : Fld := ⟨(.foc n), 0x044, 7, 1, .rwt, if n < 16 then 1 else 0⟩
def focI2tEn (n : Nat) : Fld := ⟨(.foc n), 0x044, 6, 1, .rwt, 1⟩
def focAngleSrc (n : Nat) : Fld := ⟨(.foc n), 0x044, 4, 2, .rwt, 0⟩
def focAffEn (n : Nat) : Fld := ⟨(.foc n), 0x044, 3, 1, .rwt, 0⟩
def focFwEn (n : Nat) : Fld := ⟨(.foc n), 0x044, 2, 1, .rwt, 0⟩
def focAdvEn (n : Nat) : Fld := ⟨(.foc n), 0x044, 1, 1, .rwt, 1⟩
def focDecEn (n : Nat) : Fld := ⟨(.foc n), 0x044, 0, 1, .rwt, 1⟩

/-- The stored fields of the FOC page. -/
def focFields (n : Nat) : List Fld :=
  [focStock n, focStaleHold n, focFwActive n, focI2tActive n, focIlimSrc n, focIlim n, focIntHoldQ n, focIntHoldD n, focVlim n, focIntReset n, focKpD n, focKpQ n, focKiD n, focKiQ n, focRs n, focLd n, focLq n, focPsi n, focEcounts n, focAngleOfs n, focKa n, focVlimFrac n, focFwStart n, focFwKi n, focFwMax n, focIdCmd n, focIqCmd n, focIPeak n, focICont n, focI2tTau n] ++
  [focTDerate n, focErrLim n, focErrN n, focId n, focIq n, focIdRef n, focIqRef n, focVd n, focVq n, focILimAct n, focI2tLevel n, focIdFw n, focWE n, focTheta n, focIntD n, focIntQ n, focVlimTicks n, focIlimTicks n, focAdvTrim n, focTderEn n, focI2tEn n, focAngleSrc n, focAffEn n, focFwEn n, focAdvEn n, focDecEn n]

/-! ### OBS page (spec/09_sensorless_start_braking.md) -/
def obsRetries (n : Nat) : Fld := ⟨(.obs n), 0x040, 16, 4, .ro, 0⟩
def obsOutcome (n : Nat) : Fld := ⟨(.obs n), 0x040, 12, 3, .ro, 0⟩
def obsPurpose (n : Nat) : Fld := ⟨(.obs n), 0x040, 10, 2, .ro, 0⟩
def obsRevBlock (n : Nat) : Fld := ⟨(.obs n), 0x040, 9, 1, .ro, 0⟩
def obsFloor (n : Nat) : Fld := ⟨(.obs n), 0x040, 8, 1, .ro, 0⟩
def obsAgree (n : Nat) : Fld := ⟨(.obs n), 0x040, 7, 1, .ro, 0⟩
def obsPhase (n : Nat) : Fld := ⟨(.obs n), 0x040, 0, 4, .ro, 0⟩
def obsVmin (n : Nat) : Fld := ⟨(.obs n), 0x04C, 0, 32, .rwt, 0x00C80000⟩
def obsG1 (n : Nat) : Fld := ⟨(.obs n), 0x050, 0, 32, .rwt, 0x10000000⟩
def obsG2 (n : Nat) : Fld := ⟨(.obs n), 0x054, 0, 32, .rwt, 0⟩
def obsPllKp (n : Nat) : Fld := ⟨(.obs n), 0x058, 0, 32, .rwt, 0⟩
def obsPllKi (n : Nat) : Fld := ⟨(.obs n), 0x05C, 0, 32, .rwt, 0⟩
def obsResLim (n : Nat) : Fld := ⟨(.obs n), 0x060, 0, 32, .rwt, 0x00008000⟩
def obsCatchRetry (n : Nat) : Fld := ⟨(.obs n), 0x064, 8, 8, .rwt, 3⟩
def obsLossN (n : Nat) : Fld := ⟨(.obs n), 0x064, 0, 8, .rwt, 8⟩
def obsRetryClr (n : Nat) : Fld := ⟨(.obs n), 0x068, 0, 16, .rwt, 25000⟩
def obsIStart (n : Nat) : Fld := ⟨(.obs n), 0x06C, 0, 32, .rwt, 0⟩
def obsAlignT (n : Nat) : Fld := ⟨(.obs n), 0x070, 0, 16, .rwt, 100⟩
def obsRampAcc (n : Nat) : Fld := ⟨(.obs n), 0x074, 0, 32, .rwt, 0x00C80000⟩
def obsHandTmax (n : Nat) : Fld := ⟨(.obs n), 0x078, 16, 16, .rwt, 500⟩
def obsHandT (n : Nat) : Fld := ⟨(.obs n), 0x078, 0, 16, .rwt, 20⟩
def obsCatchT (n : Nat) : Fld := ⟨(.obs n), 0x080, 0, 16, .rwt, 2000⟩
def obsCatchVmin (n : Nat) : Fld := ⟨(.obs n), 0x084, 0, 32, .rwt, 0x00C80000⟩
def obsRevV (n : Nat) : Fld := ⟨(.obs n), 0x088, 0, 32, .rwt, 0x00640000⟩
def obsBrakeHold (n : Nat) : Fld := ⟨(.obs n), 0x08C, 16, 16, .rwt, 20⟩
def obsStillBrkT (n : Nat) : Fld := ⟨(.obs n), 0x08C, 0, 16, .rwt, 50⟩
def obsBrakeTmax (n : Nat) : Fld := ⟨(.obs n), 0x090, 0, 16, .rwt, 2000⟩
def obsAngle (n : Nat) : Fld := ⟨(.obs n), 0x0A0, 0, 32, .ro, 0⟩
def obsSpeed (n : Nat) : Fld := ⟨(.obs n), 0x0A4, 0, 32, .ro, 0⟩
def obsEmfA (n : Nat) : Fld := ⟨(.obs n), 0x0A8, 0, 32, .ro, 0⟩
def obsEmfB (n : Nat) : Fld := ⟨(.obs n), 0x0AC, 0, 32, .ro, 0⟩
def obsRes (n : Nat) : Fld := ⟨(.obs n), 0x0B0, 0, 32, .ro, 0⟩
def obsFF (n : Nat) : Fld := ⟨(.obs n), 0x0B4, 0, 32, .ro, 0⟩
def obsBlend (n : Nat) : Fld := ⟨(.obs n), 0x0B8, 0, 32, .ro, 0⟩
def obsPos (n : Nat) : Fld := ⟨(.obs n), 0x0C0, 0, 64, .ro, 0⟩
def obsSpeedCnt (n : Nat) : Fld := ⟨(.obs n), 0x0C8, 0, 32, .ro, 0⟩
def obsCatchSpeed (n : Nat) : Fld := ⟨(.obs n), 0x0CC, 0, 32, .ro, 0⟩
def obsCatchAngle (n : Nat) : Fld := ⟨(.obs n), 0x0D0, 0, 32, .ro, 0⟩
def obsCatchEmf (n : Nat) : Fld := ⟨(.obs n), 0x0D4, 0, 32, .ro, 0⟩
def obsScSpeed (n : Nat) : Fld := ⟨(.obs n), 0x0D8, 0, 32, .ro, 0⟩
def obsLosses (n : Nat) : Fld := ⟨(.obs n), 0x0DC, 16, 16, .ro, 0⟩
def obsCatches (n : Nat) : Fld := ⟨(.obs n), 0x0DC, 0, 16, .ro, 0⟩
def obsHfiEn (n : Nat) : Fld := ⟨(.obs n), 0x400, 0, 1, .rwt, 0⟩
def obsHfiV (n : Nat) : Fld := ⟨(.obs n), 0x404, 0, 32, .rwt, 0x00020000⟩
def obsHfiPolI (n : Nat) : Fld := ⟨(.obs n), 0x408, 0, 32, .rwt, 0⟩
def obsHfiKp (n : Nat) : Fld := ⟨(.obs n), 0x40C, 0, 32, .rwt, 0⟩
def obsHfiKi (n : Nat) : Fld := ⟨(.obs n), 0x410, 0, 32, .rwt, 0⟩
def obsStartMode (n : Nat) : Fld := ⟨(.obs n), 0x044, 4, 1, .rwt, 0⟩
def obsLowAct (n : Nat) : Fld := ⟨(.obs n), 0x044, 3, 1, .rwt, 0⟩
def obsRevEn (n : Nat) : Fld := ⟨(.obs n), 0x044, 2, 1, .rwt, 1⟩
def obsCatchBrake (n : Nat) : Fld := ⟨(.obs n), 0x044, 1, 1, .rwt, 0⟩
def obsCatchEn (n : Nat) : Fld := ⟨(.obs n), 0x044, 0, 1, .rwt, 1⟩

/-- The stored fields of the OBS page. -/
def obsFields (n : Nat) : List Fld :=
  [obsRetries n, obsOutcome n, obsPurpose n, obsRevBlock n, obsFloor n, obsAgree n, obsPhase n, obsVmin n, obsG1 n, obsG2 n, obsPllKp n, obsPllKi n, obsResLim n, obsCatchRetry n, obsLossN n, obsRetryClr n, obsIStart n, obsAlignT n, obsRampAcc n, obsHandTmax n, obsHandT n, obsCatchT n, obsCatchVmin n, obsRevV n, obsBrakeHold n, obsStillBrkT n, obsBrakeTmax n, obsAngle n, obsSpeed n, obsEmfA n] ++
  [obsEmfB n, obsRes n, obsFF n, obsBlend n, obsPos n, obsSpeedCnt n, obsCatchSpeed n, obsCatchAngle n, obsCatchEmf n, obsScSpeed n, obsLosses n, obsCatches n, obsHfiEn n, obsHfiV n, obsHfiPolI n, obsHfiKp n, obsHfiKi n, obsStartMode n, obsLowAct n, obsRevEn n, obsCatchBrake n, obsCatchEn n]

/-! ### MOT page (spec/10_motion_loops.md) -/
def motFbSrc (n : Nat) : Fld := ⟨(.mot n), 0x040, 4, 1, .ro, 0⟩
def motIntHoldP (n : Nat) : Fld := ⟨(.mot n), 0x040, 3, 1, .ro, 0⟩
def motIntHoldV (n : Nat) : Fld := ⟨(.mot n), 0x040, 2, 1, .ro, 0⟩
def motIlim (n : Nat) : Fld := ⟨(.mot n), 0x040, 1, 1, .ro, 0⟩
def motVlim (n : Nat) : Fld := ⟨(.mot n), 0x040, 0, 1, .ro, 0⟩
def motNp (n : Nat) : Fld := ⟨(.mot n), 0x044, 8, 4, .rwt, 0⟩
def motNv (n : Nat) : Fld := ⟨(.mot n), 0x044, 0, 4, .rwt, 0⟩
def motPhase (n : Nat) : Fld := ⟨(.mot n), 0x048, 16, 8, .ro, 0⟩
def motIntReset (n : Nat) : Fld := ⟨(.mot n), 0x04C, 0, 1, .wo, 0⟩
def motKpV (n : Nat) : Fld := ⟨(.mot n), 0x050, 0, 32, .rwt, 0⟩
def motKiV (n : Nat) : Fld := ⟨(.mot n), 0x054, 0, 32, .rwt, 0⟩
def motKpP (n : Nat) : Fld := ⟨(.mot n), 0x058, 0, 32, .rwt, 0⟩
def motKiP (n : Nat) : Fld := ⟨(.mot n), 0x05C, 0, 32, .rwt, 0⟩
def motKvff (n : Nat) : Fld := ⟨(.mot n), 0x060, 0, 32, .rwt, 0x40000000⟩
def motPvRatio (n : Nat) : Fld := ⟨(.mot n), 0x064, 0, 32, .rwt, 0x00010000⟩
def motVMax (n : Nat) : Fld := ⟨(.mot n), 0x068, 0, 32, .rwt, 0x7FFFFFFF⟩
def motVfiltK (n : Nat) : Fld := ⟨(.mot n), 0x06C, 0, 4, .rwt, 0⟩
def motVRef (n : Nat) : Fld := ⟨(.mot n), 0x080, 0, 32, .ro, 0⟩
def motVFb (n : Nat) : Fld := ⟨(.mot n), 0x084, 0, 32, .ro, 0⟩
def motIOut (n : Nat) : Fld := ⟨(.mot n), 0x088, 0, 32, .ro, 0⟩
def motIntV (n : Nat) : Fld := ⟨(.mot n), 0x08C, 0, 32, .ro, 0⟩
def motPCmd (n : Nat) : Fld := ⟨(.mot n), 0x090, 0, 64, .ro, 0⟩
def motPErr (n : Nat) : Fld := ⟨(.mot n), 0x098, 0, 64, .ro, 0⟩
def motPFb (n : Nat) : Fld := ⟨(.mot n), 0x0A0, 0, 64, .ro, 0⟩
def motIntP (n : Nat) : Fld := ⟨(.mot n), 0x0A8, 0, 32, .ro, 0⟩
def motExcCap (n : Nat) : Fld := ⟨(.mot n), 0x0C0, 5, 1, .rw, 0⟩
def motExcChirp (n : Nat) : Fld := ⟨(.mot n), 0x0C0, 4, 1, .rw, 0⟩
def motExcPoint (n : Nat) : Fld := ⟨(.mot n), 0x0C0, 1, 2, .rw, 0⟩
def motExcRun (n : Nat) : Fld := ⟨(.mot n), 0x0C0, 0, 1, .rw, 0⟩
def motExcAmp (n : Nat) : Fld := ⟨(.mot n), 0x0C4, 0, 32, .rw, 0⟩
def motExcF0 (n : Nat) : Fld := ⟨(.mot n), 0x0C8, 0, 32, .rw, 0⟩
def motExcF1 (n : Nat) : Fld := ⟨(.mot n), 0x0CC, 0, 32, .rw, 0⟩
def motExcT (n : Nat) : Fld := ⟨(.mot n), 0x0D0, 0, 32, .rw, 0⟩
def motCapBase (n : Nat) : Fld := ⟨(.mot n), 0x0D4, 4, 18, .rw, 0⟩
def motCapSize (n : Nat) : Fld := ⟨(.mot n), 0x0D8, 0, 15, .rw, 1024⟩
def motCapWr (n : Nat) : Fld := ⟨(.mot n), 0x0DC, 0, 32, .ro, 0⟩

/-- The stored fields of the MOT page. -/
def motFields (n : Nat) : List Fld :=
  [motFbSrc n, motIntHoldP n, motIntHoldV n, motIlim n, motVlim n, motNp n, motNv n, motPhase n, motIntReset n, motKpV n, motKiV n, motKpP n, motKiP n, motKvff n, motPvRatio n, motVMax n, motVfiltK n, motVRef n, motVFb n, motIOut n, motIntV n, motPCmd n, motPErr n, motPFb n, motIntP n, motExcCap n, motExcChirp n, motExcPoint n, motExcRun n, motExcAmp n] ++
  [motExcF0 n, motExcF1 n, motExcT n, motCapBase n, motCapSize n, motCapWr n]

/-! ### PRF page (spec/11_profiles_ephemerides_curves.md) -/
def prfEphState (n : Nat) : Fld := ⟨(.prf n), 0x040, 12, 4, .ro, 0⟩
def prfPhase (n : Nat) : Fld := ⟨(.prf n), 0x040, 8, 3, .ro, 0⟩
def prfStartTrack (n : Nat) : Fld := ⟨(.prf n), 0x040, 5, 1, .ro, 0⟩
def prfAtTarget (n : Nat) : Fld := ⟨(.prf n), 0x040, 4, 1, .ro, 0⟩
def prfMoving (n : Nat) : Fld := ⟨(.prf n), 0x040, 3, 1, .ro, 0⟩
def prfCmd (n : Nat) : Fld := ⟨(.prf n), 0x044, 0, 4, .wo, 0⟩
def prfLastCmd (n : Nat) : Fld := ⟨(.prf n), 0x048, 8, 4, .ro, 0⟩
def prfResult (n : Nat) : Fld := ⟨(.prf n), 0x048, 0, 8, .ro, 0⟩
def prfTarget (n : Nat) : Fld := ⟨(.prf n), 0x050, 0, 64, .rw, 0⟩
def prfDelta (n : Nat) : Fld := ⟨(.prf n), 0x058, 0, 64, .rw, 0⟩
def prfVMax (n : Nat) : Fld := ⟨(.prf n), 0x060, 0, 32, .rwt, 0⟩
def prfAMax (n : Nat) : Fld := ⟨(.prf n), 0x064, 0, 32, .rwt, 0⟩
def prfJMax (n : Nat) : Fld := ⟨(.prf n), 0x068, 0, 32, .rwt, 0⟩
def prfVTarget (n : Nat) : Fld := ⟨(.prf n), 0x06C, 0, 32, .rw, 0⟩
def prfLimLo (n : Nat) : Fld := ⟨(.prf n), 0x070, 0, 64, .rwt, 2^64 - 2^63⟩
def prfLimHi (n : Nat) : Fld := ⟨(.prf n), 0x078, 0, 64, .rwt, 2^63 - 1⟩
def prfP (n : Nat) : Fld := ⟨(.prf n), 0x080, 0, 64, .ro, 0⟩
def prfV (n : Nat) : Fld := ⟨(.prf n), 0x088, 0, 32, .ro, 0⟩
def prfA (n : Nat) : Fld := ⟨(.prf n), 0x08C, 0, 32, .ro, 0⟩
def prfTgtAct (n : Nat) : Fld := ⟨(.prf n), 0x090, 0, 64, .ro, 0⟩
def prfTLeft (n : Nat) : Fld := ⟨(.prf n), 0x098, 0, 32, .ro, 0⟩
def prfReplans (n : Nat) : Fld := ⟨(.prf n), 0x09C, 0, 32, .ro, 0⟩
def prfEphTimed (n : Nat) : Fld := ⟨(.prf n), 0x0A0, 8, 1, .rwt, 0⟩
def prfEphStream (n : Nat) : Fld := ⟨(.prf n), 0x0A0, 0, 6, .rwt, 0⟩
def prfEphStartT (n : Nat) : Fld := ⟨(.prf n), 0x0A8, 0, 64, .rw, 0⟩
def prfEphResumeMin (n : Nat) : Fld := ⟨(.prf n), 0x0B0, 0, 16, .rwt, 25⟩
def prfEphIdx (n : Nat) : Fld := ⟨(.prf n), 0x0B4, 0, 32, .ro, 0⟩
def prfEphDone (n : Nat) : Fld := ⟨(.prf n), 0x0B8, 0, 32, .ro, 0⟩
def prfEphK (n : Nat) : Fld := ⟨(.prf n), 0x0BC, 0, 24, .ro, 0⟩
def prfEphTag (n : Nat) : Fld := ⟨(.prf n), 0x0C0, 0, 32, .ro, 0⟩
def prfEphTagEvt (n : Nat) : Fld := ⟨(.prf n), 0x0C4, 0, 32, .ro, 0⟩
def prfEphErr (n : Nat) : Fld := ⟨(.prf n), 0x0C8, 0, 2, .ro, 0⟩

/-- The stored fields of the PRF page. -/
def prfFields (n : Nat) : List Fld :=
  [prfEphState n, prfPhase n, prfStartTrack n, prfAtTarget n, prfMoving n, prfCmd n, prfLastCmd n, prfResult n, prfTarget n, prfDelta n, prfVMax n, prfAMax n, prfJMax n, prfVTarget n, prfLimLo n, prfLimHi n, prfP n, prfV n, prfA n, prfTgtAct n, prfTLeft n, prfReplans n, prfEphTimed n, prfEphStream n, prfEphStartT n, prfEphResumeMin n, prfEphIdx n, prfEphDone n, prfEphK n, prfEphTag n] ++
  [prfEphTagEvt n, prfEphErr n]

/-! ### FB page (spec/08_feedback_ports.md) -/
def fbPosValid (n : Nat) : Fld := ⟨(.fb n), 0x040, 15, 1, .ro, 0⟩
def fbStill (n : Nat) : Fld := ⟨(.fb n), 0x040, 14, 1, .ro, 1⟩
def fbEst (n : Nat) : Fld := ⟨(.fb n), 0x040, 12, 2, .ro, 0⟩
def fbDir (n : Nat) : Fld := ⟨(.fb n), 0x040, 11, 1, .ro, 0⟩
def fbAtLimit (n : Nat) : Fld := ⟨(.fb n), 0x040, 10, 1, .ro, 0⟩
def fbFrameErr (n : Nat) : Fld := ⟨(.fb n), 0x040, 9, 1, .ro, 0⟩
def fbHallBad (n : Nat) : Fld := ⟨(.fb n), 0x040, 8, 1, .ro, 0⟩
def fbWire (n : Nat) : Fld := ⟨(.fb n), 0x040, 5, 3, .ro, 0⟩
def fbRefErr (n : Nat) : Fld := ⟨(.fb n), 0x040, 4, 1, .ro, 0⟩
def fbSetPend (n : Nat) : Fld := ⟨(.fb n), 0x040, 3, 1, .ro, 0⟩
def fbLines (n : Nat) : Fld := ⟨(.fb n), 0x040, 0, 3, .ro, 0⟩
def fbFilt (n : Nat) : Fld := ⟨(.fb n), 0x044, 12, 4, .rwt, 2⟩
def fbSe (n : Nat) : Fld := ⟨(.fb n), 0x044, 8, 3, .rwt, 0⟩
def fbLimEn (n : Nat) : Fld := ⟨(.fb n), 0x044, 5, 1, .rwt, 0⟩
def fbZUsed (n : Nat) : Fld := ⟨(.fb n), 0x044, 4, 1, .rwt, 0⟩
def fbInvert (n : Nat) : Fld := ⟨(.fb n), 0x044, 3, 1, .rwt, 0⟩
def fbMode (n : Nat) : Fld := ⟨(.fb n), 0x044, 0, 3, .rwt, 1⟩
def fbPosPort (n : Nat) : Fld := ⟨(.fb n), 0x04C, 8, 5, .rwt, n⟩
def fbCommPort (n : Nat) : Fld := ⟨(.fb n), 0x04C, 0, 5, .rwt, n⟩
def fbSetPos (n : Nat) : Fld := ⟨(.fb n), 0x054, 0, 1, .wo, 0⟩
def fbPos (n : Nat) : Fld := ⟨(.fb n), 0x058, 0, 64, .ro, 0⟩
def fbPosSnap (n : Nat) : Fld := ⟨(.fb n), 0x060, 0, 64, .ro, 0⟩
def fbPosSet (n : Nat) : Fld := ⟨(.fb n), 0x068, 0, 64, .rw, 0⟩
def fbLimLo (n : Nat) : Fld := ⟨(.fb n), 0x070, 0, 64, .rwt, 2^64 - 2^47⟩
def fbLimHi (n : Nat) : Fld := ⟨(.fb n), 0x078, 0, 64, .rwt, 2^47 - 1⟩
def fbSpeed (n : Nat) : Fld := ⟨(.fb n), 0x080, 0, 32, .ro, 0⟩
def fbAngle (n : Nat) : Fld := ⟨(.fb n), 0x084, 0, 32, .ro, 0⟩
def fbTStill (n : Nat) : Fld := ⟨(.fb n), 0x088, 0, 24, .rw, 2000000⟩
def fbWireT (n : Nat) : Fld := ⟨(.fb n), 0x08C, 0, 16, .rw, 200⟩
def fbIllegalLimit (n : Nat) : Fld := ⟨(.fb n), 0x090, 0, 8, .rw, 4⟩
def fbIllegalCount (n : Nat) : Fld := ⟨(.fb n), 0x094, 0, 32, .ro, 0⟩
def fbLimLost (n : Nat) : Fld := ⟨(.fb n), 0x098, 0, 32, .ro, 0⟩
def fbLatchArm (n : Nat) : Fld := ⟨(.fb n), 0x0A0, 9, 1, .rw, 0⟩
def fbLatchCont (n : Nat) : Fld := ⟨(.fb n), 0x0A0, 8, 1, .rw, 0⟩
def fbLatchEvp (n : Nat) : Fld := ⟨(.fb n), 0x0A0, 4, 4, .rw, 0⟩
def fbLatchSrc (n : Nat) : Fld := ⟨(.fb n), 0x0A0, 0, 2, .rw, 0⟩
def fbLatchCount (n : Nat) : Fld := ⟨(.fb n), 0x0A4, 0, 32, .ro, 0⟩
def fbLatchPos (n : Nat) : Fld := ⟨(.fb n), 0x0A8, 0, 64, .ro, 0⟩
def fbLatchTime (n : Nat) : Fld := ⟨(.fb n), 0x0B0, 0, 64, .ro, 0⟩
def fbRefValue (n : Nat) : Fld := ⟨(.fb n), 0x0B8, 0, 64, .rw, 0⟩
def fbRefArm (n : Nat) : Fld := ⟨(.fb n), 0x0C0, 0, 1, .rw, 0⟩
def fbToothN (n : Nat) : Fld := ⟨(.fb n), 0x0C4, 16, 16, .rwt, 0⟩
def fbToothRefLimit (n : Nat) : Fld := ⟨(.fb n), 0x0C4, 8, 8, .rwt, 2⟩
def fbToothDirSrc (n : Nat) : Fld := ⟨(.fb n), 0x0C4, 2, 2, .rwt, 0⟩
def fbToothFill (n : Nat) : Fld := ⟨(.fb n), 0x0C4, 1, 1, .rwt, 1⟩
def fbToothKind (n : Nat) : Fld := ⟨(.fb n), 0x0C4, 0, 1, .rwt, 0⟩
def fbToothRatio (n : Nat) : Fld := ⟨(.fb n), 0x0C8, 0, 32, .rwt, 0x00018000⟩
def fbToothRefCounts (n : Nat) : Fld := ⟨(.fb n), 0x0CC, 16, 16, .ro, 0⟩
def fbToothRefMiss (n : Nat) : Fld := ⟨(.fb n), 0x0CC, 0, 8, .ro, 0⟩
def fbHallReverse (n : Nat) : Fld := ⟨(.fb n), 0x0D0, 1, 1, .rwt, 0⟩
def fbHallInterp (n : Nat) : Fld := ⟨(.fb n), 0x0D0, 0, 1, .rwt, 0⟩
def fbHallOfs (n : Nat) : Fld := ⟨(.fb n), 0x0D4, 0, 32, .rwt, 0⟩
def fbSserDiv (n : Nat) : Fld := ⟨(.fb n), 0x0E0, 0, 10, .rwt, 100⟩
def fbSserGray (n : Nat) : Fld := ⟨(.fb n), 0x0E4, 25, 1, .rwt, 0⟩
def fbSserSigned (n : Nat) : Fld := ⟨(.fb n), 0x0E4, 24, 1, .rwt, 0⟩
def fbSserPosW (n : Nat) : Fld := ⟨(.fb n), 0x0E4, 16, 6, .rwt, 24⟩
def fbSserPosLsb (n : Nat) : Fld := ⟨(.fb n), 0x0E4, 8, 6, .rwt, 8⟩
def fbSserLen (n : Nat) : Fld := ⟨(.fb n), 0x0E4, 0, 7, .rwt, 32⟩
def fbCrcPoly (n : Nat) : Fld := ⟨(.fb n), 0x0E8, 16, 16, .rwt, 0x0007⟩
def fbCrcInv (n : Nat) : Fld := ⟨(.fb n), 0x0E8, 8, 1, .rwt, 0⟩
def fbCrcWidth (n : Nat) : Fld := ⟨(.fb n), 0x0E8, 0, 5, .rwt, 8⟩
def fbSserErrLimit (n : Nat) : Fld := ⟨(.fb n), 0x0EC, 24, 8, .rwt, 3⟩
def fbSserSampleDly (n : Nat) : Fld := ⟨(.fb n), 0x0EC, 16, 8, .rwt, 0⟩
def fbSserLead (n : Nat) : Fld := ⟨(.fb n), 0x0EC, 0, 16, .rwt, 7000⟩
def fbSserErrs (n : Nat) : Fld := ⟨(.fb n), 0x0F0, 0, 32, .ro, 0⟩
def fbSserFrame (n : Nat) : Fld := ⟨(.fb n), 0x0F8, 0, 64, .ro, 0⟩

/-- The stored fields of the FB page. -/
def fbFields (n : Nat) : List Fld :=
  [fbPosValid n, fbStill n, fbEst n, fbDir n, fbAtLimit n, fbFrameErr n, fbHallBad n, fbWire n, fbRefErr n, fbSetPend n, fbLines n, fbFilt n, fbSe n, fbLimEn n, fbZUsed n, fbInvert n, fbMode n, fbPosPort n, fbCommPort n, fbSetPos n, fbPos n, fbPosSnap n, fbPosSet n, fbLimLo n, fbLimHi n, fbSpeed n, fbAngle n, fbTStill n, fbWireT n, fbIllegalLimit n] ++
  [fbIllegalCount n, fbLimLost n, fbLatchArm n, fbLatchCont n, fbLatchEvp n, fbLatchSrc n, fbLatchCount n, fbLatchPos n, fbLatchTime n, fbRefValue n, fbRefArm n, fbToothN n, fbToothRefLimit n, fbToothDirSrc n, fbToothFill n, fbToothKind n, fbToothRatio n, fbToothRefCounts n, fbToothRefMiss n, fbHallReverse n, fbHallInterp n, fbHallOfs n, fbSserDiv n, fbSserGray n, fbSserSigned n, fbSserPosW n, fbSserPosLsb n, fbSserLen n, fbCrcPoly n, fbCrcInv n] ++
  [fbCrcWidth n, fbSserErrLimit n, fbSserSampleDly n, fbSserLead n, fbSserErrs n, fbSserFrame n]

/-! ### SUP page (spec/10_motion_loops.md) -/
def supFeRun (n : Nat) : Fld := ⟨(.sup n), 0x040, 16, 8, .ro, 0⟩
def supFrzRun (n : Nat) : Fld := ⟨(.sup n), 0x040, 0, 16, .ro, 0⟩
def supFeLimit (n : Nat) : Fld := ⟨(.sup n), 0x048, 0, 64, .rwt, 10000⟩
def supFeTime (n : Nat) : Fld := ⟨(.sup n), 0x050, 0, 8, .rwt, 4⟩
def supFrzT (n : Nat) : Fld := ⟨(.sup n), 0x054, 0, 16, .rwt, 50⟩
def supFrzTorque (n : Nat) : Fld := ⟨(.sup n), 0x058, 0, 32, .rwt, 0x00010000⟩
def supFrzV (n : Nat) : Fld := ⟨(.sup n), 0x05C, 0, 32, .rwt, 0x00003E80⟩
def supFbLoss (n : Nat) : Fld := ⟨(.sup n), 0x060, 0, 2, .rwt, 0⟩
def supOvrLimit (n : Nat) : Fld := ⟨(.sup n), 0x064, 0, 4, .rwt, 3⟩
def supOvrCount (n : Nat) : Fld := ⟨(.sup n), 0x068, 0, 32, .ro, 0⟩
def supStopDec (n : Nat) : Fld := ⟨(.sup n), 0x06C, 0, 32, .rwt, 0x01000000⟩
def supStopVtol (n : Nat) : Fld := ⟨(.sup n), 0x070, 0, 32, .rwt, 0x00000640⟩
def supStopHold (n : Nat) : Fld := ⟨(.sup n), 0x074, 0, 16, .rwt, 25⟩
def supStopTmax (n : Nat) : Fld := ⟨(.sup n), 0x078, 0, 16, .rwt, 2000⟩
def supVTrip (n : Nat) : Fld := ⟨(.sup n), 0x07C, 0, 32, .rwt, 0⟩

/-- The stored fields of the SUP page. -/
def supFields (n : Nat) : List Fld :=
  [supFeRun n, supFrzRun n, supFeLimit n, supFeTime n, supFrzT n, supFrzTorque n, supFrzV n, supFbLoss n, supOvrLimit n, supOvrCount n, supStopDec n, supStopVtol n, supStopHold n, supStopTmax n, supVTrip n]

/-! ### CRV page (spec/11_profiles_ephemerides_curves.md) -/
def crvStale (n : Nat) : Fld := ⟨(.crv n), 0x040, 1, 1, .ro, 0⟩
def crvOn (n : Nat) : Fld := ⟨(.crv n), 0x040, 0, 1, .ro, 0⟩
def crvIn (n : Nat) : Fld := ⟨(.crv n), 0x044, 0, 32, .ro, 0⟩
def crvV (n : Nat) : Fld := ⟨(.crv n), 0x048, 0, 32, .ro, 0⟩
def crvVTgt (n : Nat) : Fld := ⟨(.crv n), 0x04C, 0, 32, .ro, 0⟩
def crvNpts (n : Nat) : Fld := ⟨(.crv n), 0x050, 16, 5, .rwt, 2⟩
def crvAuto (n : Nat) : Fld := ⟨(.crv n), 0x050, 12, 1, .rwt, 0⟩
def crvEvp (n : Nat) : Fld := ⟨(.crv n), 0x050, 8, 4, .rwt, 0⟩
def crvSeqE (n : Nat) : Fld := ⟨(.crv n), 0x050, 4, 4, .rwt, 0⟩
def crvSrc (n : Nat) : Fld := ⟨(.crv n), 0x050, 0, 2, .rwt, 1⟩
def crvInOn (n : Nat) : Fld := ⟨(.crv n), 0x054, 0, 32, .rwt, 1⟩
def crvInOff (n : Nat) : Fld := ⟨(.crv n), 0x058, 0, 32, .rwt, 0⟩
def crvRamp (n : Nat) : Fld := ⟨(.crv n), 0x05C, 0, 32, .rwt, 1000000⟩
def crvStaleT (n : Nat) : Fld := ⟨(.crv n), 0x060, 0, 16, .rwt, 250⟩
def crvNetVal (n : Nat) : Fld := ⟨(.crv n), 0x064, 0, 32, .rw, 0⟩
def crvX (n : Nat) (i : Nat) : Fld := ⟨(.crv n), 0x080 + 8 * i, 0, 32, .rwt, i⟩
def crvY (n : Nat) (i : Nat) : Fld := ⟨(.crv n), 0x084 + 8 * i, 0, 32, .rwt, 0⟩

/-- The stored fields of the CRV page. -/
def crvFields (n : Nat) : List Fld :=
  [crvStale n, crvOn n, crvIn n, crvV n, crvVTgt n, crvNpts n, crvAuto n, crvEvp n, crvSeqE n, crvSrc n, crvInOn n, crvInOff n, crvRamp n, crvStaleT n, crvNetVal n] ++
  (List.range 16).flatMap (fun i => [crvX n i]) ++
  (List.range 16).flatMap (fun i => [crvY n i])

/-! ### PRG page (spec/13_loop_engine.md) -/
def prgInstSrc (n : Nat) : Fld := ⟨(.prg n), 0x054, 2, 20, .rw, 0⟩
def prgInstLen (n : Nat) : Fld := ⟨(.prg n), 0x058, 0, 13, .rw, 0⟩
def prgInstStockId (n : Nat) : Fld := ⟨(.prg n), 0x05C, 16, 16, .wo, 0⟩
def prgInstKeep (n : Nat) : Fld := ⟨(.prg n), 0x05C, 4, 1, .wo, 0⟩
def prgInstAction (n : Nat) : Fld := ⟨(.prg n), 0x05C, 2, 2, .wo, 0⟩
def prgInstSlot (n : Nat) : Fld := ⟨(.prg n), 0x05C, 0, 2, .wo, 0⟩
def prgInstWord (n : Nat) : Fld := ⟨(.prg n), 0x060, 16, 16, .ro, 0⟩
def prgInstResult (n : Nat) : Fld := ⟨(.prg n), 0x060, 0, 8, .ro, 0⟩
def prgSwap (n : Nat) : Fld := ⟨(.prg n), 0x064, 0, 4, .wo, 0⟩
def prgNa (n : Nat) : Fld := ⟨(.prg n), 0x068, 0, 8, .rwt, 0⟩
def prgPhaseA (n : Nat) : Fld := ⟨(.prg n), 0x06C, 16, 8, .ro, 0⟩
def prgRegion (n : Nat) : Fld := ⟨(.prg n), 0x0C0, 4, 2, .rw, 0⟩
def prgWinSlot (n : Nat) : Fld := ⟨(.prg n), 0x0C0, 0, 2, .rw, 0⟩
def prgFlags (n : Nat) (s : Nat) : Fld := ⟨(.prg n), 0x070, 8 * s, 5, .w1c, 0⟩
def prgHostIn (n : Nat) (i : Nat) : Fld := ⟨(.prg n), 0x080 + 4 * i, 0, 32, .rw, 0⟩
def prgOut (n : Nat) (i : Nat) : Fld := ⟨(.prg n), 0x0A0 + 4 * i, 0, 32, .ro, 0⟩

/-- The stored fields of the PRG page. -/
def prgFields (n : Nat) : List Fld :=
  [prgInstSrc n, prgInstLen n, prgInstStockId n, prgInstKeep n, prgInstAction n, prgInstSlot n, prgInstWord n, prgInstResult n, prgSwap n, prgNa n, prgPhaseA n, prgRegion n, prgWinSlot n] ++
  (List.range 4).flatMap (fun s => [prgFlags n s]) ++
  (List.range 8).flatMap (fun i => [prgHostIn n i]) ++
  (List.range 8).flatMap (fun i => [prgOut n i])

/-! ### EVP page (spec/12_event_ports.md) -/
def evpRetState (k : Nat) : Fld := ⟨(.evp k), 0x040, 12, 4, .ro, 0⟩
def evpSrcStale (k : Nat) : Fld := ⟨(.evp k), 0x040, 11, 1, .ro, 0⟩
def evpEmuLag (k : Nat) : Fld := ⟨(.evp k), 0x040, 10, 1, .ro, 0⟩
def evpLink (k : Nat) : Fld := ⟨(.evp k), 0x044, 16, 4, .rwt, 0⟩
def evpRole (k : Nat) : Fld := ⟨(.evp k), 0x044, 12, 1, .rwt, 0⟩
def evpFilt (k : Nat) : Fld := ⟨(.evp k), 0x044, 8, 4, .rwt, 2⟩
def evpInv (k : Nat) : Fld := ⟨(.evp k), 0x044, 5, 1, .rwt, 0⟩
def evpPins (k : Nat) : Fld := ⟨(.evp k), 0x044, 4, 1, .rwt, 0⟩
def evpMode (k : Nat) : Fld := ⟨(.evp k), 0x044, 0, 3, .rwt, 0⟩
def evpCmd (k : Nat) : Fld := ⟨(.evp k), 0x04C, 0, 4, .wo, 0⟩
def evpLastCmd (k : Nat) : Fld := ⟨(.evp k), 0x050, 8, 4, .ro, 0⟩
def evpResult (k : Nat) : Fld := ⟨(.evp k), 0x050, 0, 8, .ro, 0⟩
def evpRetFbPort (k : Nat) : Fld := ⟨(.evp k), 0x060, 24, 5, .rwt, 0⟩
def evpRetTimed (k : Nat) : Fld := ⟨(.evp k), 0x060, 16, 1, .rwt, 0⟩
def evpRetStream (k : Nat) : Fld := ⟨(.evp k), 0x060, 8, 6, .rwt, 0⟩
def evpRetSrc (k : Nat) : Fld := ⟨(.evp k), 0x060, 4, 1, .rwt, 0⟩
def evpRetList (k : Nat) : Fld := ⟨(.evp k), 0x060, 0, 1, .rwt, 0⟩
def evpRetStartT (k : Nat) : Fld := ⟨(.evp k), 0x068, 0, 64, .rw, 0⟩
def evpPulseGap (k : Nat) : Fld := ⟨(.evp k), 0x070, 0, 16, .rwt, 100⟩
def evpRetIdx (k : Nat) : Fld := ⟨(.evp k), 0x074, 0, 32, .ro, 0⟩
def evpRetFired (k : Nat) : Fld := ⟨(.evp k), 0x078, 0, 32, .ro, 0⟩
def evpRetLate (k : Nat) : Fld := ⟨(.evp k), 0x07C, 16, 16, .ro, 0⟩
def evpLateFire (k : Nat) : Fld := ⟨(.evp k), 0x07C, 0, 16, .ro, 0⟩
def evpRetTag (k : Nat) : Fld := ⟨(.evp k), 0x080, 0, 8, .ro, 0⟩
def evpNetHold (k : Nat) : Fld := ⟨(.evp k), 0x084, 0, 8, .rwt, 2⟩
def evpRetTime (k : Nat) : Fld := ⟨(.evp k), 0x088, 0, 64, .ro, 0⟩
def evpNetP (k : Nat) : Fld := ⟨(.evp k), 0x090, 0, 64, .rw, 0⟩
def evpNetV (k : Nat) : Fld := ⟨(.evp k), 0x098, 0, 32, .rw, 0⟩
def evpNetTs (k : Nat) : Fld := ⟨(.evp k), 0x0A0, 0, 64, .rw, 0⟩
def evpEmuObs (k : Nat) : Fld := ⟨(.evp k), 0x0B0, 8, 1, .rwt, 0⟩
def evpEmuSel (k : Nat) : Fld := ⟨(.evp k), 0x0B0, 0, 5, .rwt, 0⟩
def evpEmuNum (k : Nat) : Fld := ⟨(.evp k), 0x0B4, 0, 32, .rwt, 1⟩
def evpEmuDen (k : Nat) : Fld := ⟨(.evp k), 0x0B8, 0, 24, .rwt, 1⟩
def evpEmuMin (k : Nat) : Fld := ⟨(.evp k), 0x0BC, 0, 8, .rwt, 16⟩
def evpEmuZper (k : Nat) : Fld := ⟨(.evp k), 0x0C0, 0, 32, .rwt, 0⟩
def evpEmuPeak (k : Nat) : Fld := ⟨(.evp k), 0x0C4, 16, 16, .ro, 0⟩
def evpEmuBacklog (k : Nat) : Fld := ⟨(.evp k), 0x0C4, 0, 16, .ro, 0⟩
def evpLatPort (k : Nat) : Fld := ⟨(.evp k), 0x0D0, 8, 5, .rw, 0⟩
def evpLatWinEn (k : Nat) : Fld := ⟨(.evp k), 0x0D0, 5, 1, .rw, 0⟩
def evpLatCont (k : Nat) : Fld := ⟨(.evp k), 0x0D0, 4, 1, .rw, 0⟩
def evpLatArm (k : Nat) : Fld := ⟨(.evp k), 0x0D0, 3, 1, .rw, 0⟩
def evpLatEdge (k : Nat) : Fld := ⟨(.evp k), 0x0D0, 0, 2, .rw, 1⟩
def evpLatWinS (k : Nat) : Fld := ⟨(.evp k), 0x0D8, 0, 64, .rw, 0⟩
def evpLatWinE (k : Nat) : Fld := ⟨(.evp k), 0x0E0, 0, 64, .rw, 0⟩
def evpLatTime (k : Nat) : Fld := ⟨(.evp k), 0x0E8, 0, 64, .ro, 0⟩
def evpLatPos (k : Nat) : Fld := ⟨(.evp k), 0x0F0, 0, 64, .ro, 0⟩
def evpLatCount (k : Nat) : Fld := ⟨(.evp k), 0x0F8, 0, 32, .ro, 0⟩
def evpLatGated (k : Nat) : Fld := ⟨(.evp k), 0x0FC, 0, 32, .ro, 0⟩
def evpPwPol (k : Nat) : Fld := ⟨(.evp k), 0x100, 0, 1, .rw, 0⟩
def evpPwWidth (k : Nat) : Fld := ⟨(.evp k), 0x104, 0, 32, .ro, 0⟩
def evpPwPeriod (k : Nat) : Fld := ⟨(.evp k), 0x108, 0, 32, .ro, 0⟩
def evpPwCount (k : Nat) : Fld := ⟨(.evp k), 0x10C, 0, 32, .ro, 0⟩
def evpOutSlot (k : Nat) : Fld := ⟨(.evp k), 0x110, 8, 2, .rwt, 0⟩
def evpOutAxis (k : Nat) : Fld := ⟨(.evp k), 0x110, 0, 5, .rwt, 0⟩

/-- The stored fields of the EVP page. -/
def evpFields (k : Nat) : List Fld :=
  [evpRetState k, evpSrcStale k, evpEmuLag k, evpLink k, evpRole k, evpFilt k, evpInv k, evpPins k, evpMode k, evpCmd k, evpLastCmd k, evpResult k, evpRetFbPort k, evpRetTimed k, evpRetStream k, evpRetSrc k, evpRetList k, evpRetStartT k, evpPulseGap k, evpRetIdx k, evpRetFired k, evpRetLate k, evpLateFire k, evpRetTag k, evpNetHold k, evpRetTime k, evpNetP k, evpNetV k] ++
  [evpNetTs k, evpEmuObs k, evpEmuSel k, evpEmuNum k, evpEmuDen k, evpEmuMin k, evpEmuZper k, evpEmuPeak k, evpEmuBacklog k, evpLatPort k, evpLatWinEn k, evpLatCont k, evpLatArm k, evpLatEdge k, evpLatWinS k, evpLatWinE k, evpLatTime k, evpLatPos k, evpLatCount k, evpLatGated k, evpPwPol k, evpPwWidth k, evpPwPeriod k, evpPwCount k, evpOutSlot k, evpOutAxis k]

end Sys2Proof.Machine
end

