-- ==== Sys2Proof/Machine/FieldsCluster.lean ====
section
/-! DEFINITION. The register fields of the cluster and die pages: ADC, XCK, CLU, GLN, PWD, XST.
One definition per field of the register tables: page, offset, lowest bit, width, access code, reset value (R14, R17).
Generated from the tables of the chapter named at each page. -/
namespace Sys2Proof.Machine

/-! ### ADC page (spec/05_converters.md) -/
def adcRetired (c : Nat) : Fld := ⟨(.adc c), 0x040, 16, 5, .ro, 0⟩
def adcActive (c : Nat) : Fld := ⟨(.adc c), 0x040, 8, 5, .ro, 0⟩
def adcFgcalBusy (c : Nat) : Fld := ⟨(.adc c), 0x040, 7, 1, .ro, 0⟩
def adcSpare (c : Nat) : Fld := ⟨(.adc c), 0x040, 4, 3, .ro, 7⟩
def adcMode (c : Nat) : Fld := ⟨(.adc c), 0x040, 0, 3, .ro, 0⟩
def adcFgcal (c : Nat) : Fld := ⟨(.adc c), 0x044, 8, 1, .wo, 0⟩
def adcLowpwr (c : Nat) : Fld := ⟨(.adc c), 0x044, 0, 1, .rwt, 0⟩
def adcRotCount (c : Nat) : Fld := ⟨(.adc c), 0x048, 0, 32, .ro, 0⟩
def adcSeqGo (c : Nat) : Fld := ⟨(.adc c), 0x060, 31, 1, .wo, 0⟩
def adcSeqEvp (c : Nat) : Fld := ⟨(.adc c), 0x060, 24, 4, .rwt, 0⟩
def adcSeqTrig (c : Nat) : Fld := ⟨(.adc c), 0x060, 20, 3, .rwt, 0⟩
def adcSeqPeriod (c : Nat) : Fld := ⟨(.adc c), 0x060, 8, 12, .rwt, 1⟩
def adcSeqLen (c : Nat) : Fld := ⟨(.adc c), 0x060, 0, 5, .rwt, 0⟩
def adcSeqDrop (c : Nat) : Fld := ⟨(.adc c), 0x064, 0, 32, .ro, 0⟩
def adcInjLost (c : Nat) : Fld := ⟨(.adc c), 0x068, 0, 32, .ro, 0⟩
def adcWcFlags (c : Nat) : Fld := ⟨(.adc c), 0x06C, 0, 32, .w1c, 0⟩
def adcInjGo (c : Nat) : Fld := ⟨(.adc c), 0x1E0, 0, 8, .wo, 0⟩
def adcBgEn (c : Nat) : Fld := ⟨(.adc c), 0x400, 0, 1, .rw, 1⟩
def adcWinGain (c : Nat) (k : Nat) : Fld := ⟨(.adc c), 0x04C, 4 * k, 3, .rwt, 0⟩
def adcSeqCfgTs (c : Nat) (e : Nat) : Fld := ⟨(.adc c), 0x080 + 16 * e, 20, 9, .rwt, 3⟩
def adcSeqCfgK (c : Nat) (e : Nat) : Fld := ⟨(.adc c), 0x080 + 16 * e, 16, 4, .rwt, 1⟩
def adcSeqCfgFilt (c : Nat) (e : Nat) : Fld := ⟨(.adc c), 0x080 + 16 * e, 12, 2, .rwt, 0⟩
def adcSeqCfgGain (c : Nat) (e : Nat) : Fld := ⟨(.adc c), 0x080 + 16 * e, 8, 3, .rwt, 0⟩
def adcSeqCfgChan (c : Nat) (e : Nat) : Fld := ⟨(.adc c), 0x080 + 16 * e, 0, 6, .rwt, 0x38⟩
def adcWcAxis (c : Nat) (e : Nat) : Fld := ⟨(.adc c), 0x084 + 16 * e, 4, 2, .rwt, 0⟩
def adcWcAction (c : Nat) (e : Nat) : Fld := ⟨(.adc c), 0x084 + 16 * e, 2, 1, .rwt, 0⟩
def adcWcReentry (c : Nat) (e : Nat) : Fld := ⟨(.adc c), 0x084 + 16 * e, 1, 1, .rwt, 0⟩
def adcWcEn (c : Nat) (e : Nat) : Fld := ⟨(.adc c), 0x084 + 16 * e, 0, 1, .rwt, 0⟩
def adcWcHigh (c : Nat) (e : Nat) : Fld := ⟨(.adc c), 0x088 + 16 * e, 16, 16, .rwt, 0x7FFF⟩
def adcWcLow (c : Nat) (e : Nat) : Fld := ⟨(.adc c), 0x088 + 16 * e, 0, 16, .rwt, 0x8000⟩
def adcRes (c : Nat) (e : Nat) : Fld := ⟨(.adc c), 0x180 + 4 * e, 0, 32, .ro, 0⟩
def adcInjCfgTs (c : Nat) (i : Nat) : Fld := ⟨(.adc c), 0x1C0 + 4 * i, 23, 9, .rw, 3⟩
def adcInjCfgGain (c : Nat) (i : Nat) : Fld := ⟨(.adc c), 0x1C0 + 4 * i, 20, 3, .rw, 0⟩
def adcInjCfgTrig (c : Nat) (i : Nat) : Fld := ⟨(.adc c), 0x1C0 + 4 * i, 16, 3, .rw, if i ≤ 3 then 4 else 0⟩
def adcInjCfgEvp (c : Nat) (i : Nat) : Fld := ⟨(.adc c), 0x1C0 + 4 * i, 12, 4, .rw, 0⟩
def adcInjCfgEdge (c : Nat) (i : Nat) : Fld := ⟨(.adc c), 0x1C0 + 4 * i, 10, 2, .rw, 1⟩
def adcInjCfgAxis (c : Nat) (i : Nat) : Fld := ⟨(.adc c), 0x1C0 + 4 * i, 8, 2, .rw, if i ≤ 3 then i else 0⟩
def adcInjCfgChan (c : Nat) (i : Nat) : Fld := ⟨(.adc c), 0x1C0 + 4 * i, 0, 7, .rw, if i ≤ 3 then 0x40 else 0x38⟩
def adcInjRes (c : Nat) (i : Nat) : Fld := ⟨(.adc c), 0x200 + 4 * i, 0, 32, .ro, 0⟩
def adcInjTime (c : Nat) (i : Nat) : Fld := ⟨(.adc c), 0x220 + 8 * i, 0, 64, .ro, 0⟩
def adcWinLost (c : Nat) (k : Nat) : Fld := ⟨(.adc c), 0x260 + 4 * k, 16, 16, .ro, 0⟩
def adcWinChannels (c : Nat) (k : Nat) : Fld := ⟨(.adc c), 0x260 + 4 * k, 0, 4, .ro, 0⟩
def adcWinCount (c : Nat) (k : Nat) (j : Nat) : Fld := ⟨(.adc c), 0x2C0 + 32 * k + 4 * j, 0, 16, .ro, 0⟩
def adcLogStreams (c : Nat) : Fld := ⟨(.adc c), 0x280, 1, 4, .rw, 0⟩
def adcLogEn (c : Nat) : Fld := ⟨(.adc c), 0x280, 0, 1, .rw, 0⟩
def adcLogBase (c : Nat) : Fld := ⟨(.adc c), 0x284, 3, 19, .rw, 0⟩
def adcLogSize (c : Nat) : Fld := ⟨(.adc c), 0x288, 0, 15, .rw, 1024⟩
def adcLogWr (c : Nat) : Fld := ⟨(.adc c), 0x28C, 0, 32, .ro, 0⟩
def adcSliceState (c : Nat) (s : Nat) : Fld := ⟨(.adc c), 0x290 + 8 * s, 29, 3, .ro, 0⟩
def adcSliceSkew (c : Nat) (s : Nat) : Fld := ⟨(.adc c), 0x290 + 8 * s, 22, 6, .ro, 0⟩
def adcSliceOffset (c : Nat) (s : Nat) : Fld := ⟨(.adc c), 0x290 + 8 * s, 0, 16, .ro, 0⟩
def adcSliceGain (c : Nat) (s : Nat) : Fld := ⟨(.adc c), 0x294 + 8 * s, 0, 32, .ro, 0x40000000⟩

/-- The stored fields of the ADC page. -/
def adcFields (c : Nat) : List Fld :=
  [adcRetired c, adcActive c, adcFgcalBusy c, adcSpare c, adcMode c, adcFgcal c, adcLowpwr c, adcRotCount c, adcSeqGo c, adcSeqEvp c, adcSeqTrig c, adcSeqPeriod c, adcSeqLen c, adcSeqDrop c, adcInjLost c, adcWcFlags c, adcInjGo c, adcBgEn c, adcLogStreams c, adcLogEn c, adcLogBase c, adcLogSize c, adcLogWr c] ++
  (List.range 4).flatMap (fun k => [adcWinGain c k]) ++
  (List.range 16).flatMap (fun e => [adcSeqCfgTs c e]) ++
  (List.range 16).flatMap (fun e => [adcSeqCfgK c e]) ++
  (List.range 16).flatMap (fun e => [adcSeqCfgFilt c e]) ++
  (List.range 16).flatMap (fun e => [adcSeqCfgGain c e]) ++
  (List.range 16).flatMap (fun e => [adcSeqCfgChan c e]) ++
  (List.range 16).flatMap (fun e => [adcWcAxis c e]) ++
  (List.range 16).flatMap (fun e => [adcWcAction c e]) ++
  (List.range 16).flatMap (fun e => [adcWcReentry c e]) ++
  (List.range 16).flatMap (fun e => [adcWcEn c e]) ++
  (List.range 16).flatMap (fun e => [adcWcHigh c e]) ++
  (List.range 16).flatMap (fun e => [adcWcLow c e]) ++
  (List.range 16).flatMap (fun e => [adcRes c e]) ++
  (List.range 8).flatMap (fun i => [adcInjCfgTs c i]) ++
  (List.range 8).flatMap (fun i => [adcInjCfgGain c i]) ++
  (List.range 8).flatMap (fun i => [adcInjCfgTrig c i]) ++
  (List.range 8).flatMap (fun i => [adcInjCfgEvp c i]) ++
  (List.range 8).flatMap (fun i => [adcInjCfgEdge c i]) ++
  (List.range 8).flatMap (fun i => [adcInjCfgAxis c i]) ++
  (List.range 8).flatMap (fun i => [adcInjCfgChan c i]) ++
  (List.range 8).flatMap (fun i => [adcInjRes c i]) ++
  (List.range 8).flatMap (fun i => [adcInjTime c i]) ++
  (List.range 4).flatMap (fun k => [adcWinLost c k]) ++
  (List.range 4).flatMap (fun k => [adcWinChannels c k]) ++
  (List.range 4).flatMap (fun k => (List.range 8).flatMap (fun j => [adcWinCount c k j])) ++
  (List.range 5).flatMap (fun s => [adcSliceState c s]) ++
  (List.range 5).flatMap (fun s => [adcSliceSkew c s]) ++
  (List.range 5).flatMap (fun s => [adcSliceOffset c s]) ++
  (List.range 5).flatMap (fun s => [adcSliceGain c s])

/-! ### XCK page (spec/05_converters.md) -/
def xckDiagActive (p : Nat) : Fld := ⟨(.xck p), 0x040, 1, 1, .ro, 0⟩
def xckMismatch (p : Nat) : Fld := ⟨(.xck p), 0x040, 0, 1, .ro, 0⟩
def xckXchkEn (p : Nat) : Fld := ⟨(.xck p), 0x044, 0, 1, .rw, 1⟩
def xckXchkPeriod (p : Nat) : Fld := ⟨(.xck p), 0x048, 0, 16, .rw, 100⟩
def xckXchkTol (p : Nat) : Fld := ⟨(.xck p), 0x04C, 0, 10, .rw, 24⟩
def xckDac (p : Nat) : Fld := ⟨(.xck p), 0x050, 0, 10, .rw, 0⟩
def xckDiagChan (p : Nat) : Fld := ⟨(.xck p), 0x054, 8, 6, .rwt, 0⟩
def xckDiagBank (p : Nat) : Fld := ⟨(.xck p), 0x054, 1, 1, .rwt, 0⟩
def xckDiagEn (p : Nat) : Fld := ⟨(.xck p), 0x054, 0, 1, .rwt, 0⟩
def xckClear (p : Nat) : Fld := ⟨(.xck p), 0x070, 0, 1, .wo, 0⟩
def xckSkip (p : Nat) : Fld := ⟨(.xck p), 0x068, 0, 32, .ro, 0⟩
def xckFails (p : Nat) : Fld := ⟨(.xck p), 0x06C, 0, 32, .ro, 0⟩
def xckDacEven (p : Nat) : Fld := ⟨(.xck p), 0x058, 0, 16, .ro, 0⟩
def xckDacOdd (p : Nat) : Fld := ⟨(.xck p), 0x05C, 0, 16, .ro, 0⟩
def xckBusEven (p : Nat) : Fld := ⟨(.xck p), 0x060, 0, 16, .ro, 0⟩
def xckBusOdd (p : Nat) : Fld := ⟨(.xck p), 0x064, 0, 16, .ro, 0⟩

/-- The stored fields of the XCK page. -/
def xckFields (p : Nat) : List Fld :=
  [xckDiagActive p, xckMismatch p, xckXchkEn p, xckXchkPeriod p, xckXchkTol p, xckDac p, xckDiagChan p, xckDiagBank p, xckDiagEn p, xckClear p, xckSkip p, xckFails p, xckDacEven p, xckDacOdd p, xckBusEven p, xckBusOdd p]

/-! ### CLU page (spec/13_loop_engine.md) -/
def cluAdmOk (c : Nat) : Fld := ⟨(.clu c), 0x040, 8, 1, .ro, 1⟩
def cluCounted (c : Nat) : Fld := ⟨(.clu c), 0x040, 0, 4, .ro, 0xF⟩
def cluLaneCycles (c : Nat) : Fld := ⟨(.clu c), 0x044, 16, 16, .ro, 16000⟩
def cluAdmCycles (c : Nat) : Fld := ⟨(.clu c), 0x044, 0, 16, .ro, 1532⟩
def cluStallMax (c : Nat) : Fld := ⟨(.clu c), 0x068, 16, 16, .ro, 0⟩
def cluStallLast (c : Nat) : Fld := ⟨(.clu c), 0x068, 0, 16, .ro, 0⟩
def cluStallTotal (c : Nat) : Fld := ⟨(.clu c), 0x06C, 0, 32, .ro, 0⟩
def cluCorrected (c : Nat) : Fld := ⟨(.clu c), 0x074, 16, 16, .ro, 0⟩
def cluLastAddr (c : Nat) : Fld := ⟨(.clu c), 0x074, 0, 13, .ro, 0⟩
def cluClear (c : Nat) : Fld := ⟨(.clu c), 0x078, 0, 1, .wo, 0⟩
def cluScrubEn (c : Nat) : Fld := ⟨(.clu c), 0x400, 0, 1, .rw, 1⟩
def cluCost (c : Nat) (k : Nat) : Fld := ⟨(.clu c), 0x048 + 4 * k, 16, 16, .ro, 383⟩
def cluSlack (c : Nat) (k : Nat) : Fld := ⟨(.clu c), 0x048 + 4 * k, 0, 16, .ro, if c < 4 then 2193 else 193⟩
def cluLast (c : Nat) (k : Nat) : Fld := ⟨(.clu c), 0x058 + 4 * k, 16, 16, .ro, 0⟩
def cluMax (c : Nat) (k : Nat) : Fld := ⟨(.clu c), 0x058 + 4 * k, 0, 16, .ro, 0⟩

/-- The stored fields of the CLU page. -/
def cluFields (c : Nat) : List Fld :=
  [cluAdmOk c, cluCounted c, cluLaneCycles c, cluAdmCycles c, cluStallMax c, cluStallLast c, cluStallTotal c, cluCorrected c, cluLastAddr c, cluClear c, cluScrubEn c] ++
  (List.range 4).flatMap (fun k => [cluCost c k]) ++
  (List.range 4).flatMap (fun k => [cluSlack c k]) ++
  (List.range 4).flatMap (fun k => [cluLast c k]) ++
  (List.range 4).flatMap (fun k => [cluMax c k])

/-! ### GLN page (spec/13_loop_engine.md) -/
def glnAdmOk (g : Nat) : Fld := ⟨(.gln g), 0x040, 8, 1, .ro, 1⟩
def glnLaneCycles (g : Nat) : Fld := ⟨(.gln g), 0x044, 16, 16, .ro, 15520⟩
def glnPeakBin (g : Nat) : Fld := ⟨(.gln g), 0x044, 0, 16, .ro, 2508⟩
def glnBinSel (g : Nat) : Fld := ⟨(.gln g), 0x048, 0, 8, .rw, 0⟩
def glnBusyLast (g : Nat) : Fld := ⟨(.gln g), 0x050, 16, 16, .ro, 0⟩
def glnBusyMax (g : Nat) : Fld := ⟨(.gln g), 0x050, 0, 16, .ro, 0⟩
def glnStallMax (g : Nat) : Fld := ⟨(.gln g), 0x068, 16, 16, .ro, 0⟩
def glnStallLast (g : Nat) : Fld := ⟨(.gln g), 0x068, 0, 16, .ro, 0⟩
def glnStallTotal (g : Nat) : Fld := ⟨(.gln g), 0x06C, 0, 32, .ro, 0⟩
def glnCorrected (g : Nat) : Fld := ⟨(.gln g), 0x074, 16, 16, .ro, 0⟩
def glnLastAddr (g : Nat) : Fld := ⟨(.gln g), 0x074, 0, 13, .ro, 0⟩
def glnClear (g : Nat) : Fld := ⟨(.gln g), 0x078, 0, 1, .wo, 0⟩
def glnScrubEn (g : Nat) : Fld := ⟨(.gln g), 0x400, 0, 1, .rw, 1⟩

/-- The stored fields of the GLN page. -/
def glnFields (g : Nat) : List Fld :=
  [glnAdmOk g, glnLaneCycles g, glnPeakBin g, glnBinSel g, glnBusyLast g, glnBusyMax g,
   glnStallMax g, glnStallLast g, glnStallTotal g, glnCorrected g, glnLastAddr g, glnClear g, glnScrubEn g]

/-! ### PWD page (spec/04_drive_stages.md) -/
def pwdBootReady (c : Nat) : Fld := ⟨(.pwd c), 0x040, 5, 1, .ro, 0⟩
def pwdStTempTrip (c : Nat) : Fld := ⟨(.pwd c), 0x040, 4, 1, .ro, 0⟩
def pwdStTempWarn (c : Nat) : Fld := ⟨(.pwd c), 0x040, 3, 1, .ro, 0⟩
def pwdVbusOk (c : Nat) : Fld := ⟨(.pwd c), 0x040, 1, 1, .ro, 0⟩
def pwdCarriers (c : Nat) : Fld := ⟨(.pwd c), 0x044, 0, 2, .rwt, 1⟩
def pwdVbus (c : Nat) : Fld := ⟨(.pwd c), 0x04C, 0, 32, .ro, 0⟩
def pwdVbusUv (c : Nat) : Fld := ⟨(.pwd c), 0x050, 0, 32, .rw, 0x000A0000⟩
def pwdVbusHyst (c : Nat) : Fld := ⟨(.pwd c), 0x054, 0, 32, .rw, 0x00010000⟩
def pwdVbusOv (c : Nat) : Fld := ⟨(.pwd c), 0x058, 0, 32, .rw, 0x003C0000⟩
def pwdVgd (c : Nat) : Fld := ⟨(.pwd c), 0x05C, 0, 32, .ro, 0⟩
def pwdTempWarn (c : Nat) : Fld := ⟨(.pwd c), 0x074, 0, 16, .rw, 0x6E00⟩
def pwdTempTrip (c : Nat) : Fld := ⟨(.pwd c), 0x078, 0, 16, .rw, 0x7D00⟩
def pwdTemp (c : Nat) (j : Nat) : Fld := ⟨(.pwd c), 0x060 + 4 * j, 0, 16, .ro, 0⟩

/-- The stored fields of the PWD page. -/
def pwdFields (c : Nat) : List Fld :=
  [pwdBootReady c, pwdStTempTrip c, pwdStTempWarn c, pwdVbusOk c, pwdCarriers c, pwdVbus c, pwdVbusUv c, pwdVbusHyst c, pwdVbusOv c, pwdVgd c, pwdTempWarn c, pwdTempTrip c] ++
  (List.range 5).flatMap (fun j => [pwdTemp c j])

/-! ### XST page (spec/04_drive_stages.md) -/
def xstVbusOk : Fld := ⟨.xst, 0x040, 8, 8, .ro, 0⟩
def xstFltFilt : Fld := ⟨.xst, 0x04C, 0, 4, .rw, 4⟩
def xstVbusUv : Fld := ⟨.xst, 0x050, 0, 32, .rw, 0x000A0000⟩
def xstVbusOv : Fld := ⟨.xst, 0x054, 0, 32, .rw, 0x003C0000⟩
def xstCarriers5 : Fld := ⟨.xst, 0x044, 4, 2, .rwt, 2⟩
def xstCarriers4 : Fld := ⟨.xst, 0x044, 0, 2, .rwt, 2⟩
def xstVscale (j : Nat) : Fld := ⟨.xst, 0x400 + 4 * j, 0, 32, .rw, 0x320000⟩

/-- The stored fields of the XST page. -/
def xstFields : List Fld :=
  [xstVbusOk, xstFltFilt, xstVbusUv, xstVbusOv, xstCarriers5, xstCarriers4] ++
  (List.range 8).flatMap (fun j => [xstVscale j])

end Sys2Proof.Machine
end

