-- ==== Sys2Proof/Machine/FieldsMemory.lean ====
section
/-! DEFINITION. The register fields of the memory and network pages: BNK, PGR, SMP, LNK, NET.
One definition per field of the register tables: page, offset, lowest bit, width, access code, reset value (R14, R17).
Generated from the tables of the chapter named at each page. -/
namespace Sys2Proof.Machine

/-! ### BNK page (spec/14_memory_banks.md) -/
def bnkHoForce : Fld := ⟨.bnk, 0x050, 31, 1, .wo, 0⟩
def bnkHoBank : Fld := ⟨.bnk, 0x050, 24, 5, .wo, 0⟩
def bnkHoOwner : Fld := ⟨.bnk, 0x050, 16, 4, .wo, 0⟩
def bnkHoReaders : Fld := ⟨.bnk, 0x050, 0, 16, .wo, 0⟩
def bnkHorBank : Fld := ⟨.bnk, 0x054, 24, 5, .ro, 0⟩
def bnkHorResult : Fld := ⟨.bnk, 0x054, 0, 8, .ro, 0⟩
def bnkHoTmax : Fld := ⟨.bnk, 0x058, 0, 16, .rw, 250⟩
def bnkPwrBank : Fld := ⟨.bnk, 0x05C, 24, 5, .wo, 0⟩
def bnkPwrState : Fld := ⟨.bnk, 0x05C, 0, 2, .wo, 0⟩
def bnkPwrrBank : Fld := ⟨.bnk, 0x060, 24, 5, .ro, 0⟩
def bnkPwrrResult : Fld := ⟨.bnk, 0x060, 0, 8, .ro, 0⟩
def bnkModeRemapStore : Fld := ⟨.bnk, 0x064, 1, 1, .rw, 1⟩
def bnkModeSweepEn : Fld := ⟨.bnk, 0x064, 0, 1, .rw, 1⟩
def bnkSweepInt : Fld := ⟨.bnk, 0x068, 0, 24, .rw, 48828⟩
def bnkPassB : Fld := ⟨.bnk, 0x074, 16, 16, .ro, 0⟩
def bnkPassA : Fld := ⟨.bnk, 0x074, 0, 16, .ro, 0⟩
def bnkSweepLate : Fld := ⟨.bnk, 0x078, 0, 32, .ro, 0⟩
def bnkOn : Fld := ⟨.bnk, 0x080, 0, 32, .ro, 0⟩
def bnkAvail : Fld := ⟨.bnk, 0x084, 0, 32, .ro, 0xFFFFFFFF⟩
def bnkRaceBank : Fld := ⟨.bnk, 0x180, 24, 5, .ro, 0⟩
def bnkRaceLater : Fld := ⟨.bnk, 0x180, 20, 4, .ro, 0⟩
def bnkRaceEarlier : Fld := ⟨.bnk, 0x180, 16, 4, .ro, 0⟩
def bnkRaceWord : Fld := ⟨.bnk, 0x180, 0, 15, .ro, 0⟩
def bnkRaceCount : Fld := ⟨.bnk, 0x184, 0, 32, .ro, 0⟩
def bnkEccCorr : Fld := ⟨.bnk, 0x188, 0, 32, .ro, 0⟩
def bnkEccUncorr : Fld := ⟨.bnk, 0x18C, 0, 32, .ro, 0⟩
def bnkEccLastUncorr : Fld := ⟨.bnk, 0x190, 31, 1, .ro, 0⟩
def bnkRefReason : Fld := ⟨.bnk, 0x194, 16, 4, .ro, 0⟩
def bnkRefuseCount : Fld := ⟨.bnk, 0x198, 0, 32, .ro, 0⟩
def bnkSpareSel : Fld := ⟨.bnk, 0x1A0, 0, 5, .rw, 0⟩
def bnkInjEn : Fld := ⟨.bnk, 0x400, 31, 1, .rw, 0⟩
def bnkInjDouble : Fld := ⟨.bnk, 0x400, 30, 1, .rw, 0⟩
def bnkInjBank : Fld := ⟨.bnk, 0x400, 24, 5, .rw, 0⟩
def bnkInjWord : Fld := ⟨.bnk, 0x400, 0, 15, .rw, 0⟩
def bnkSweepBank (r : Nat) : Fld := ⟨.bnk, 0x06C + 4 * r, 16, 5, .ro, 16 * r⟩
def bnkSweepBlock (r : Nat) : Fld := ⟨.bnk, 0x06C + 4 * r, 0, 9, .ro, 0⟩
def bnkReaders (b : Nat) : Fld := ⟨.bnk, 0x100 + 4 * b, 16, 16, .ro, resetReaders b⟩
def bnkPendOwner (b : Nat) : Fld := ⟨.bnk, 0x100 + 4 * b, 12, 4, .ro, 0⟩
def bnkPstate (b : Nat) : Fld := ⟨.bnk, 0x100 + 4 * b, 8, 3, .ro, 3⟩
def bnkOwner (b : Nat) : Fld := ⟨.bnk, 0x100 + 4 * b, 0, 4, .ro, resetOwner b⟩
def bnkEccBank : Fld := ⟨.bnk, 0x190, 24, 5, .ro, 0⟩
def bnkEccMaster : Fld := ⟨.bnk, 0x190, 20, 4, .ro, 0⟩
def bnkEccWord : Fld := ⟨.bnk, 0x190, 0, 15, .ro, 0⟩
def bnkRefBank : Fld := ⟨.bnk, 0x194, 24, 5, .ro, 0⟩
def bnkRefMaster : Fld := ⟨.bnk, 0x194, 20, 4, .ro, 0⟩
def bnkRefWord : Fld := ⟨.bnk, 0x194, 0, 15, .ro, 0⟩

/-- The stored fields of the BNK page. -/
def bnkFields : List Fld :=
  [bnkHoForce, bnkHoBank, bnkHoOwner, bnkHoReaders, bnkHorBank, bnkHorResult, bnkHoTmax, bnkPwrBank, bnkPwrState, bnkPwrrBank, bnkPwrrResult, bnkModeRemapStore, bnkModeSweepEn, bnkSweepInt, bnkPassB, bnkPassA, bnkSweepLate, bnkOn, bnkAvail, bnkRaceBank, bnkRaceLater, bnkRaceEarlier, bnkRaceWord, bnkRaceCount, bnkEccCorr, bnkEccUncorr, bnkEccLastUncorr, bnkRefReason, bnkRefuseCount, bnkSpareSel] ++
  [bnkInjEn, bnkInjDouble, bnkInjBank, bnkInjWord, bnkEccBank, bnkEccMaster, bnkEccWord, bnkRefBank, bnkRefMaster, bnkRefWord] ++
  (List.range 2).flatMap (fun r => [bnkSweepBank r]) ++
  (List.range 2).flatMap (fun r => [bnkSweepBlock r]) ++
  (List.range 32).flatMap (fun b => [bnkReaders b]) ++
  (List.range 32).flatMap (fun b => [bnkPendOwner b]) ++
  (List.range 32).flatMap (fun b => [bnkPstate b]) ++
  (List.range 32).flatMap (fun b => [bnkOwner b])

/-! ### PGR page (spec/15_serial_memory_and_pager.md) -/
def pgrFramesFree : Fld := ⟨.pgr, 0x040, 16, 9, .ro, 256⟩
def pgrFrames : Fld := ⟨.pgr, 0x040, 0, 9, .ro, 256⟩
def pgrW0Base : Fld := ⟨.pgr, 0x044, 30, 2, .rw, 0⟩
def pgrW1Base : Fld := ⟨.pgr, 0x048, 31, 1, .rw, 1⟩
def pgrSel : Fld := ⟨.pgr, 0x050, 0, 6, .rw, 0⟩
def pgrSCmd : Fld := ⟨.pgr, 0x088, 0, 2, .wo, 0⟩
def pgrPageReads : Fld := ⟨.pgr, 0x090, 0, 32, .ro, 0⟩
def pgrRetries : Fld := ⟨.pgr, 0x094, 0, 32, .ro, 0⟩
def pgrStops : Fld := ⟨.pgr, 0x098, 0, 32, .ro, 0⟩
def pgrExpLost : Fld := ⟨.pgr, 0x09C, 0, 32, .ro, 0⟩

/-- The stored fields of the PGR page. -/
def pgrFields : List Fld :=
  [pgrFramesFree, pgrFrames, pgrW0Base, pgrW1Base, pgrSel, pgrSCmd, pgrPageReads, pgrRetries, pgrStops, pgrExpLost]

/-! ### SMP page (spec/15_serial_memory_and_pager.md) -/
def smpSize (q : Nat) : Fld := ⟨(.smp q), 0x044, 16, 5, .rw, 27⟩
def smpWrBurst (q : Nat) : Fld := ⟨(.smp q), 0x044, 12, 3, .rw, 3⟩
def smpHwDiv (q : Nat) : Fld := ⟨(.smp q), 0x044, 8, 4, .rw, 1⟩
def smpHwWrite (q : Nat) : Fld := ⟨(.smp q), 0x044, 2, 1, .rw, 0⟩
def smpHwMode (q : Nat) : Fld := ⟨(.smp q), 0x044, 1, 1, .rw, 1⟩
def smpEn (q : Nat) : Fld := ⟨(.smp q), 0x044, 0, 1, .rw, 0⟩
def smpDqsTmax (q : Nat) : Fld := ⟨(.smp q), 0x050, 16, 8, .rw, 32⟩
def smpCsHigh (q : Nat) : Fld := ⟨(.smp q), 0x050, 8, 4, .rw, 2⟩
def smpCsHold (q : Nat) : Fld := ⟨(.smp q), 0x050, 4, 4, .rw, 2⟩
def smpCsSetup (q : Nat) : Fld := ⟨(.smp q), 0x050, 0, 4, .rw, 2⟩
def smpSwCs0 (q : Nat) : Fld := ⟨(.smp q), 0x060, 23, 1, .rw, 0⟩
def smpSwDqs (q : Nat) : Fld := ⟨(.smp q), 0x060, 22, 1, .rw, 0⟩
def smpSwWatchPol (q : Nat) : Fld := ⟨(.smp q), 0x060, 21, 1, .rw, 0⟩
def smpSwWatch (q : Nat) : Fld := ⟨(.smp q), 0x060, 16, 5, .rw, 0⟩
def smpSwWatchEn (q : Nat) : Fld := ⟨(.smp q), 0x060, 15, 1, .rw, 0⟩
def smpSwDir (q : Nat) : Fld := ⟨(.smp q), 0x060, 13, 2, .rw, 0⟩
def smpSwDdr (q : Nat) : Fld := ⟨(.smp q), 0x060, 12, 1, .rw, 0⟩
def smpSwLanes (q : Nat) : Fld := ⟨(.smp q), 0x060, 10, 2, .rw, 0⟩
def smpSwCpha (q : Nat) : Fld := ⟨(.smp q), 0x060, 9, 1, .rw, 0⟩
def smpSwCpol (q : Nat) : Fld := ⟨(.smp q), 0x060, 8, 1, .rw, 0⟩
def smpSwDiv (q : Nat) : Fld := ⟨(.smp q), 0x060, 0, 8, .rw, 4⟩
def smpSwLen (q : Nat) : Fld := ⟨(.smp q), 0x064, 0, 15, .rw, 8⟩
def smpSwBuf (q : Nat) : Fld := ⟨(.smp q), 0x068, 2, 20, .rw, 0⟩
def smpSwGo (q : Nat) : Fld := ⟨(.smp q), 0x06C, 0, 1, .wo, 0⟩
def smpSwBitsDone (q : Nat) : Fld := ⟨(.smp q), 0x070, 16, 15, .ro, 0⟩
def smpSwShort (q : Nat) : Fld := ⟨(.smp q), 0x070, 8, 1, .ro, 0⟩
def smpSwResult (q : Nat) : Fld := ⟨(.smp q), 0x070, 0, 8, .ro, 0⟩
def smpLineHits (q : Nat) : Fld := ⟨(.smp q), 0x078, 0, 32, .ro, 0⟩
def smpRdErrs (q : Nat) : Fld := ⟨(.smp q), 0x07C, 0, 32, .ro, 0⟩
def smpErrAddr (q : Nat) : Fld := ⟨(.smp q), 0x080, 0, 32, .ro, 0⟩
def smpErrCause (q : Nat) : Fld := ⟨(.smp q), 0x084, 0, 3, .ro, 0⟩
def smpRdCmd (q : Nat) : Fld := ⟨(.smp q), 0x048, 16, 16, .rw, 0xEE11⟩
def smpRdAddrBytes (q : Nat) : Fld := ⟨(.smp q), 0x048, 8, 1, .rw, 1⟩
def smpRdDummy (q : Nat) : Fld := ⟨(.smp q), 0x048, 0, 5, .rw, 20⟩
def smpWrCmd (q : Nat) : Fld := ⟨(.smp q), 0x04C, 16, 16, .rw, 0x1297⟩
def smpWrAddrBytes (q : Nat) : Fld := ⟨(.smp q), 0x04C, 8, 1, .rw, 1⟩
def smpWrDummy (q : Nat) : Fld := ⟨(.smp q), 0x04C, 0, 5, .rw, 0⟩

/-- The stored fields of the SMP page. -/
def smpFields (q : Nat) : List Fld :=
  [smpSize q, smpWrBurst q, smpHwDiv q, smpHwWrite q, smpHwMode q, smpEn q, smpDqsTmax q, smpCsHigh q, smpCsHold q, smpCsSetup q, smpSwCs0 q, smpSwDqs q, smpSwWatchPol q, smpSwWatch q, smpSwWatchEn q, smpSwDir q, smpSwDdr q, smpSwLanes q, smpSwCpha q, smpSwCpol q, smpSwDiv q, smpSwLen q, smpSwBuf q, smpSwGo q, smpSwBitsDone q, smpSwShort q, smpSwResult q] ++
  [smpLineHits q, smpRdErrs q, smpErrAddr q, smpErrCause q, smpRdCmd q, smpRdAddrBytes q, smpRdDummy q, smpWrCmd q, smpWrAddrBytes q, smpWrDummy q]

/-! ### LNK page (spec/16_llyntal_network.md) -/
def lnkStandbyRx (m : Nat) : Fld := ⟨(.lnk m), 0x040, 15, 1, .ro, 0⟩
def lnkTurn (m : Nat) : Fld := ⟨(.lnk m), 0x040, 14, 1, .ro, 0⟩
def lnkRole (m : Nat) : Fld := ⟨(.lnk m), 0x040, 8, 3, .ro, 0⟩
def lnkState (m : Nat) : Fld := ⟨(.lnk m), 0x040, 0, 3, .ro, 0⟩
def lnkEqAuto (m : Nat) : Fld := ⟨(.lnk m), 0x044, 1, 1, .rw, 1⟩
def lnkEn (m : Nat) : Fld := ⟨(.lnk m), 0x044, 0, 1, .rw, 1⟩
def lnkCodeErr (m : Nat) : Fld := ⟨(.lnk m), 0x048, 0, 32, .ro, 0⟩
def lnkCrcBad (m : Nat) : Fld := ⟨(.lnk m), 0x04C, 0, 32, .ro, 0⟩
def lnkCrcMarked (m : Nat) : Fld := ⟨(.lnk m), 0x050, 0, 32, .ro, 0⟩
def lnkDownCount (m : Nat) : Fld := ⟨(.lnk m), 0x054, 0, 32, .ro, 0⟩
def lnkFwd (m : Nat) : Fld := ⟨(.lnk m), 0x058, 0, 16, .ro, 0⟩
def lnkDispTx (m : Nat) : Fld := ⟨(.lnk m), 0x05C, 0, 32, .ro, 0⟩
def lnkDispRx (m : Nat) : Fld := ⟨(.lnk m), 0x060, 0, 32, .ro, 0⟩
def lnkEq (m : Nat) : Fld := ⟨(.lnk m), 0x400, 0, 5, .rw, 8⟩

/-- The stored fields of the LNK page. -/
def lnkFields (m : Nat) : List Fld :=
  [lnkStandbyRx m, lnkTurn m, lnkRole m, lnkState m, lnkEqAuto m, lnkEn m, lnkCodeErr m, lnkCrcBad m, lnkCrcMarked m, lnkDownCount m, lnkFwd m, lnkDispTx m, lnkDispRx m, lnkEq m]

/-! ### NET page (spec/16_llyntal_network.md) -/
def netState : Fld := ⟨.net, 0x040, 16, 3, .ro, 1⟩
def netHeadSide : Fld := ⟨.net, 0x040, 12, 1, .ro, 0⟩
def netFolded : Fld := ⟨.net, 0x040, 11, 1, .ro, 0⟩
def netRing : Fld := ⟨.net, 0x040, 10, 1, .ro, 0⟩
def netEnumBusy : Fld := ⟨.net, 0x040, 9, 1, .ro, 0⟩
def netListenOnly : Fld := ⟨.net, 0x040, 8, 1, .ro, 0⟩
def netPos : Fld := ⟨.net, 0x040, 0, 8, .ro, 0⟩
def netCfgRole : Fld := ⟨.net, 0x044, 8, 2, .rw, 0⟩
def netCfgPair : Fld := ⟨.net, 0x044, 4, 1, .rw, 0⟩
def netCfgAutoEnum : Fld := ⟨.net, 0x044, 3, 1, .rw, 0⟩
def netCfgRetainEn : Fld := ⟨.net, 0x044, 2, 1, .rw, 0⟩
def netCfgSegTick : Fld := ⟨.net, 0x044, 1, 1, .rw, 0⟩
def netCfgAutoUnfold : Fld := ⟨.net, 0x044, 0, 1, .rw, 1⟩
def netAddrValid : Fld := ⟨.net, 0x048, 31, 1, .ro, 0⟩
def netAddr : Fld := ⟨.net, 0x048, 0, 18, .ro, 0⟩
def netSeg : Fld := ⟨.net, 0x04C, 0, 10, .rw, 0⟩
def netCycle : Fld := ⟨.net, 0x050, 0, 32, .ro, 0⟩
def netDelta : Fld := ⟨.net, 0x054, 0, 32, .ro, 0⟩
def netPathX : Fld := ⟨.net, 0x058, 0, 32, .ro, 0⟩
def netPathY : Fld := ⟨.net, 0x05C, 0, 32, .ro, 0⟩
def netRetainValid : Fld := ⟨.net, 0x060, 31, 1, .rw, 0⟩
def netRetainPos : Fld := ⟨.net, 0x060, 18, 8, .rw, 0⟩
def netRetainAddr : Fld := ⟨.net, 0x060, 0, 18, .rw, 0⟩
def netSendOfs : Fld := ⟨.net, 0x064, 16, 16, .rwt, 100⟩
def netDres : Fld := ⟨.net, 0x064, 8, 8, .rwt, 10⟩
def netNcyc : Fld := ⟨.net, 0x064, 0, 3, .rwt, 0⟩
def netRetainSerial : Fld := ⟨.net, 0x068, 0, 64, .rw, 0⟩
def netRetxT : Fld := ⟨.net, 0x070, 16, 16, .rw, 200⟩
def netRetxN : Fld := ⟨.net, 0x070, 0, 4, .rw, 4⟩
def netCtxHold : Fld := ⟨.net, 0x074, 16, 16, .rw, 1000⟩
def netRouteHi : Fld := ⟨.net, 0x078, 16, 10, .rw, 0⟩
def netRouteLo : Fld := ⟨.net, 0x078, 0, 10, .rw, 0⟩
def netMissN : Fld := ⟨.net, 0x07C, 0, 8, .rw, 8⟩
def netTRound : Fld := ⟨.net, 0x080, 0, 32, .ro, 0⟩
def netMargin : Fld := ⟨.net, 0x084, 0, 32, .ro, 0⟩
def netCmd : Fld := ⟨.net, 0x088, 0, 4, .wo, 0⟩
def netResult : Fld := ⟨.net, 0x08C, 0, 8, .ro, 0⟩
def netDispExec : Fld := ⟨.net, 0x090, 0, 32, .ro, 0⟩
def netDispDup : Fld := ⟨.net, 0x094, 0, 32, .ro, 0⟩
def netDispRetx : Fld := ⟨.net, 0x098, 0, 32, .ro, 0⟩
def netDispTtl : Fld := ⟨.net, 0x09C, 0, 32, .ro, 0⟩
def netMyOutOff : Fld := ⟨.net, 0x0A0, 16, 16, .ro, 0⟩
def netMyOutLen : Fld := ⟨.net, 0x0A0, 0, 16, .ro, 0⟩
def netMyInOff : Fld := ⟨.net, 0x0A4, 16, 16, .ro, 0⟩
def netMyInLen : Fld := ⟨.net, 0x0A4, 0, 16, .ro, 0⟩
def netMapEn (i : Nat) : Fld := ⟨.net, 0x100 + 8 * i, 31, 1, .rw, 0⟩
def netMapDir (i : Nat) : Fld := ⟨.net, 0x100 + 8 * i, 30, 1, .rw, 0⟩
def netMapW8 (i : Nat) : Fld := ⟨.net, 0x100 + 8 * i, 29, 1, .rw, 0⟩
def netMapTsys (i : Nat) : Fld := ⟨.net, 0x100 + 8 * i, 28, 1, .rw, 0⟩
def netMapSide (i : Nat) : Fld := ⟨.net, 0x100 + 8 * i, 27, 1, .rw, 0⟩
def netMapData (i : Nat) : Fld := ⟨.net, 0x100 + 8 * i, 0, 16, .rw, 0⟩
def netMapPage (i : Nat) : Fld := ⟨.net, 0x104 + 8 * i, 12, 12, .rw, 0⟩
def netMapOffset (i : Nat) : Fld := ⟨.net, 0x104 + 8 * i, 0, 12, .rw, 0⟩
def netSliceOutOff (s : Nat) : Fld := ⟨.net, 0x800 + 8 * s, 16, 16, .rw, 0⟩
def netSliceOutLen (s : Nat) : Fld := ⟨.net, 0x800 + 8 * s, 0, 16, .rw, 0⟩
def netSliceInOff (s : Nat) : Fld := ⟨.net, 0x804 + 8 * s, 16, 16, .rw, 0⟩
def netSliceInLen (s : Nat) : Fld := ⟨.net, 0x804 + 8 * s, 0, 16, .rw, 0⟩

/-- The stored fields of the NET page. -/
def netFields : List Fld :=
  [netState, netHeadSide, netFolded, netRing, netEnumBusy, netListenOnly, netPos, netCfgRole, netCfgPair, netCfgAutoEnum, netCfgRetainEn, netCfgSegTick, netCfgAutoUnfold, netAddrValid, netAddr, netSeg, netCycle, netDelta, netPathX, netPathY, netRetainValid, netRetainPos, netRetainAddr, netSendOfs, netDres, netNcyc, netRetainSerial, netRetxT, netRetxN, netCtxHold] ++
  [netRouteHi, netRouteLo, netMissN, netTRound, netMargin, netCmd, netResult, netDispExec, netDispDup, netDispRetx, netDispTtl, netMyOutOff, netMyOutLen, netMyInOff, netMyInLen] ++
  (List.range 32).flatMap (fun i => [netMapEn i]) ++
  (List.range 32).flatMap (fun i => [netMapDir i]) ++
  (List.range 32).flatMap (fun i => [netMapW8 i]) ++
  (List.range 32).flatMap (fun i => [netMapTsys i]) ++
  (List.range 32).flatMap (fun i => [netMapSide i]) ++
  (List.range 32).flatMap (fun i => [netMapData i]) ++
  (List.range 32).flatMap (fun i => [netMapPage i]) ++
  (List.range 32).flatMap (fun i => [netMapOffset i]) ++
  (List.range 256).flatMap (fun s => [netSliceOutOff s]) ++
  (List.range 256).flatMap (fun s => [netSliceOutLen s]) ++
  (List.range 256).flatMap (fun s => [netSliceInOff s]) ++
  (List.range 256).flatMap (fun s => [netSliceInLen s])

end Sys2Proof.Machine
end

