-- ==== Sys2Proof/Machine/FieldsSystem.lean ====
section
/-! DEFINITION. The register fields of the device-wide pages: DEV, TIME, CHRON, FLT, OTP, PST, HSP, MER, ALM, GPIO.
One definition per field of the register tables: page, offset, lowest bit, width, access code, reset value (R14, R17).
Generated from the tables of the chapter named at each page. -/
namespace Sys2Proof.Machine

/-! ### DEV page (spec/02_register_pages.md) -/
def devStartupStep : Fld := ⟨.dev, 0x040, 8, 4, .ro, 0⟩
def devAlmReady : Fld := ⟨.dev, 0x040, 1, 1, .ro, 0⟩
def devReady : Fld := ⟨.dev, 0x040, 0, 1, .ro, 0⟩
def devPart : Fld := ⟨.dev, 0x044, 16, 16, .ro, 0⟩
def devOrder : Fld := ⟨.dev, 0x044, 8, 8, .ro, 0⟩
def devRevMajor : Fld := ⟨.dev, 0x044, 4, 4, .ro, 0⟩
def devRevMinor : Fld := ⟨.dev, 0x044, 0, 4, .ro, 0⟩
def devSerial : Fld := ⟨.dev, 0x050, 0, 64, .ro, 0⟩
def devCommitHold : Fld := ⟨.dev, 0x060, 0, 1, .rw, 0⟩
def devErrPage : Fld := ⟨.dev, 0x064, 20, 12, .ro, 0⟩
def devErrOffset : Fld := ⟨.dev, 0x064, 8, 12, .ro, 0⟩
def devErrResult : Fld := ⟨.dev, 0x064, 6, 2, .ro, 0⟩
def devErrWrite : Fld := ⟨.dev, 0x064, 5, 1, .ro, 0⟩
def devErrSource : Fld := ⟨.dev, 0x064, 0, 4, .ro, 0⟩
def devScratch : Fld := ⟨.dev, 0x068, 0, 32, .rw, 0⟩

/-- The stored fields of the DEV page. -/
def devFields : List Fld :=
  [devStartupStep, devAlmReady, devReady, devPart, devOrder, devRevMajor, devRevMinor, devSerial, devCommitHold, devErrPage, devErrOffset, devErrResult, devErrWrite, devErrSource, devScratch]

/-! ### TIME page (spec/01_levels_and_tick.md) -/
def timeTimeOffset : Fld := ⟨.time, 0x048, 0, 64, .ro, 0⟩
def timeTickPeriod : Fld := ⟨.time, 0x050, 0, 15, .rwt, 8000⟩
def timeTickCount : Fld := ⟨.time, 0x058, 0, 64, .ro, 0⟩
def timeTickLast : Fld := ⟨.time, 0x060, 0, 64, .ro, 0⟩
def timeTickOrigin : Fld := ⟨.time, 0x068, 0, 64, .ro, 0⟩
def timeSegTick : Fld := ⟨.time, 0x070, 8, 1, .ro, 0⟩
def timeState : Fld := ⟨.time, 0x070, 0, 3, .ro, 0⟩
def timeTimeErr : Fld := ⟨.time, 0x074, 0, 32, .ro, 0⟩
def timeTickSlew : Fld := ⟨.time, 0x078, 0, 8, .rw, 20⟩
def timeHoldLimit : Fld := ⟨.time, 0x07C, 0, 16, .rw, 256⟩

/-- The stored fields of the TIME page. -/
def timeFields : List Fld :=
  [timeTimeOffset, timeTickPeriod, timeTickCount, timeTickLast, timeTickOrigin, timeSegTick, timeState, timeTimeErr, timeTickSlew, timeHoldLimit]

/-! ### CHRON page (spec/19_faults_ordering_recovery.md) -/
def chronWr : Fld := ⟨.chron, 0x040, 0, 32, .ro, 0⟩
def chronLost : Fld := ⟨.chron, 0x044, 0, 32, .ro, 0⟩
def chronMark : Fld := ⟨.chron, 0x04C, 0, 32, .rw, 0⟩
def chronQueueMax : Fld := ⟨.chron, 0x050, 16, 9, .ro, 0⟩
def chronAlm : Fld := ⟨.chron, 0x058, 0, 16, .rw, 0⟩
def chronAlmData : Fld := ⟨.chron, 0x05C, 0, 32, .rw, 0⟩
def chronBufSel : Fld := ⟨.chron, 0x060, 0, 6, .rw, 0⟩

/-- The stored fields of the CHRON page. -/
def chronFields : List Fld :=
  [chronWr, chronLost, chronMark, chronQueueMax, chronAlm, chronAlmData, chronBufSel]

/-! ### FLT page (spec/19_faults_ordering_recovery.md) -/
def fltClrAll : Fld := ⟨.flt, 0x048, 31, 1, .wo, 0⟩
def fltClrEntry : Fld := ⟨.flt, 0x048, 16, 7, .wo, 0⟩
def fltClrInstance : Fld := ⟨.flt, 0x048, 0, 5, .wo, 0⟩
def fltClrCleared : Fld := ⟨.flt, 0x04C, 16, 16, .ro, 0⟩
def fltClrResult : Fld := ⟨.flt, 0x04C, 0, 8, .ro, 0⟩
def fltLastEntry : Fld := ⟨.flt, 0x050, 24, 7, .ro, 0⟩
def fltLastInstance : Fld := ⟨.flt, 0x050, 16, 8, .ro, 0⟩
def fltLastCode : Fld := ⟨.flt, 0x050, 0, 16, .ro, 0⟩
def fltLastData : Fld := ⟨.flt, 0x054, 0, 32, .ro, 0⟩
def fltLastTime : Fld := ⟨.flt, 0x058, 0, 64, .ro, 0⟩
def fltRepeat : Fld := ⟨.flt, 0x060, 0, 32, .ro, 0⟩
def fltPkgTemp : Fld := ⟨.flt, 0x064, 0, 16, .ro, 0⟩
def fltPkgTrip : Fld := ⟨.flt, 0x068, 0, 16, .rw, 0x7D00⟩
def fltRaised : Fld := ⟨.flt, 0x06C, 0, 32, .ro, 0⟩
def fltReactAxes (e : Nat) : Fld := ⟨.flt, 0x400 + 4 * e, 8, 24, .rw, 0⟩
def fltReactWiden (e : Nat) : Fld := ⟨.flt, 0x400 + 4 * e, 4, 2, .rw, 0⟩
def fltReactReact (e : Nat) : Fld := ⟨.flt, 0x400 + 4 * e, 0, 3, .rw, reactDefault e⟩

/-- The stored fields of the FLT page. -/
def fltFields : List Fld :=
  [fltClrAll, fltClrEntry, fltClrInstance, fltClrCleared, fltClrResult, fltLastEntry, fltLastInstance, fltLastCode, fltLastData, fltLastTime, fltRepeat, fltPkgTemp, fltPkgTrip, fltRaised] ++
  (List.range 128).flatMap (fun e => [fltReactAxes e]) ++
  (List.range 128).flatMap (fun e => [fltReactWiden e]) ++
  (List.range 128).flatMap (fun e => [fltReactReact e])

/-! ### OTP page (spec/18_otp_and_parameter_store.md) -/
def otpSparesFree : Fld := ⟨.otp, 0x040, 28, 4, .ro, 0⟩
def otpChkFail : Fld := ⟨.otp, 0x040, 26, 1, .ro, 0⟩
def otpTableDis : Fld := ⟨.otp, 0x040, 25, 1, .ro, 0⟩
def otpBusy : Fld := ⟨.otp, 0x040, 24, 1, .ro, 0⟩
def otpLocked : Fld := ⟨.otp, 0x040, 16, 6, .ro, 0⟩
def otpWeak : Fld := ⟨.otp, 0x040, 8, 6, .ro, 0⟩
def otpValid : Fld := ⟨.otp, 0x040, 0, 6, .ro, 0⟩
def otpRegion : Fld := ⟨.otp, 0x044, 8, 4, .wo, 0⟩
def otpCmd : Fld := ⟨.otp, 0x044, 0, 4, .wo, 0⟩
def otpSrc : Fld := ⟨.otp, 0x048, 2, 20, .rw, 0⟩
def otpSource : Fld := ⟨.otp, 0x04C, 28, 4, .ro, 0⟩
def otpLastCmd : Fld := ⟨.otp, 0x04C, 8, 4, .ro, 0⟩
def otpResult : Fld := ⟨.otp, 0x04C, 0, 8, .ro, 0⟩
def otpRowSel : Fld := ⟨.otp, 0x050, 0, 8, .rw, 0⟩
def otpRawRow : Fld := ⟨.otp, 0x400, 0, 8, .rw, 0⟩
def otpRawGo : Fld := ⟨.otp, 0x424, 0, 1, .wo, 0⟩
def otpRawData (w : Nat) : Fld := ⟨.otp, 0x404 + 4 * w, 0, 32, .rw, 0⟩

/-- The stored fields of the OTP page. -/
def otpFields : List Fld :=
  [otpSparesFree, otpChkFail, otpTableDis, otpBusy, otpLocked, otpWeak, otpValid, otpRegion, otpCmd, otpSrc, otpSource, otpLastCmd, otpResult, otpRowSel, otpRawRow, otpRawGo] ++
  (List.range 8).flatMap (fun w => [otpRawData w])

/-! ### PST page (spec/18_otp_and_parameter_store.md) -/
def pstLoaded : Fld := ⟨.pst, 0x040, 6, 1, .ro, 0⟩
def pstCopied : Fld := ⟨.pst, 0x040, 4, 1, .ro, 0⟩
def pstBusy : Fld := ⟨.pst, 0x040, 3, 1, .ro, 0⟩
def pstValid1 : Fld := ⟨.pst, 0x040, 2, 1, .ro, 0⟩
def pstValid0 : Fld := ⟨.pst, 0x040, 1, 1, .ro, 0⟩
def pstHalfAct : Fld := ⟨.pst, 0x040, 0, 1, .ro, 0⟩
def pstGen : Fld := ⟨.pst, 0x044, 0, 32, .ro, 0⟩
def pstGenOther : Fld := ⟨.pst, 0x048, 0, 32, .ro, 0⟩
def pstStage : Fld := ⟨.pst, 0x04C, 2, 20, .rw, 0⟩
def pstLen : Fld := ⟨.pst, 0x050, 0, 15, .rw, 0⟩
def pstMerge : Fld := ⟨.pst, 0x054, 8, 1, .wo, 0⟩
def pstCmd : Fld := ⟨.pst, 0x054, 0, 2, .wo, 0⟩
def pstIndex : Fld := ⟨.pst, 0x058, 16, 16, .ro, 0⟩
def pstResult : Fld := ⟨.pst, 0x058, 0, 8, .ro, 0⟩
def pstSkipped : Fld := ⟨.pst, 0x05C, 16, 16, .ro, 0⟩
def pstApplied : Fld := ⟨.pst, 0x05C, 0, 16, .ro, 0⟩
def pstWrites0 : Fld := ⟨.pst, 0x060, 0, 32, .ro, 0⟩
def pstWrites1 : Fld := ⟨.pst, 0x064, 0, 32, .ro, 0⟩
def pstLastT : Fld := ⟨.pst, 0x068, 0, 64, .ro, 0⟩

/-- The stored fields of the PST page. -/
def pstFields : List Fld :=
  [pstLoaded, pstCopied, pstBusy, pstValid1, pstValid0, pstHalfAct, pstGen, pstGenOther, pstStage, pstLen, pstMerge, pstCmd, pstIndex, pstResult, pstSkipped, pstApplied, pstWrites0, pstWrites1, pstLastT]

/-! ### HSP page (spec/17_firmware_and_host_access.md) -/
def hspIrqEn : Fld := ⟨.hsp, 0x040, 8, 1, .rw, 0⟩
def hspDummy : Fld := ⟨.hsp, 0x040, 0, 8, .rw, 8⟩
def hspXbase : Fld := ⟨.hsp, 0x044, 24, 8, .rw, 0x40⟩
def hspLastOpcode : Fld := ⟨.hsp, 0x048, 24, 8, .ro, 0⟩
def hspLastUnits : Fld := ⟨.hsp, 0x048, 13, 11, .ro, 0⟩
def hspLastPartial : Fld := ⟨.hsp, 0x048, 8, 5, .ro, 0⟩
def hspLastFlags : Fld := ⟨.hsp, 0x048, 0, 6, .ro, 0⟩
def hspShorts : Fld := ⟨.hsp, 0x04C, 16, 16, .ro, 0⟩
def hspFrames : Fld := ⟨.hsp, 0x04C, 0, 16, .ro, 0⟩
def hspOverruns : Fld := ⟨.hsp, 0x050, 0, 16, .ro, 0⟩

/-- The stored fields of the HSP page. -/
def hspFields : List Fld :=
  [hspIrqEn, hspDummy, hspXbase, hspLastOpcode, hspLastUnits, hspLastPartial, hspLastFlags, hspShorts, hspFrames, hspOverruns]

/-! ### MER page (spec/17_firmware_and_host_access.md) -/
def merBusy : Fld := ⟨.mer, 0x040, 8, 1, .ro, 0⟩
def merRecheck : Fld := ⟨.mer, 0x040, 0, 6, .ro, 0⟩
def merArg : Fld := ⟨.mer, 0x044, 8, 8, .wo, 0⟩
def merCmd : Fld := ⟨.mer, 0x044, 0, 8, .wo, 0⟩
def merSource : Fld := ⟨.mer, 0x048, 28, 4, .ro, 0⟩
def merLastCmd : Fld := ⟨.mer, 0x048, 8, 8, .ro, 0⟩
def merResult : Fld := ⟨.mer, 0x048, 0, 8, .ro, 0⟩

/-- The stored fields of the MER page. -/
def merFields : List Fld :=
  [merBusy, merRecheck, merArg, merCmd, merSource, merLastCmd, merResult]

/-! ### ALM page (spec/17_firmware_and_host_access.md) -/
def almRunning : Fld := ⟨.alm, 0x040, 31, 1, .ro, 0⟩
def almQuietReq : Fld := ⟨.alm, 0x040, 30, 1, .ro, 0⟩
def almStopped : Fld := ⟨.alm, 0x040, 29, 1, .ro, 1⟩
def almSlotAct : Fld := ⟨.alm, 0x040, 28, 1, .ro, 0⟩
def almRestarts : Fld := ⟨.alm, 0x040, 16, 8, .ro, 0⟩
def almCause : Fld := ⟨.alm, 0x040, 0, 4, .ro, 0⟩
def almIrqEn : Fld := ⟨.alm, 0x044, 31, 1, .rw, 0⟩
def almBootSlot : Fld := ⟨.alm, 0x044, 28, 1, .rw, 0⟩
def almSlotMib : Fld := ⟨.alm, 0x044, 24, 4, .rw, 4⟩
def almRestartMax : Fld := ⟨.alm, 0x044, 20, 4, .rw, 3⟩
def almQuietTmax : Fld := ⟨.alm, 0x044, 10, 10, .rw, 100⟩
def almWdt : Fld := ⟨.alm, 0x044, 0, 10, .rw, 50⟩
def almSlotBaseA : Fld := ⟨.alm, 0x048, 16, 16, .rw, 0⟩
def almSlotBaseB : Fld := ⟨.alm, 0x04C, 16, 16, .rw, 0x0040⟩
def almHeartbeat : Fld := ⟨.alm, 0x050, 0, 32, .rw, 0⟩
def almQuiet : Fld := ⟨.alm, 0x054, 0, 1, .rw, 0⟩
def almQueued : Fld := ⟨.alm, 0x070, 16, 6, .ro, 0⟩
def almAnsweredRst : Fld := ⟨.alm, 0x070, 0, 16, .ro, 0⟩
def almSlotVer (x : Nat) : Fld := ⟨.alm, 0x058 + 8 * x, 0, 32, .ro, 0⟩
def almSlotLength (x : Nat) : Fld := ⟨.alm, 0x05C + 8 * x, 8, 24, .ro, 0⟩
def almSlotCause (x : Nat) : Fld := ⟨.alm, 0x05C + 8 * x, 0, 3, .ro, 0⟩

/-- The stored fields of the ALM page. -/
def almFields : List Fld :=
  [almRunning, almQuietReq, almStopped, almSlotAct, almRestarts, almCause, almIrqEn, almBootSlot, almSlotMib, almRestartMax, almQuietTmax, almWdt, almSlotBaseA, almSlotBaseB, almHeartbeat, almQuiet, almQueued, almAnsweredRst] ++
  (List.range 2).flatMap (fun x => [almSlotVer x]) ++
  (List.range 2).flatMap (fun x => [almSlotLength x]) ++
  (List.range 2).flatMap (fun x => [almSlotCause x])

/-! ### GPIO page (spec/20_electrical_and_package.md) -/
def gpioOut : Fld := ⟨.gpio, 0x044, 0, 32, .rw, 0⟩
def gpioSet : Fld := ⟨.gpio, 0x048, 0, 32, .wo, 0⟩
def gpioClr : Fld := ⟨.gpio, 0x04C, 0, 32, .wo, 0⟩
def gpioDir : Fld := ⟨.gpio, 0x050, 0, 32, .rw, 0⟩
def gpioPullEn : Fld := ⟨.gpio, 0x054, 0, 32, .rw, 0⟩
def gpioPullUp : Fld := ⟨.gpio, 0x058, 0, 32, .rw, 0⟩
def gpioRise : Fld := ⟨.gpio, 0x05C, 0, 32, .rw, 0⟩
def gpioFall : Fld := ⟨.gpio, 0x060, 0, 32, .rw, 0⟩
def gpioOd : Fld := ⟨.gpio, 0x064, 0, 32, .rw, 0⟩
def gpioDirAct : Fld := ⟨.gpio, 0x068, 0, 32, .ro, 0⟩

/-- The stored fields of the GPIO page. -/
def gpioFields : List Fld :=
  [gpioOut, gpioSet, gpioClr, gpioDir, gpioPullEn, gpioPullUp, gpioRise, gpioFall, gpioOd, gpioDirAct]

end Sys2Proof.Machine
end

