-- ==== Sys2Proof/Machine/Ops.lean ====
section
/-! DEFINITION. The named operations over the register file, the typed unit state, the on-chip memory and the
chronograph writer. Every other file reaches registers and memory through them. -/
namespace Sys2Proof.Machine

/-! ### Registers -/

/-- The value in effect of a field (R14, R17). -/
def Dev.rd (d : Dev) (f : Fld) : Nat := (tabGet d.regs f).getD f.rst

/-- The value in effect, read as a signed number (R8). -/
def Dev.rdS (d : Dev) (f : Fld) : Int := signedOf f.w (d.rd f)

/-- A field of one bit or more is not 0. -/
def Dev.on (d : Dev) (f : Fld) : Bool := d.rd f != 0

/-- Set the value in effect; a field holds its own width. -/
def Dev.wr (d : Dev) (f : Fld) (v : Nat) : Dev := { d with regs := tabSet d.regs f (v % 2 ^ f.w) }

/-- Set a field from an integer, in two's complement. -/
def Dev.wrS (d : Dev) (f : Fld) (i : Int) : Dev := d.wr f (wrapTo f.w i)

/-- Set a signed field, saturating at its ends (R363). -/
def Dev.wrSat (d : Dev) (f : Fld) (i : Int) : Dev := d.wr f (wrapTo f.w (saturate f.w i))

/-- Set a flag. -/
def Dev.wrB (d : Dev) (f : Fld) (b : Bool) : Dev := d.wr f (if b then 1 else 0)

/-- Count up, saturating at the field's largest value. -/
def Dev.inc (d : Dev) (f : Fld) : Dev := if d.rd f + 1 < 2 ^ f.w then d.wr f (d.rd f + 1) else d

/-- Count up by k, saturating. -/
def Dev.incBy (d : Dev) (f : Fld) (k : Nat) : Dev := d.wr f (min (d.rd f + k) (2 ^ f.w - 1))

/-- Count up, wrapping. -/
def Dev.inw (d : Dev) (f : Fld) : Dev := d.wr f (d.rd f + 1)

/-- The shadow of an RWT field: what it reads as (R14, R66). -/
def Dev.sh (d : Dev) (f : Fld) : Nat :=
  match (tabGet d.shadows f).getD [] with
  | [] => d.rd f
  | l => (l.getLast?.map Prod.snd).getD (d.rd f)

/-- The shadow value standing at device time t (R66). -/
def Dev.shAt (d : Dev) (f : Fld) (t : Nat) : Nat :=
  ((((tabGet d.shadows f).getD []).filter (fun p => p.1 ≤ t)).getLast?.map Prod.snd).getD (d.rd f)

/-- Write a shadow at device time t. -/
def Dev.wrSh (d : Dev) (f : Fld) (t v : Nat) : Dev :=
  { d with shadows := tabSet d.shadows f (((tabGet d.shadows f).getD []) ++ [(t, v % 2 ^ f.w)]) }

/-- Set the value in effect and forget every shadow write: for a field that the block itself replaces (R82). -/
def Dev.force (d : Dev) (f : Fld) (v : Nat) : Dev := { d.wr f v with shadows := tabDel d.shadows f }

/-! ### Free values -/

/-- Use one free value (log entry 1). -/
def Dev.free (d : Dev) : Nat × Dev := (Config.freeValue d.freeCtr, { d with freeCtr := d.freeCtr + 1 })

/-! ### Units -/

/-- Axis n. -/
def Dev.ax (d : Dev) (n : Nat) : Axis := (tabGet d.axes n).getD {}

/-- Change axis n. -/
def Dev.modAx (d : Dev) (n : Nat) (f : Axis → Axis) : Dev := { d with axes := if n < 24 then tabSet d.axes n (f (d.ax n)) else d.axes }

/-- The generators of axis n. -/
def Dev.prof (d : Dev) (n : Nat) : Profile := (tabGet d.profs n).getD {}

/-- Change the generators of axis n. -/
def Dev.modProf (d : Dev) (n : Nat) (f : Profile → Profile) : Dev := { d with profs := if n < 24 then tabSet d.profs n (f (d.prof n)) else d.profs }

/-- Converter bank c. -/
def Dev.bank (d : Dev) (c : Nat) : AdcBank := (tabGet d.adc c).getD {}

/-- Change converter bank c. -/
def Dev.modBank (d : Dev) (c : Nat) (f : AdcBank → AdcBank) : Dev := { d with adc := if c < 6 then tabSet d.adc c (f (d.bank c)) else d.adc }

/-- The rotation of converter bank c. -/
def Dev.rot (d : Dev) (c : Nat) : Rotation := (tabGet d.rots c).getD {}

/-- Change the rotation of converter bank c. -/
def Dev.modRot (d : Dev) (c : Nat) (f : Rotation → Rotation) : Dev := { d with rots := if c < 6 then tabSet d.rots c (f (d.rot c)) else d.rots }

/-- A slot as reset leaves it (R356): CUR holds program 1, VEL 2, POS 3, and AUX is empty. -/
def slotAtReset (s : Nat) : Slot := { id := if s < 3 then s + 1 else 0 }

/-- Slot s of axis n. -/
def Dev.slot (d : Dev) (n s : Nat) : Slot := (tabGet d.slots (n, s)).getD (slotAtReset s)

/-- Change slot s of axis n. -/
def Dev.modSlot (d : Dev) (n s : Nat) (f : Slot → Slot) : Dev :=
  { d with slots := if n < 24 ∧ s < 4 then tabSet d.slots (n, s) (f (d.slot n s)) else d.slots }

/-- The install request in progress on axis n (R380). -/
def Dev.install (d : Dev) (n : Nat) : Option Install := tabGet d.installs n

/-- Set the install request of axis n, or end it. -/
def Dev.setInstall (d : Dev) (n : Nat) (i : Option Install) : Dev :=
  { d with installs := match i with
      | some i => if n < 24 then tabSet d.installs n i else d.installs
      | none => tabDel d.installs n }

/-- Lane l. -/
def Dev.lane (d : Dev) (l : Nat) : Lane := (tabGet d.lanes l).getD {}

/-- Change lane l. -/
def Dev.modLane (d : Dev) (l : Nat) (f : Lane → Lane) : Dev := { d with lanes := if l < 8 then tabSet d.lanes l (f (d.lane l)) else d.lanes }

/-- Memory bank b. -/
def Dev.mbank (d : Dev) (b : Nat) : BankSt := (tabGet d.banks b).getD {}

/-- Change memory bank b. -/
def Dev.modMbank (d : Dev) (b : Nat) (f : BankSt → BankSt) : Dev := { d with banks := if b < 32 then tabSet d.banks b (f (d.mbank b)) else d.banks }

/-- Feedback port p. -/
def Dev.fbp (d : Dev) (p : Nat) : FbPort := (tabGet d.fbps p).getD {}

/-- Change feedback port p. -/
def Dev.modFbp (d : Dev) (p : Nat) (f : FbPort → FbPort) : Dev := { d with fbps := if p < 24 then tabSet d.fbps p (f (d.fbp p)) else d.fbps }

/-- Event port k. -/
def Dev.evp (d : Dev) (k : Nat) : EventPort := (tabGet d.evps k).getD {}

/-- Change event port k. -/
def Dev.modEvp (d : Dev) (k : Nat) (f : EventPort → EventPort) : Dev := { d with evps := if k < 12 then tabSet d.evps k (f (d.evp k)) else d.evps }

/-- Serial memory port q. -/
def Dev.smpOf (d : Dev) (q : Nat) : SerialPort := (tabGet d.smps q).getD {}

/-- Change serial memory port q. -/
def Dev.modSmp (d : Dev) (q : Nat) (f : SerialPort → SerialPort) : Dev := { d with smps := if q < 2 then tabSet d.smps q (f (d.smpOf q)) else d.smps }

/-- Stream s. -/
def Dev.stream (d : Dev) (s : Nat) : Stream := (tabGet d.streams s).getD {}

/-- Change stream s. -/
def Dev.modStream (d : Dev) (s : Nat) (f : Stream → Stream) : Dev := { d with streams := if s < 48 then tabSet d.streams s (f (d.stream s)) else d.streams }

/-- Do f for every member of a list, in order. -/
def Dev.each (d : Dev) (l : List Nat) (f : Nat → Dev → Dev) : Dev := l.foldl (fun d n => f n d) d

/-- Do f when b holds. -/
def Dev.when_ (d : Dev) (b : Bool) (f : Dev → Dev) : Dev := if b then f d else d

/-! ### Topology (R3, R4, R21) -/

/-- The axes of cluster c, as a set. -/
def clusterAxes (c : Nat) : Nat := if c < 6 then 15 * 2 ^ (4 * c) else 0

/-- The clusters of region r: A (0) holds 0, 1 and 4, B (1) holds 2, 3 and 5 (R3). -/
def regionClusters (r : Nat) : List Nat := if r = 0 then [0, 1, 4] else [2, 3, 5]

/-- The region of cluster c. -/
def regionOf (c : Nat) : Nat := if c = 0 ∨ c = 1 ∨ c = 4 then 0 else 1

/-- The axes of region r, as a set. -/
def regionAxes (r : Nat) : Nat := (regionClusters r).foldl (fun m c => m ||| clusterAxes c) 0

/-- Every axis. -/
def allAxes : Nat := 2 ^ 24 - 1

/-! ### Events (R61, R62) -/

/-- The bits of PAGE_EVENT that have no like-numbered bit in PAGE_STICKY, or one set by a rule of its own. -/
def eventOnly : Page → Nat
  | .dev => 0b0111
  | .time => 0xFFFFFFFF
  | .chron => 0b1
  | .flt => 0b10100
  | .otp | .pst => 0b1
  | .bnk => 0b110000000
  | .smp _ => 0b1
  | .mer => 0b1
  | .alm => 0b1
  | .gpio => 0xFFFFFFFF
  | .lnk _ => 0b1
  | .net => 0b101001
  | .adc _ => 0b1100
  | .axb _ => 0b1
  | .drv _ => 0b111
  | .cur _ => 0b1000
  | .foc _ => 0b1001000
  | .obs _ => 0b100110
  | .mot _ => 0b10
  | .prf _ => 0b1111
  | .fb _ => 0b10000000011
  | .crv _ => 0b11
  | .prg _ => 0b10001
  | .evp _ => 0b10000111
  | _ => 0

/-- Set bit i of PAGE_EVENT. -/
def Dev.evOnly (d : Dev) (p : Page) (i : Nat) : Dev := d.wr (pageEvent p) (setBit (d.rd (pageEvent p)) i)

/-- Set bit i of PAGE_STICKY. -/
def Dev.sticky (d : Dev) (p : Page) (i : Nat) : Dev := d.wr (pageSticky p) (setBit (d.rd (pageSticky p)) i)

/-- An event of a page: bit i of PAGE_EVENT, and of PAGE_STICKY where the page has it (R61). -/
def Dev.ev (d : Dev) (p : Page) (i : Nat) : Dev :=
  if bitAt (eventOnly p) i then d.evOnly p i else (d.evOnly p i).sticky p i

/-- Bit i of PAGE_EVENT of a page. -/
def Dev.evBit (d : Dev) (p : Page) (i : Nat) : Bool := bitAt (d.rd (pageEvent p)) i

/-! ### The chronograph writer (R548 to R551) -/

/-- The start-up buffer holds 64 entries (R81). -/
def startBufLen : Nat := 64
/-- The writer's queue holds 256 entries (R551). -/
def queueLen : Nat := 256

/-- A source delivers an entry to the writer (R550, R551), or to the start-up buffer before bank 31 exists (R81). -/
def Dev.deliver (d : Dev) (e : ChronEntry) : Dev :=
  if d.chronOn then
    if d.queue.length < queueLen then
      let d := { d with queue := d.queue ++ [e] }
      if d.rd chronQueueMax < d.queue.length then d.wr chronQueueMax d.queue.length else d
    else ({ d with lostPend := d.lostPend + 1 }.inc chronLost).ev .chron 1
  else if d.startBuf.length < startBufLen then { d with startBuf := d.startBuf ++ [e] }
  else { d with bufOver := d.bufOver + 1 }

/-- Write a record or a fault entry: time, level, source, instance, code and data. -/
def Dev.note (d : Dev) (t level src inst code data : Nat) : Dev :=
  d.deliver { time := t, level := level, src := src, inst := inst, code := code % 65536, data := data % 2 ^ 32 }

/-- A record of the page system, in the format of R70. -/
def Dev.pageNote (d : Dev) (t : Nat) (r : Req) (level page off kind : Nat) : Dev :=
  d.note t level r.src r.inst (256 * kind) (page * 2 ^ 20 + off % 4096 * 2 ^ 8 + r.stn)

/-- Writing order of the writer: time, source, instance; arrival decides the rest (R551). -/
def chronBefore (a b : ChronEntry) : Bool :=
  a.time < b.time || (a.time == b.time && (a.src < b.src || (a.src == b.src && a.inst ≤ b.inst)))

/-- Put an entry behind every entry that goes before it. -/
def chronInsert (e : ChronEntry) : List ChronEntry → List ChronEntry
  | [] => [e]
  | x :: xs => if chronBefore x e then x :: chronInsert e xs else e :: x :: xs

/-- The entries in writing order; equal keys keep their order of arrival. -/
def chronSort (l : List ChronEntry) : List ChronEntry := l.foldl (fun acc e => chronInsert e acc) []

/-! ### On-chip memory -/

/-- The on-chip memory, one canonical list of cells (log entry 2). -/
abbrev Mem := List Host.Cell

/-- What an unlisted address reads as (R86, log entry 2). -/
def memDefault : Byte := 0

/-- The size of the on-chip memory: 32 banks of 0x2_0000 bytes (R53). -/
def memSize : Nat := 0x400000

/-- The byte at an address. -/
def Mem.read : Mem → Nat → Byte
  | [], _ => memDefault
  | (k, v) :: t, a => if k = a then v else Mem.read t a

/-- Write one byte, keeping the canonical form. -/
def Mem.write : Mem → Nat → Byte → Mem
  | [], a, b => if b = memDefault then [] else [(a, b)]
  | (k, v) :: t, a, b =>
    if a < k then (if b = memDefault then (k, v) :: t else (a, b) :: (k, v) :: t)
    else if a = k then (if b = memDefault then t else (a, b) :: t)
    else (k, v) :: Mem.write t a b

/-- The canonical form above a bound: addresses strictly rising, no default entry, nothing beyond the banks. -/
def Mem.wfFrom : Nat → Mem → Bool
  | _, [] => true
  | lo, (k, v) :: t => decide (lo ≤ k) && decide (k < memSize) && decide (v ≠ memDefault) && Mem.wfFrom (k + 1) t

/-- The canonical form of the memory. -/
def Memory.wf (m : Mem) : Bool := Mem.wfFrom 0 m

/-- Store one byte at an address of the banks; no other address exists (R53). -/
def Mem.put (m : Mem) (a : Nat) (b : Byte) : Mem := if a < memSize then m.write a b else m

/-- The little-endian number of n bytes at an address (R548). -/
def Mem.num (m : Mem) (a : Nat) : Nat → Nat
  | 0 => 0
  | n + 1 => (m.read a).toNat + 256 * Mem.num m (a + 1) n

/-- Store the n low bytes of a number, little-endian. -/
def Mem.putNum (m : Mem) (a v : Nat) : Nat → Mem
  | 0 => m
  | n + 1 => Mem.putNum (m.put a (BitVec.ofNat 8 v)) (a + 1) (v / 256) n

/-- The 32-bit word at an address. -/
def Mem.word (m : Mem) (a : Nat) : Nat := m.num a 4

/-- Store a 32-bit word. -/
def Mem.putWord (m : Mem) (a v : Nat) : Mem := m.putNum a v 4

/-- The words of a range. -/
def Mem.words (m : Mem) (a : Nat) : Nat → List Nat
  | 0 => []
  | n + 1 => m.word a :: Mem.words m (a + 4) n

/-- Store a list of words. -/
def Mem.putWords (m : Mem) (a : Nat) : List Nat → Mem
  | [] => m
  | w :: ws => Mem.putWords (m.putWord a w) (a + 4) ws

/-- Forget the bytes in [lo, hi): they read as memDefault again. -/
def Mem.clear (m : Mem) (lo hi : Nat) : Mem := m.filter (fun c => decide (c.1 < lo) || decide (hi ≤ c.1))

end Sys2Proof.Machine
end

