-- ==== Sys2Proof/Machine/Flags.lean ====
section
/-! DEFINITION. The status flags computed from the state: signalling pages and the interrupt line (R62), FAULT_N, READY
and the stopped set (R88, R543), bridge holds and the bridge state (R127). -/
namespace Sys2Proof.Machine

/-- The pages of the die and of the network, in page-index order (R55). -/
def diePages : List Page :=
  [.dev, .time, .chron, .flt, .otp, .pst, .bnk, .pgr, .smp 0, .smp 1, .hsp, .mer, .alm, .gpio,
   .lnk 0, .lnk 1, .lnk 2, .lnk 3, .net]

/-- The pages of the clusters and the external stages, in page-index order (R55). -/
def clusterPages : List Page :=
  [(List.range 6).map Page.adc, (List.range 3).map Page.xck, (List.range 6).map Page.clu, (List.range 2).map Page.gln,
   (List.range 4).map Page.pwd, [Page.xst]].flatten

/-- The pages of axis n, in page-index order (R55). -/
def axisPages (n : Nat) : List Page :=
  [.axb n, .drv n, .cur n, .foc n, .obs n, .mot n, .prf n, .fb n, .sup n, .crv n, .prg n]

/-- Every present page, in page-index order (R55). -/
def allPages : List Page :=
  [diePages, clusterPages, (List.range 24).flatMap axisPages, (List.range 12).map Page.evp].flatten

/-- A page is signalling (R62). -/
def Dev.signalling (d : Dev) (p : Page) : Bool := d.rd (pageEvent p) &&& d.rd (pageEventEn p) != 0

/-- Number of signalling pages (DEV_EVT_COUNT). -/
def Dev.evtCount (d : Dev) : Nat := (allPages.filter d.signalling).length

/-- Lowest index of a signalling page, 0xFFF when there is none (DEV_EVT_FIRST). -/
def Dev.evtFirst (d : Dev) : Nat := ((allPages.filter d.signalling).head?.map pageIndex).getD 0xFFF

/-- HS_IRQ_N is asserted (R62); until READY is set for the first time it is deasserted (R75). -/
def Dev.irq (d : Dev) : Bool := decide (6 ≤ d.stepsDone) && d.on hspIrqEn && allPages.any d.signalling

/-- Meridian's interrupt (R486). -/
def Dev.merIrq (d : Dev) : Bool := allPages.any d.signalling
/-- Almanac's interrupt (R486). -/
def Dev.almIrq (d : Dev) : Bool := d.on almIrqEn && allPages.any d.signalling

/-- The level of a fault code (R532). -/
def codeLevel (code : Nat) : Nat := code / 4096 % 16

/-- The level of an entry. -/
def entryLevel (e : Nat) : Nat := ((faultEntry? e).map (fun r => codeLevel r.code)).getD 0

/-- A package fault is active with a reaction other than report only (R88). -/
def Dev.pkgFault (d : Dev) : Bool := d.active.any (fun a => entryLevel a.entry == 5 && a.react != 0)

/-- FAULT_N is asserted (R90, R543). -/
def Dev.faultN (d : Dev) : Bool := decide (d.stepsDone < 6) || d.active.any (fun a => a.react != 0)

/-- The state of an axis (AXB_STATUS.STATE). -/
def Dev.st (d : Dev) (n : Nat) : Nat := d.rd (axbState n)

/-- An axis drives (R100): ARMED, RUN, CATCH, BRAKE or STOPPING. -/
def Dev.drives (d : Dev) (n : Nat) : Bool := decide (1 ≤ d.st n) && decide (d.st n ≤ 5)

/-- Axes whose faults stop them: the union of the stopped sets (R534). -/
def Dev.stopUnion (d : Dev) : Nat := d.active.foldl (fun m a => m ||| a.stopped) 0

/-- A fault is active in the scope of axis n (R534). -/
def Dev.inScope (d : Dev) (n : Nat) : Bool := d.active.any (fun a => bitAt a.stopped n)

/-- FLT_STOPPED (R543). -/
def Dev.stoppedWord (d : Dev) : Nat :=
  d.stopUnion ||| maskOf ((List.range 24).filter (fun n => d.st n == 6))

/-- A pair of entry and instance is active. -/
def Dev.isActive (d : Dev) (code inst : Nat) : Bool :=
  d.active.any (fun a => a.entry == (faultRow code).entry && a.inst == inst)

/-- SAFE is valid: external stages may be enabled (R92, R100). -/
def Dev.safeValid (d : Dev) : Bool := bitAt (d.rd otpValid) 2

/-- The drive enable of axis n: DENc, or DENX with SAFE valid (R100). -/
def Dev.enabled (d : Dev) (n : Nat) : Bool :=
  if n < 16 then bitAt d.pins.den (n / 4) else d.pins.denx && d.safeValid

/-- A hardware hold that latches nothing keeps the switches of axis n off (R127): a low enable, VGD out of range,
the converter bank in HALTED, or the clock departure of the region. -/
def Dev.held (d : Dev) (n : Nat) : Bool :=
  !d.enabled n || (decide (n < 16) && !bitAt d.pins.vgd (n / 4)) || d.rd (adcMode (n / 4)) == 3
    || bitAt d.pins.depart (regionOf (n / 4))

/-- The axis at a time in quarters of a ns: a change of the shorting side that has fallen due is made, and the new side
closes DRV_DEADTIME later (R123). -/
def Axis.settled (a : Axis) (q : Nat) : Axis :=
  match a.sideTo with
  | some (q0, side) =>
    if q0 ≤ q ∧ (a.bridge = 2 ∨ a.bridge = 3) ∧ a.bridge ≠ side then
      { a with bridge := side, sideTo := none, closeAt := q0 + 5 * a.drvUse.dead, lowSince := if side = 2 then (q0 + 3) / 4 else a.lowSince }
    else a
  | none => a

/-- Axis n with the side of its short as it is now. -/
def Dev.axNow (d : Dev) (n : Nat) : Axis := (d.ax n).settled (4 * d.now)

/-- DRV_STATE.BRIDGE (R127): TRIPPED over DISABLED over the state commanded. Before step 6 every bridge is off and
reads HIZ (R75, log entry 6). -/
def Dev.bridge (d : Dev) (n : Nat) : Nat :=
  if d.stepsDone < 6 then 0
  else if d.on (drvTrip n) then 5
  else if d.held n then 6
  else (d.axNow n).bridge

/-- The bridge of axis n switches or shorts. -/
def Dev.bridgeLive (d : Dev) (n : Nat) : Bool := decide (1 ≤ d.bridge n) && decide (d.bridge n ≤ 4)

/-- READY is set, with its event and its record (R88, R89). -/
def Dev.setReady (d : Dev) (t : Nat) : Dev :=
  ((d.wr devReady 1).ev .dev 0).note t 5 0 0 0x0700 (d.rd timeTickPeriod / 8 * 2 ^ 20)

/-- READY follows the active package faults (R88). -/
def Dev.syncReady (d : Dev) (t : Nat) : Dev :=
  if d.stepsDone < 6 then d
  else if d.pkgFault then d.wr devReady 0
  else if d.on devReady then d
  else d.setReady t

/-- The event FAULTN, when FAULT_N became asserted (R563). -/
def Dev.syncFaultN (d old : Dev) : Dev := if d.faultN && !old.faultN then d.ev .flt 4 else d

/-! ### Carriers (R35 to R37, R106) -/

/-- The code of the carrier count of a cluster in effect: 0, 1 and 2 for one, two and four carriers (R106). -/
def Dev.carrierCode (d : Dev) (c : Nat) : Nat :=
  if c < 4 then d.rd (pwdCarriers c) else if c = 4 then d.rd xstCarriers4 else d.rd xstCarriers5

/-- The carriers per tick of cluster c. -/
def Dev.carriers (d : Dev) (c : Nat) : Nat := 2 ^ d.carrierCode c

/-- T_C of cluster c in 1.25 ns steps (R35): a tick period of 5 ns cycles is four steps each. -/
def Dev.tc (d : Dev) (c : Nat) : Nat := 4 * d.rd timeTickPeriod / d.carriers c

/-- T_C of the carriers of the present tick: they scale with a tick that is lengthened (R48). -/
def Dev.tcNow (d : Dev) (c : Nat) : Nat := 4 * (d.rd timeTickPeriod + d.stretch) / d.carriers c

/-- The axis tick of axis n that belongs to a boundary at b ns, in quarters of a ns (R36), for a carrier period tc: one step
is five quarters. -/
def axisTick (tc n b : Nat) : Nat := 4 * b + 5 * (n % 4 * tc) / 4

end Sys2Proof.Machine
end

