-- ==== Sys2Proof/Machine/Gates.lean ====
section
/-! DEFINITION. The switches of a bridge (R96, R98, R102 to R104, R110, R111, R121): the commanded level of each phase at an
instant, the dead time, and the gate outputs of an external stage. Instants are in quarters of a nanosecond: one 1.25 ns step
is five of them. -/
namespace Sys2Proof.Machine

/-- The low pulses of an interval: halves before and after the valley, and the shift of each (R103, R112). -/
structure Edges where
  /-- T_C in steps. -/
  tc : Int
  /-- Low-pulse halves before the valley. -/
  before : List Int
  /-- Low-pulse halves after the valley. -/
  after : List Int
  /-- Shifts. -/
  shift : List Int
deriving DecidableEq, Repr

/-- Start of the low pulse of phase x. -/
def Edges.fall (e : Edges) (x : Nat) : Int := e.shift.getD x 0 - e.before.getD x 0
/-- End of the low pulse of phase x. -/
def Edges.rise (e : Edges) (x : Nat) : Int := e.shift.getD x 0 + e.after.getD x 0
/-- Phase x has commanded edges in the interval. -/
def Edges.moves (e : Edges) (x : Nat) : Bool :=
  decide (0 < e.before.getD x 0 + e.after.getD x 0) && decide (e.before.getD x 0 + e.after.getD x 0 < e.tc)
/-- Phase x is commanded high at an instant. -/
def Edges.high (e : Edges) (x : Nat) (at_ : Int) : Bool :=
  if e.moves x then !(decide (e.fall x ≤ at_) && decide (at_ < e.rise x)) else e.before.getD x 0 + e.after.getD x 0 == 0

/-! ### The settings in use (R111) -/

/-- A tripped axis goes on using the settings of its last load until it drives again (R111). -/
def Dev.drvFrozen (d : Dev) (n : Nat) : Bool := (d.ax n).drvHeld && (d.on (drvTrip n) || !d.drives n)

/-- The DRV settings that a load of axis n uses. -/
def Dev.drvSet (d : Dev) (n : Nat) : DrvUse :=
  if d.drvFrozen n then (d.ax n).drvUse
  else { overmod := d.on (drvOvermod n), twoPhase := d.on (drvTwoPhase n), busFf := d.on (drvBusFf n), dtComp := d.on (drvDtComp n),
         shiftEn := d.on (drvShiftEn n), alternate := d.on (drvBrakeSide n), dead := d.rd (drvDeadtime n), pulse := d.rd (drvPulseMin n),
         blank := d.rd (drvOcBlank n), band := d.rdS (drvDtBand n), nominal := d.rd (drvVbusNom n) }

/-! ### Commanded levels (R102, R103, R112) -/

/-- The commanded levels of phase x in the interval centred on a valley, each with the instant from which it stands: high at
true. -/
def Edges.levels (e : Edges) (centre : Int) (x : Nat) : List (Int × Bool) :=
  let start := centre - 5 * e.tc / 2
  if e.moves x then [(start, true), (centre + 5 * e.fall x, false), (centre + 5 * e.rise x, true)] else [(start, e.high x 0)]

/-- Follow levels to an instant: the level there, and the instant of the last commanded edge. -/
def followTo (q : Int) (run : Bool × Int) (l : List (Int × Bool)) : Bool × Int :=
  l.foldl (fun r s => if s.1 ≤ q ∧ s.2 ≠ r.1 then (s.2, s.1) else r) run

/-- The commanded level of phase x at an instant from the load of the standing vector on, and its last commanded edge: the
vector stands for every interval of the tick, the shift only for the last one, centred on the axis tick (R102, R112). -/
def Dev.levelRun (d : Dev) (n x q : Nat) : Bool × Int :=
  let a := d.ax n
  let e : Edges := { tc := a.planTc, before := a.before, after := a.after, shift := a.shift }
  let len : Int := 5 * a.planTc
  let run := a.ran.getD x (true, 0)
  if a.planTc = 0 then run
  else
    let i : Int := (2 * q + len - 2 * a.planTv) / (2 * len)
    let at_ := fun (i : Int) => (if i = 0 then e else { e with shift := [0, 0, 0] }).levels (a.planTv + i * len) x
    let first : Int := 1 - d.carriers (n / 4)
    followTo q run ((if first < i then at_ (i - 1) else []) ++ at_ i)

/-! ### Switches and gate outputs (R98, R104, R120, R121) -/

/-- The high-side and the low-side switch of phase x of axis n at an instant: in PWM the incoming switch follows its edge by
DRV_DEADTIME, a short closes one side, and in every other bridge state all switches are off. -/
def Dev.switches (d : Dev) (n x q : Nat) : Bool × Bool :=
  let a := d.axNow n
  match d.bridge n with
  | 1 =>
    let r := d.levelRun n x q
    let on := decide (r.2 + 5 * a.drvUse.dead ≤ q)
    (r.1 && on, !r.1 && on)
  | 2 => (false, decide (a.closeAt ≤ q))
  | 3 => (decide (a.closeAt ≤ q), false)
  | _ => (false, false)

/-- What a gate output shows. -/
inductive Gate
  | /-- Driven low: the switch is off. -/ low
  | /-- Driven high: the switch is on. -/ high
  | /-- High impedance: the pull-down holds the switch off. -/ floating
deriving DecidableEq, Repr

/-- The outputs Xn_xH and Xn_xL of an external stage (R75, R98): high impedance in SERVICE, low before READY, while the stages
are disabled and while the axis is tripped. -/
def Dev.gates (d : Dev) (n x q : Nat) : Gate × Gate :=
  let show_ := fun (b : Bool) => if b then Gate.high else Gate.low
  if d.rd (axbState n) = 7 then (.floating, .floating) else (show_ (d.switches n x q).1, show_ (d.switches n x q).2)

end Sys2Proof.Machine
end

