-- ==== Sys2Proof/Machine/AxisCore.lean ====
section
/-! DEFINITION. The axis state machine (R295): its states, the transitions every block shares, the bridge actions and
the reactions (R23, R270, R271, R295, R298). -/
namespace Sys2Proof.Machine

/-! States of AXB_STATUS.STATE. -/

/-- OFF. -/
abbrev stOff : Nat := 0
/-- ARMED. -/
abbrev stArmed : Nat := 1
/-- RUN. -/
abbrev stRun : Nat := 2
/-- CATCH. -/
abbrev stCatch : Nat := 3
/-- BRAKE. -/
abbrev stBrake : Nat := 4
/-- STOPPING. -/
abbrev stStopping : Nat := 5
/-- FAULT. -/
abbrev stFault : Nat := 6
/-- SERVICE. -/
abbrev stService : Nat := 7

/-- Causes of record 0x0E00 (R302): command, reaction, internal, clear. -/
abbrev causeCommand : Nat := 0
/-- A reaction. -/
abbrev causeReaction : Nat := 1
/-- An internal end. -/
abbrev causeInternal : Nat := 2
/-- A clear. -/
abbrev causeClear : Nat := 3

/-- Brake purposes (R266): catch, still, reversal, stop. -/
abbrev purposeStop : Nat := 3

/-- The mode in effect (AXB_MODE_ACT): 0 CURVE, 1 TORQUE, 2 SPEED, 3 POSITION, 4 EPHEMERIS, 5 CUSTOM. -/
def Dev.mode (d : Dev) (n : Nat) : Nat := d.rd (axbMode n)

/-- POSITION or EPHEMERIS. -/
def Dev.posMode (d : Dev) (n : Nat) : Bool := d.mode n == 3 || d.mode n == 4

/-- FOC_CTRL_ACT.ANGLE_SRC, 1 during the observer fallback (R288). -/
def Dev.angleSrc (d : Dev) (n : Nat) : Nat := if d.on (axbFallback n) then 1 else d.rd (focAngleSrc n)

/-- The phase of the observer block (OBS_STATUS.PHASE). -/
def Dev.phase (d : Dev) (n : Nat) : Nat := d.rd (obsPhase n)

/-- The VEL slot of an axis is empty. -/
def Dev.velEmpty (d : Dev) (n : Nat) : Bool := (d.slot n 1).id == 0

/-- Enter a phase of the start sequence at time t; POLARITY runs at θ_h = 0 (R258). -/
def Dev.setPhase (d : Dev) (n p t : Nat) : Dev :=
  (d.wr (obsPhase n) p).modAx n (fun a => { a with phaseAt := t, agreeRun := 0, thH := if p = 4 then 0 else a.thH })

/-- The bridge of axis n is off from time t on, until it is commanded again. -/
def Dev.bridgeOff (d : Dev) (n t : Nat) : Dev :=
  let live := d.bridgeLive n
  d.modAx n (fun a => { a with bridge := 0, brakeWait := false, regOpen := false,
                               offSince := if live then t else a.offSince, planLost := a.planLost || live })

/-- A hold or a trip starts to keep the switches of axis n off (R183). -/
def Dev.noteOff (d : Dev) (n t : Nat) : Dev :=
  d.when_ (d.bridgeLive n) (fun d => d.modAx n (fun a => { a with offSince := t, planLost := true }))

/-- The side of a short in the tick of a TICK_COUNT (R123): low with BRAKE_SIDE LOW, in even ticks, and in an odd tick
after a regulation crossing in the low-side tick before it. -/
def Dev.shortSide (d : Dev) (n tick : Nat) (crossed : Bool) : Nat :=
  if (d.ax n).drvUse.alternate && tick % 2 == 1 && !crossed then 3 else 2

/-- The first valley of axis n in the present tick is past at time t: sides and shorts follow the tick from there on
(R36, R123). -/
def Dev.valleyPast (d : Dev) (n t : Nat) : Bool := decide (axisTick (d.tcNow (n / 4)) n d.tickStart ≤ 4 * t)

/-- All switches go off at time t, and the short closes on a side DRV_DEADTIME later (R121, R122). -/
def Dev.shortOn (d : Dev) (n side t : Nat) : Dev :=
  d.modAx n (fun a => { a with bridge := side, brakeWait := false, regOpen := false, planLost := true, closeAt := 4 * t + 5 * a.drvUse.dead,
                               lowSince := if a.bridge = 2 then a.lowSince else t })

/-- Close the short (R120, R121), on the side of the tick whose first valley came last (R123). -/
def Dev.shortNow (d : Dev) (n t : Nat) : Dev :=
  let tick := d.rd timeTickCount + (if d.valleyPast n t then 0 else 1)
  (d.shortOn n (d.shortSide n tick false) t).modAx n (fun a => { a with regTick := false, sideTo := none })

/-- End the excitation of axis n (R291). -/
def Dev.endExcitation (d : Dev) (n : Nat) : Dev :=
  let d := d.modAx n (fun a => { a with excStart := false })
  if d.on (motExcRun n) then (d.wr (motExcRun n) 0).ev (.mot n) 1 else d

/-- Axis n leaves RUN (R322, R325): a move in execution is abandoned and its target cleared to p_cmd; an ephemeris entry
in execution is interrupted. -/
def Dev.leaveRun (d : Dev) (n : Nat) : Dev :=
  let d := d.modProf n (fun g => { g with plan := none, replan := false })
  let d := (d.wr (prfMoving n) 0).wr (prfPhase n) 0
  let d := d.wr (prfTgtAct n) (d.rd (prfP n))
  if d.rd (prfEphState n) = 2 then (d.wr (prfEphState n) 5).ev (.prf n) 5 else d

/-- Change the state of axis n at time t (R295, R302): the record, the events and what every change of state ends. -/
def Dev.setState (d : Dev) (n new cause src t : Nat) : Dev :=
  let old := d.st n
  let d := (d.wr (axbState n) new).wr (axbStateTime n) t
  let d := d.modAx n (fun a =>
    let moves := new == stRun || new == stStopping
    { a with nextState := none, sync := if moves then a.sync else none, fallDue := if moves then a.fallDue else none })
  let d := d.ev (.axb n) 0
  let d := d.when_ (new == stFault) (fun d => d.ev (.axb n) 1)
  let d := d.when_ (d.on (drvTestEn n)) (fun d => (d.wr (drvTestEn n) 0).bridgeOff n t)
  let d := d.when_ (old == stRun && new != stRun) (fun d => (d.endExcitation n).leaveRun n)
  let d := d.when_ (new == stArmed || new == stOff || new == stFault) (fun d => d.wr (axbFallback n) 0)
  let d := d.when_ (new == stArmed || new == stOff || new == stFault || new == stService) (fun d => d.setPhase n 0 t)
  d.note t 1 src n 0x0E00 (new + 16 * old + 256 * cause)

/-- The axis enters FAULT with its bridge off. -/
def Dev.toFaultOff (d : Dev) (n cause src t : Nat) : Dev := (d.bridgeOff n t).setState n stFault cause src t

/-- The axis enters BRAKE (R266): the purpose, the phase SHORT, and the short at the next valley, or within 100 ns when
it is a reaction (R121). -/
def Dev.enterBrake (d : Dev) (n purpose cause src t : Nat) (now toFault : Bool) : Dev :=
  let d := d.setState n stBrake cause src t
  let d := (d.wr (obsPurpose n) purpose).setPhase n 9 t
  let d := d.modAx n (fun a => { a with brakeRun := 0, brakeDone := none, nextState := none, toFault := toFault })
  if now then d.shortNow n t else d.modAx n (fun a => { a with brakeWait := true })

/-- What every entry into RUN resets (R200, R283, R285): the loops' integrators, the velocity filter and the following-error
count, and the current integrators where it is an entry into PWM; from ARMED or CATCH also the applied outputs. -/
def Dev.enterRun (d : Dev) (n cause src t : Nat) : Dev :=
  let old := d.st n
  let d := d.setState n stRun cause src t
  let d := ((((d.wr (motIntV n) 0).wr (motIntP n) 0).wr (motVFb n) 0).wr (supFeRun n) 0)
  let d := d.when_ (d.bridge n != 1) (fun d => ((d.wr (focIntD n) 0).wr (focIntQ n) 0).wr (focIdFw n) 0)
  let d := d.modAx n (fun a => { a with lastVref := none, toFault := false, toFrozen := false, holdPend := false, nextState := none })
  let d := d.modProf n (fun g => if old = stStopping then { g with v := 0, a := 0, waitCmd := true } else { g with init := true, waitCmd := true })
  let d := d.when_ (old == stArmed || old == stCatch) (fun d =>
    (d.wr (motIOut n) 0).modAx n (fun a => { a with vRefApp := 0, velOut := none, posOut := none, bridge := 1 }))
  d

/-- The axis enters STOPPING (R297). -/
def Dev.enterStop (d : Dev) (n cause src t : Nat) (toFault toFrozen : Bool) : Dev :=
  let d := d.setState n stStopping cause src t
  d.modAx n (fun a => { a with stopRef := a.lastVref.getD 0, stopRun := 0, stopInit := true, stopAt := t,
                               toFault := toFault, toFrozen := toFrozen, holdPend := false })

/-- The phase has no angle in which the axis can ramp (R271): MEASURE, ALIGN, RAMP, POLARITY, HFI, BLEND. -/
def startPhase (p : Nat) : Bool := decide (1 ≤ p) && decide (p ≤ 6)

/-- The reaction axis n takes when reaction r is applied to it in RUN (R271, R297, R298): a ramp stop or hold without a
known angle is an immediate bridge off; without a VEL program in TORQUE it is a short brake; a hold that cannot freeze
a position input is a ramp stop that ends frozen (code 5). -/
def Dev.effReact (d : Dev) (n r : Nat) : Nat :=
  if r = 1 ∨ r = 2 then
    if startPhase (d.phase n) then 4
    else if d.mode n == 1 && d.velEmpty n then 3
    else if r = 1 && (!d.posMode n || d.phase n == 7 || d.phase n == 8) then 5
    else r
  else r

/-- A loss of lock waits for its boundary: the bridge of the axis is off (R264). -/
def Dev.lostNow (d : Dev) (n : Nat) : Bool :=
  match (d.ax n).nextState with
  | some (s, _, _) => d.st n == stStopping || (d.st n == stRun && s == stCatch)
  | none => false

/-- Apply reaction r to axis n at time t (R23, R295); a reaction in the tick of a loss finds the bridge off (R265). -/
def Dev.react (d : Dev) (n r t : Nat) : Dev :=
  if r = 0 then d
  else if d.lostNow n then d.toFaultOff n causeReaction 0 t
  else
    match d.st n with
    | 0 | 1 => d.toFaultOff n causeReaction 0 t
    | 2 =>
      match d.effReact n r with
      | 4 => d.toFaultOff n causeReaction 0 t
      | 3 => d.enterBrake n purposeStop causeReaction 0 t true true
      | 2 => d.enterStop n causeReaction 0 t true false
      | 5 => d.enterStop n causeReaction 0 t false true
      | _ => d.modAx n (fun a => { a with holdPend := true })
    | 5 =>
      if r = 4 then d.toFaultOff n causeReaction 0 t
      else if r = 3 then d.enterBrake n purposeStop causeReaction 0 t true true
      else if startPhase (d.phase n) then d.toFaultOff n causeReaction 0 t
      else if r = 2 then d.modAx n (fun a => { a with toFault := true })
      else d.modAx n (fun a => { a with toFrozen := true })
    | 3 =>
      if r = 4 ∨ r = 1 ∨ r = 2 then d.toFaultOff n causeReaction 0 t
      else d.modAx n (fun a => { a with toFault := true })
    | 4 =>
      if r = 4 then d.toFaultOff n causeReaction 0 t
      else
        let keep := d.rd (obsPurpose n) == purposeStop
        (d.wr (obsPurpose n) purposeStop).modAx n (fun a =>
          if keep then { a with toFault := true } else { a with toFault := true, brakeRun := 0, nextState := none })
    | 6 => if r = 4 then d.bridgeOff n t else d
    | _ => d

/-- Apply a reaction to a set of axes, in ascending order. -/
def Dev.reactSet (d : Dev) (set r t : Nat) : Dev := d.each (bitList 24 set) (fun n d => d.react n r t)

end Sys2Proof.Machine
end

