-- ==== Sys2Proof/Machine/Faults.lean ====
section
/-! DEFINITION. Raising a fault, the stopped set, the reactions, and clearing (R532 to R547). -/
namespace Sys2Proof.Machine

/-- The base set of R21 for a level and an instance; AXES of the entry for a system fault. -/
def baseSet (level inst axes : Nat) : Nat :=
  match level with
  | 1 => if inst < 24 then 2 ^ inst else 0
  | 2 | 4 => clusterAxes inst
  | 3 => regionAxes inst
  | 5 => allAxes
  | _ => axes

/-- The axes of the clusters, or of the regions, that hold an axis of a set. -/
def spread (groups : List Nat) (set : Nat) : Nat :=
  groups.foldl (fun m g => if g &&& set = 0 then m else m ||| g) set

/-- The stopped set widened by WIDEN (R534, R540). -/
def widen (w set : Nat) : Nat :=
  match w with
  | 1 => spread ((List.range 6).map clusterAxes) set
  | 2 => spread ((List.range 2).map regionAxes) set
  | 3 => if set = 0 then 0 else allAxes
  | _ => set

/-- The region whose axes a region fault stops: the region of the bank for a bank fault, the instance otherwise (R21, R413). -/
def baseInst (code inst : Nat) : Nat :=
  if code = 0x3B01 ∨ code = 0x3B02 ∨ code = 0x3130 then inst / 16 else inst

/-- Raise the active part of a fault: reaction and stopped set as the entry stands (R538). -/
def Dev.activate (d : Dev) (row : FaultRow) (inst t : Nat) : Dev :=
  let react := if row.kind = 3 then 0 else d.rd (fltReactReact row.entry)
  let base := baseSet (codeLevel row.code) (baseInst row.code inst) (d.rd (fltReactAxes row.entry))
  let stopped := if react = 0 then 0 else widen (d.rd (fltReactWiden row.entry)) base
  let d : Dev := { d with active := d.active ++ [{ entry := row.entry, inst := inst, react := react, stopped := stopped, raisedAt := t }] }
  let d := if react = 0 then d.ev .flt 1 else d.ev .flt 0
  if 3 ≤ react then d.reactSet stopped react t
  else if react = 0 then d
  else { d with deferred := d.deferred ++ [{ at_ := t, react := react, stopped := stopped }] }

/-- Registers of the last fault raised (R563) and its entry in the chronograph. -/
def Dev.noteFault (d : Dev) (row : FaultRow) (inst src data t : Nat) : Dev :=
  let d := (((d.wr fltLastEntry row.entry).wr fltLastInstance inst).wr fltLastCode row.code).wr fltLastData data
  let d := ((d.wr fltLastTime t).inc fltRaised)
  d.note t (codeLevel row.code) src inst row.code data

/-- A fault is raised at time t (R533, R538, R539, R543). Its hardware action is the caller's. -/
def Dev.raise (d : Dev) (code inst src data t : Nat) : Dev :=
  let row := faultRow code
  let new :=
    if row.kind = 0 then
      if d.evtTick.any (fun p => p.1 == row.entry && p.2 == inst) then d.inc fltRepeat
      else (({ d with evtTick := d.evtTick ++ [(row.entry, inst)] } : Dev).ev .flt 1).noteFault row inst src data t
    else if d.isActive code inst then
      ({ d with active := d.active.map (fun a => if a.entry = row.entry ∧ a.inst = inst then { a with raisedAt := t } else a) } : Dev).inc fltRepeat
    else (d.activate row inst t).noteFault row inst src data t
  (new.syncReady t).syncFaultN d

/-- A pair leaves the active set without a clear: a condition that ended, or a barring fault whose check passed (R93, R533). -/
def Dev.endFault (d : Dev) (code inst t : Nat) : Dev :=
  ({ d with active := d.active.filter (fun a => !(a.entry == (faultRow code).entry && a.inst == inst)) } : Dev).syncReady t

/-- The condition of a pair that is active ended (R533). -/
def Dev.conditionOver (d : Dev) (code inst t : Nat) : Dev :=
  if d.isActive code inst then d.endFault code inst t else d

/-- The latched trip an overcurrent or Xn_FLT_N fault holds: its bit of DRV_STATE.TRIP (R118). -/
def tripBit (code : Nat) : Option Nat :=
  match code with
  | 0x1201 => some 0 | 0x1202 => some 1 | 0x1203 => some 2
  | _ => none

/-- The detector of a fault still reports its condition (R545); for 0x1203 the input Xn_FLT_N too (log entry 27). -/
def Dev.causeStands (d : Dev) (code inst : Nat) : Bool :=
  match code with
  | 0x1201 | 0x1202 => bitAt d.pins.oc inst
  | 0x1203 => bitAt d.pins.oc inst || bitAt d.pins.xflt (inst - 16)
  | 0x1207 => !bitAt (d.rd xstVbusOk) (inst - 16)
  | 0x4201 | 0x4202 => !d.on (pwdVbusOk inst)
  | 0x4203 => d.on (pwdStTempTrip inst)
  | 0x4204 => !bitAt d.pins.vgd inst
  | 0x2301 => d.on (xckMismatch (inst / 2))
  | 0x1601 => (List.range 24).any (fun p => bitAt (d.ax inst).wirePorts p && (d.fbp p).disagree &&& d.rd (fbWire p) != 0)
  | 0x2A01 => !(d.lane inst).faulty.isEmpty
  | 0x3A01 => !(d.lane (6 + inst)).faulty.isEmpty
  | 0x3001 => bitAt d.pins.depart inst
  | 0x5001 => decide (d.rdS fltPkgTrip - 1280 < d.rdS fltPkgTemp)
  | _ => false

/-- A fault of a higher level that is not report only shares an axis with the fault to be cleared (R545). -/
def Dev.orderBars (d : Dev) (f : ActiveFault) : Bool :=
  d.active.any (fun a => decide (entryLevel f.entry < entryLevel a.entry) && a.react != 0 && a.stopped &&& f.stopped != 0)

/-- Result codes of FLT_CLEAR_RESULT (R563). -/
def clrApplied : Nat := 1
/-- BUSY. -/
def clrBusy : Nat := 3
/-- RANGE. -/
def clrRange : Nat := 20
/-- ORDER. -/
def clrOrder : Nat := 30
/-- CAUSE. -/
def clrCause : Nat := 31
/-- FIXED. -/
def clrFixed : Nat := 32

/-- Why an active fault is not cleared at the boundary whose cut-off is given (R544, R545); none: it is cleared. -/
def Dev.clearRefusal (d : Dev) (cut : Nat) (f : ActiveFault) : Option Nat :=
  match faultEntry? f.entry with
  | none => some clrRange
  | some row =>
    if row.kind ≠ 2 then some clrFixed
    else if d.orderBars f then some clrOrder
    else if d.causeStands row.code f.inst || decide (cut ≤ f.raisedAt) then some clrCause
    else none

/-- A feedback port counts again on the pairs whose check had tripped (R214); in SSER the next valid frame sets A (R230). -/
def Dev.resumePort (d : Dev) (p : Nat) : Dev :=
  if d.rd (fbWire p) = 0 then d
  else ((d.wr (fbWire p) 0).wr (fbLines p) ((tabGet d.pins.fb p).getD 0)).modFbp p (fun x => { x with absA := none })

/-- Release what a cleared fault latches (R118, R214, R547). -/
def Dev.release (d : Dev) (f : ActiveFault) : Dev :=
  if ((faultEntry? f.entry).map (·.code)) = some 0x1601 then
    d.each ((List.range 24).filter (fun p => bitAt (d.ax f.inst).wirePorts p)) (fun p d => d.resumePort p)
  else
  match (faultEntry? f.entry).bind (fun r => tripBit r.code) with
  | some b =>
    let d := d.wr (drvTrip f.inst) (clearBit (d.rd (drvTrip f.inst)) b)
    d.modAx f.inst (fun a => { a with bridge := 0 })
  | none => d

/-- Clear one fault at boundary b (R547). -/
def Dev.clearOne (d : Dev) (b src : Nat) (all : Bool) (f : ActiveFault) : Dev :=
  let d : Dev := { d with active := d.active.filter (fun a => !(a.entry == f.entry && a.inst == f.inst)) }
  let d := d.release f
  let d := d.note b (entryLevel f.entry) src f.inst 0x0140 (f.entry * 2 ^ 16 + (if all then 2 ^ 8 else 0) + f.inst % 32)
  d.ev .flt 2

/-- Axes in FAULT that no active fault holds move to OFF (R295, R547). -/
def Dev.leaveFault (d : Dev) (cause b : Nat) : Dev :=
  d.each (List.range 24) (fun n d => if d.st n == stFault && !d.inScope n then d.setState n stOff cause 9 b else d)

/-- The faults in the order in which a clear with ALL visits them: level 6 to 1, then entry, then instance (R546). -/
def visitInsert (f : ActiveFault) : List ActiveFault → List ActiveFault
  | [] => [f]
  | g :: gs =>
    if entryLevel f.entry > entryLevel g.entry ∨ (entryLevel f.entry = entryLevel g.entry ∧
        (f.entry < g.entry ∨ (f.entry = g.entry ∧ f.inst < g.inst)))
    then f :: g :: gs else g :: visitInsert f gs

/-- The visiting order of R546. -/
def visitOrder (l : List ActiveFault) : List ActiveFault := l.foldl (fun acc f => visitInsert f acc) []

/-- The latched faults among the active ones. -/
def Dev.latched (d : Dev) : List ActiveFault :=
  d.active.filter (fun a => ((faultEntry? a.entry).map (fun r => r.kind == 2)).getD false)

/-- A clear with ALL: visit every active latched fault (R546); the number cleared. -/
def clearVisit (b cut src : Nat) : List ActiveFault → Dev → Nat → Dev × Nat
  | [], d, k => (d, k)
  | f :: fs, d, k =>
    match d.clearRefusal cut f with
    | some _ => clearVisit b cut src fs d k
    | none => clearVisit b cut src fs (d.clearOne b src true f) (k + 1)

/-- The pending clear takes effect at boundary b (R544 to R547), and the axes that no fault holds any more leave FAULT. -/
def Dev.applyClear (d : Dev) (b : Nat) : Dev :=
  match d.clearReq with
  | none => d
  | some q =>
    if b < q.at_ + 100 then d
    else
      let cut := b - 100
      let old := d
      let d : Dev := { d with clearReq := none }
      let d :=
        if q.all then
          let (d, k) := clearVisit b cut q.src (visitOrder d.latched) d 0
          let d := (d.wr fltClrCleared k).wr fltClrResult clrApplied
          d.when_ (!d.latched.isEmpty) (fun d => d.ev .flt 3)
        else
          match d.active.find? (fun a => a.entry == q.entry && a.inst == q.inst) with
          | none => ((d.wr fltClrCleared 0).wr fltClrResult clrRange).ev .flt 3
          | some f =>
            match d.clearRefusal cut f with
            | some r => ((d.wr fltClrCleared 0).wr fltClrResult r).ev .flt 3
            | none => ((d.clearOne b q.src false f).wr fltClrCleared 1).wr fltClrResult clrApplied
      let d := d.each (List.range 24) (fun n d =>
        if d.st n == stFault && old.inScope n && !d.inScope n then d.setState n stOff causeClear 9 b else d)
      d.syncReady b

/-- A write to FLT_CLEAR (R544): it waits for its boundary, or is refused with BUSY. A write of an entry that is out of
range waits like any other and is refused at its boundary (R545). -/
def Dev.requestClear (d : Dev) (all : Bool) (entry inst src t : Nat) : Dev :=
  match d.clearReq with
  | some _ => ((d.wr fltClrResult clrBusy).wr fltClrCleared 0).ev .flt 3
  | none =>
    (({ d with clearReq := some { all := all, entry := entry, inst := inst, at_ := t, src := src } } : Dev).wr fltClrResult 0).wr fltClrCleared 0

/-- The reactions that act at boundary b: ramp stops and holds raised at least 100 ns before it (R538), most drastic first (R23). -/
def Dev.applyDeferred (d : Dev) (b : Nat) : Dev :=
  let due := d.deferred.filter (fun r => decide (r.at_ + 100 ≤ b))
  let d : Dev := { d with deferred := d.deferred.filter (fun r => !decide (r.at_ + 100 ≤ b)) }
  let d := (due.filter (fun r => r.react == 2)).foldl (fun d r => d.reactSet r.stopped 2 b) d
  (due.filter (fun r => r.react == 1)).foldl (fun d r => d.reactSet r.stopped 1 b) d

/-- A table word is changed (R541): bounded by the minimum from SAFE, ignored for events and barring faults and with
TABLE_FIXED; each change writes record 0x0150. -/
def Dev.writeReact (d : Dev) (e v : Nat) (r : Req) (t : Nat) : Dev :=
  match faultEntry? e with
  | none => d
  | some row =>
    if row.kind = 0 ∨ row.kind = 3 ∨ d.tableFixed then d
    else
      let asked := v % 8
      let capped := if 4 < asked then 4 else asked
      let least := match d.reactMin with
        | none => reactDefault e
        | some m => (tabGet m e).getD 0
      let react := max capped least
      let old := (d.rd (fltReactReact e), d.rd (fltReactWiden e), d.rd (fltReactAxes e))
      let d := ((d.wr (fltReactReact e) react).wr (fltReactWiden e) (v / 16)).wr (fltReactAxes e) (v / 256)
      let d := d.when_ (react != asked) (fun d => d.ev .flt 3)
      if old = (d.rd (fltReactReact e), d.rd (fltReactWiden e), d.rd (fltReactAxes e)) then d
      else d.note t 5 r.src 0 0x0150 (e * 2 ^ 16 + react + 16 * (v / 16 % 4))

/-- FLT_ACTIVE_e: the instances for which entry e is active (R563). -/
def Dev.activeWord (d : Dev) (e : Nat) : Nat := maskOf ((d.active.filter (fun a => a.entry == e)).map (·.inst))

/-- FLT_STATUS.LEVELS (R563). -/
def Dev.levelsWord (d : Dev) : Nat := maskOf (d.active.map (fun a => entryLevel a.entry - 1))

/-- A register write changes FLT_PKG_TRIP: at most 0x7F80 (R563). -/
def Dev.writePkgTrip (d : Dev) (v : Nat) : Dev :=
  d.wrS fltPkgTrip (clampInt (-32768) 0x7F80 (signedOf 16 v))

end Sys2Proof.Machine
end

