-- ==== Sys2Proof/Machine/Inject.lean ====
section
/-! DEFINITION. Triggers of injected conversions (R140 to R142), shared by every block that fires one. -/
namespace Sys2Proof.Machine

/-- The channel code AUTO of ADC_INJ_CFG. -/
def chanAuto : Nat := 0x40

/-- Slot i of bank c is triggered at time t: it becomes pending with its configuration, or the trigger is lost while
the previous conversion is pending or runs (R142). -/
def Dev.injTrigger (d : Dev) (c i auto t : Nat) : Dev :=
  match tabGet (d.bank c).inj i with
  | some _ => (d.inc (adcInjLost c)).ev (.adc c) 7
  | none =>
    let chan := if d.rd (adcInjCfgChan c i) = chanAuto then auto else d.rd (adcInjCfgChan c i)
    let j : Injection := { at_ := t, chan := chan, gain := d.rd (adcInjCfgGain c i), ts := d.rd (adcInjCfgTs c i) }
    d.modBank c (fun b => { b with inj := tabSet b.inj i j })

/-- The link channel that an AUTO slot converts for a trigger 1, 2 or 3 (R141). -/
def Dev.injLinkChan (d : Dev) (c i : Nat) : Nat := 0x0C + d.rd (adcInjCfgAxis c i)

/-- Trigger every slot of bank c with a trigger code and a condition of its own. -/
def Dev.injWhere (d : Dev) (c trig t : Nat) (ok : Dev → Nat → Bool) : Dev :=
  d.each (List.range 8) (fun i d =>
    if d.rd (adcInjCfgTrig c i) == trig && ok d i then d.injTrigger c i (d.injLinkChan c i) t else d)

/-- The triggers of an axis: 4 for a latched trip, 5 for a brake-regulation crossing; an AUTO slot converts the channel
of the comparator that crossed (R141). -/
def Dev.injAxis (d : Dev) (n trig chan t : Nat) : Dev :=
  let c := n / 4
  d.each (List.range 8) (fun i d =>
    if d.rd (adcInjCfgTrig c i) == trig && d.rd (adcInjCfgAxis c i) == n % 4 then d.injTrigger c i chan t else d)

/-- The leg channel of phase p, or the link channel, of axis n (R134). -/
def legChan (n p : Nat) : Nat := 3 * (n % 4) + p
/-- The link channel of axis n (R134). -/
def linkChan (n : Nat) : Nat := 0x0C + n % 4

/-- An edge of the input of event port k: rising (true) or falling; EDGE bit 0 selects the rising, bit 1 the falling edge (R141). -/
def Dev.injEvent (d : Dev) (k : Nat) (rising : Bool) (t : Nat) : Dev :=
  d.each (List.range 6) (fun c d => d.injWhere c 3 t (fun d i =>
    d.rd (adcInjCfgEvp c i) == k && bitAt (d.rd (adcInjCfgEdge c i)) (if rising then 0 else 1)))

end Sys2Proof.Machine
end

