-- ==== Sys2Proof/Machine/DriveEvents.lean ====
section
/-! DEFINITION. What the drive stages' hardware does outside the load instants: braking, trips, enables, gate supply,
bus and temperature supervision (R97 to R100, R115 to R127). -/
namespace Sys2Proof.Machine

/-- BRAKE_START_AT_VALLEY (R121): a commanded brake closes the short. -/
def effBrakeStart (n : Nat) (t : Nat) (d : Dev) : Dev :=
  if d.st n == stBrake && (d.ax n).brakeWait then d.shortNow n t else d

/-- The bus value that R124 and R126 compare for axis n, Q16.16 V. -/
def Dev.busValue (d : Dev) (n : Nat) : Nat := if n < 16 then d.rd (pwdVbus (n / 4)) else ((d.ax n).busValid).getD 0

/-- The upper threshold of the bus of axis n. -/
def Dev.busOv (d : Dev) (n : Nat) : Nat := if n < 16 then d.rd (pwdVbusOv (n / 4)) else d.rd xstVbusOv

/-- The bus of axis n is above VBUS_OV (R124). -/
def Dev.busAbove (d : Dev) (n : Nat) : Bool := decide (signedOf 32 (d.busOv n) < signedOf 32 (d.busValue n))

/-- A regulation opening by a crossing of phase p: the switches are off without a latch, and the leg of the phase is
converted (R122, R141). A crossing counts for the tick in which it occurs (R123). -/
def Dev.regulationOpen (d : Dev) (n p t : Nat) : Dev :=
  let side := (d.axNow n).bridge
  let even := d.rd timeTickCount % 2 == 0
  let d := d.modAx n (fun a => { a with bridge := 4, regOpen := true, openSide := side, sideTo := none, regTick := a.regTick || even, regSeen := true })
  ((d.inc (drvBrakeReg n)).ev (.drv n) 5).injAxis n 5 (legChan n p) t

/-- BRAKE_REGULATION (R122, R124): a crossing of phase p of DRV_BRAKE_ILIM while the bridge shorts. -/
def effBrakeRegulation (n p : Nat) (t : Nat) (d : Dev) : Dev :=
  if (d.bridge n == 2 || d.bridge n == 3) && !d.busAbove n then d.regulationOpen n p t else d

/-- BRAKE_RECLOSE (R122, R123): the short closes again at the valley or peak, on the side of the tick whose first valley came
last; a crossing of a phase at that moment reopens it at once. -/
def effBrakeReclose (n : Nat) (crossing : Option Nat) (t : Nat) (d : Dev) : Dev :=
  let a := d.ax n
  if a.regOpen && a.bridge == 4 && d.bridge n == 4 then
    let side := if d.valleyPast n t then d.shortSide n (d.rd timeTickCount) (d.rd timeTickCount % 2 == 1 && a.regTick) else a.openSide
    let d := d.shortOn n side t
    match crossing with
    | some p => if d.busAbove n then d else d.regulationOpen n p t
    | none => d
  else d

/-- A trip in MEASURE ends the catch with ABORTED, and one in BRAKE ends the brake: the fault takes the axis (R263, R269). -/
def Dev.tripEnds (d old : Dev) (n t : Nat) : Dev :=
  let d := d.when_ (old.st n == stCatch) (fun d =>
    ((d.wr (obsOutcome n) 5).ev (.obs n) 1).note t 1 4 n 0x0C00 5)
  if d.st n == stCatch || d.st n == stBrake then d.toFaultOff n causeReaction 0 t else d

/-- A trip of axis n latches (R118): the switches are off, the bit of DRV_STATE.TRIP is set, an injected conversion starts. -/
def Dev.latchTrip (d : Dev) (n bit chan t : Nat) : Dev :=
  let d := d.noteOff n t
  let fresh := !bitAt (d.rd (drvTrip n)) bit
  let d := d.wr (drvTrip n) (setBit (d.rd (drvTrip n)) bit)
  let d := d.modAx n (fun a => { a with bridge := 0, brakeWait := false, regOpen := false, drvHeld := true })
  let d := d.when_ fresh (fun d => d.inc (drvTrips n))
  (d.ev (.drv n) 0).injAxis n 4 chan t

/-- The lowest phase of a set of crossing leg or mirror comparators. -/
def firstPhase (phases : Nat) : Nat := if bitAt phases 0 then 0 else if bitAt phases 1 then 1 else 2

/-- The last switching edge of a leg before q, in quarters of a ns: each commanded edge turns one switch off at once and
the other on DRV_DEADTIME later (R104); a short closes its switches at `closeAt` (R121). -/
def Dev.lastEdge (d : Dev) (n x q : Nat) : Option Int :=
  let a := d.axNow n
  match d.bridge n with
  | 1 =>
    let e := (d.levelRun n x q).2
    some (if e + 5 * a.drvUse.dead ≤ q then e + 5 * a.drvUse.dead else e)
  | 2 | 3 => some a.closeAt
  | _ => none

/-- A leg or mirror crossing of phase x that began at `since` acts at time t (R117): outside the blanking that follows a
switching edge of the leg, or once it has persisted to the end of that interval. -/
def Dev.crossingActs (d : Dev) (n since t x : Nat) : Bool :=
  let blank := 5 * (d.ax n).drvUse.blank
  match d.lastEdge n x since with
  | some e => blank == 0 || decide ((since : Int) < e) || decide (e + blank < since) || decide (e + blank ≤ 4 * t)
  | none => true

/-- OVERCURRENT_TRIP (R115 to R118): leg or mirror comparators of a set of phases cross since a time in quarters of a ns, or
the link comparator does, which is never blanked. -/
def effOvercurrent (n phases : Nat) (link : Bool) (since t : Nat) (d : Dev) : Dev :=
  let old := d
  let d := { d with pins := { d.pins with oc := setBit d.pins.oc n } }
  if link then
    let d := d.latchTrip n 1 (linkChan n) t
    (d.raise 0x1202 n 9 0 t).tripEnds old n t
  else
    let acting := maskOf ((bitList 3 phases).filter (fun x => old.crossingActs n since t x))
    if acting = 0 ∧ phases ≠ 0 then d
    else
      let d := d.latchTrip n 0 (legChan n (firstPhase acting)) t
      (d.raise 0x1201 n 9 acting t).tripEnds old n t

/-- XFLT_ASSERT (R99, R116): Xn_FLT_N is asserted; before READY the pin is ignored (R75). -/
def effXfltAssert (n : Nat) (t : Nat) (d : Dev) : Dev :=
  let d := { d with pins := { d.pins with xflt := setBit d.pins.xflt (n - 16) } }
  if d.stepsDone < 6 then d
  else
    let old := d
    let d := d.latchTrip n 2 (linkChan n) t
    let d := (d.ev (.drv n) 1).ev .xst 1
    (d.raise 0x1203 n 9 0 t).tripEnds old n t

/-- XFLT_DEASSERT (R99). -/
def effXfltDeassert (n : Nat) (_t : Nat) (d : Dev) : Dev :=
  { d with pins := { d.pins with xflt := clearBit d.pins.xflt (n - 16) } }

/-- BOOTSTRAP_LOW (R97): the bridge turns off and 0x1204 is raised while the axis drives. -/
def effBootstrapLow (n leg : Nat) (t : Nat) (d : Dev) : Dev :=
  if d.drives n then (((d.bridgeOff n t).ev (.drv n) 2).raise 0x1204 n 9 leg t) else d

/-- BOOTSTRAP_PRECHARGED (R97): with VGD in range, every bootstrap of die c is precharged. -/
def effBootstrapPrecharged (c : Nat) (_t : Nat) (d : Dev) : Dev :=
  if bitAt d.pins.vgd c then
    (d.wr (pwdBootReady c) 1).each (List.range 4) (fun k d => d.modAx (4 * c + k) (fun a => { a with bootOk := true }))
  else d

/-- The axes an enable governs: DENc for i ≤ 3, DENX for 4 (R100). -/
def enableAxes (i : Nat) : List Nat := if i < 4 then (List.range 4).map (fun k => 4 * i + k) else (List.range 8).map (fun k => 16 + k)

/-- The level of an enable pin. -/
def Pins.setEnable (p : Pins) (i : Nat) (b : Bool) : Pins :=
  if i < 4 then { p with den := if b then setBit p.den i else clearBit p.den i } else { p with denx := b }

/-- ENABLE_FALL (R100): the governed switches are held off, and each axis that drives when the enable falls raises
0x1205, whatever the reaction to the first of these faults does to the others. -/
def effEnableFall (i : Nat) (t : Nat) (d : Dev) : Dev :=
  let old := d
  let d := d.each (enableAxes i) (fun n d => d.noteOff n t)
  let d := { d with pins := d.pins.setEnable i false }
  let d := if i < 4 then d.ev (.pwd i) 5 else d.ev .xst 0
  d.each (enableAxes i) (fun n d => if old.drives n then d.raise 0x1205 n 9 0 t else d)

/-- ENABLE_RISE (R100): the hold ends. -/
def effEnableRise (i : Nat) (_t : Nat) (d : Dev) : Dev := { d with pins := d.pins.setEnable i true }

/-- VGD_OUT_OF_RANGE (R126): the bridges of cluster c are held off; bootstraps must be precharged again (R97). -/
def effVgdOut (c : Nat) (t : Nat) (d : Dev) : Dev :=
  let axes := enableAxes c
  let d := d.each axes (fun n d => d.noteOff n t)
  let d := { d with pins := { d.pins with vgd := clearBit d.pins.vgd c } }
  let d := (d.wr (pwdBootReady c) 0).each axes (fun n d => d.modAx n (fun a => { a with bootOk := false }))
  let d := d.ev (.pwd c) 4
  if axes.any d.drives then d.raise 0x4204 c 9 (d.rd (pwdVgd c)) t else d

/-- VGD_IN_RANGE (R97, R126): the hold ends; the precharge takes up to 200 µs (BOOTSTRAP_PRECHARGED). -/
def effVgdIn (c : Nat) (_t : Nat) (d : Dev) : Dev := { d with pins := { d.pins with vgd := setBit d.pins.vgd c } }

/-- BUS_OUT_OF_RANGE (R126): two consecutive ticks out of range, with an axis that drives at the second. Units 0 to 3
are the buses of the dies, 4 to 11 the buses of axes 16 to 23. -/
def effBusOut (u : Nat) (t : Nat) (d : Dev) : Dev :=
  if u < 4 then
    if decide (2 ≤ (d.bank u).busOut) && (enableAxes u).any d.drives then
      if d.busAbove (4 * u) then d.raise 0x4202 u 9 (d.rd (pwdVbus u)) t else d.raise 0x4201 u 9 (d.rd (pwdVbus u)) t
    else d
  else
    let n := 12 + u
    if decide (2 ≤ (d.ax n).busOut) && d.drives n then d.raise 0x1207 n 9 (d.busValue n) t else d

/-- The hottest sensor among those above the trip level on two consecutive readings: reading and sensor (R126). -/
def Dev.hottest (d : Dev) (c : Nat) : Option (Int × Nat) :=
  (List.range 5).foldl (fun best j =>
    if 2 ≤ (d.bank c).hot.getD j 0 then
      match best with
      | some (v, i) => if v < d.rdS (pwdTemp c j) then some (d.rdS (pwdTemp c j), j) else some (v, i)
      | none => some (d.rdS (pwdTemp c j), j)
    else best) none

/-- DIE_OVER_TEMPERATURE (R126). -/
def effDieHot (c : Nat) (t : Nat) (d : Dev) : Dev :=
  match d.hottest c with
  | some (v, j) => d.raise 0x4203 c 9 (wrapTo 16 v + j * 2 ^ 16) t
  | none => d

/-- VBUS_STALE_LIMIT (R108): four consecutive ticks without a valid bus measurement while the axis drives. -/
def effVbusStale (n : Nat) (t : Nat) (d : Dev) : Dev :=
  if decide (4 ≤ (d.ax n).busStale) && d.drives n then d.raise 0x1206 n 6 0 t else d

/-- CLOCK_DEPARTURE (R536): the region's bridges are held off and 0x3001 is raised with the departure in 0.01 %. -/
def effClockDeparture (r : Nat) (ppm : Int) (t : Nat) (d : Dev) : Dev :=
  let d := d.each (bitList 24 (regionAxes r)) (fun n d => d.noteOff n t)
  let d := { d with pins := { d.pins with depart := setBit d.pins.depart r } }
  d.raise 0x3001 r 9 (wrapTo 32 ppm) t

/-- CLOCK_RETURN (R536). -/
def effClockReturn (r : Nat) (_t : Nat) (d : Dev) : Dev :=
  { d with pins := { d.pins with depart := clearBit d.pins.depart r } }

/-- PACKAGE_TEMP_READ (R537): the reading, and 0x5001 after two consecutive readings above FLT_PKG_TRIP. -/
def effPackageTemp (v : Nat) (t : Nat) (d : Dev) : Dev :=
  let d := d.wr fltPkgTemp v
  if d.rdS fltPkgTrip < d.rdS fltPkgTemp then
    let d := { d with pkgHot := d.pkgHot + 1 }
    if 2 ≤ d.pkgHot then d.raise 0x5001 0 9 (v % 65536) t else d
  else { d with pkgHot := 0 }

/-- CONDITION_END (R533): the condition of a condition fault ended. 0x2303 ends when the bank left IMPAIRED, 0x6D02 at a
good pennant, 0x6D04 when LOCKED is reached; a pair whose condition still holds stays active. -/
def effConditionEnd (entry inst : Nat) (t : Nat) (d : Dev) : Dev :=
  match faultEntry? entry with
  | some row =>
    let ended : Bool :=
      match row.code with
      | 0x2303 => d.rd (adcMode inst) != 2
      | 0x6D02 => d.net.good != 0
      | 0x6D04 => d.rd timeState == 2
      | _ => true
    if row.kind = 1 ∧ ended then d.endFault row.code inst t else d
  | none => d

end Sys2Proof.Machine
end

