-- ==== Sys2Proof/Machine/Fixed.lean ====
section
/-! DEFINITION. Fixed-point arithmetic of the loops: angles of 2^32 to a turn (R10), sine and cosine, arctangent,
square roots, and the constants of the Clarke transform. Values are exact up to the last bit or two of Q60; the bounds
on the macro-operations of the lanes are those of R367. -/
namespace Sys2Proof.Machine

/-- One, in Q60. -/
def one60 : Int := 2 ^ 60
/-- π in Q60. -/
def pi60 : Int := 3622009729038561421
/-- √3 in Q60. -/
def root3 : Int := 1996918623117814388

/-- Product of two Q60 numbers. -/
def mul60 (a b : Int) : Int := divRound (a * b) one60

/-- Evaluate c₀ + x(c₁ + x(c₂ + …)) in Q60. -/
def horner60 (x : Int) : List Int → Int
  | [] => 0
  | c :: cs => c + mul60 x (horner60 x cs)

/-- The Taylor coefficients of sin r / r in r². -/
def sinCoeff : List Int := [1, -6, 120, -5040, 362880, -39916800, 6227020800].map (fun k => divRound one60 k)
/-- The Taylor coefficients of cos r in r². -/
def cosCoeff : List Int := [1, -2, 24, -720, 40320, -3628800, 479001600].map (fun k => divRound one60 k)

/-- Sine and cosine of an angle of at most an eighth of a turn, in Q60. -/
def sinCosSmall (x : Nat) : Int × Int :=
  let r := divRound (x * pi60) (2 ^ 31)
  let q := mul60 r r
  (mul60 r (horner60 q sinCoeff), horner60 q cosCoeff)

/-- Sine and cosine of an angle of at most a quarter of a turn, in Q60. -/
def sinCosQuarter (x : Nat) : Int × Int :=
  if x ≤ 2 ^ 29 then sinCosSmall x
  else
    let (s, c) := sinCosSmall (2 ^ 30 - x)
    (c, s)

/-- Sine and cosine of a 32-bit angle, in Q60. -/
def sinCos60 (th : Nat) : Int × Int :=
  let th := th % 2 ^ 32
  let (s, c) := sinCosQuarter (th % 2 ^ 30)
  match th / 2 ^ 30 with
  | 0 => (s, c)
  | 1 => (c, -s)
  | 2 => (-s, -c)
  | _ => (-c, s)

/-- Sine of a 32-bit angle in Q2.30, rounded to nearest. -/
def sinQ30 (th : Nat) : Int := divRound (sinCos60 th).1 (2 ^ 30)
/-- Cosine of a 32-bit angle in Q2.30, rounded to nearest. -/
def cosQ30 (th : Nat) : Int := divRound (sinCos60 th).2 (2 ^ 30)

/-- The coefficients of atan t / t in t². -/
def atanCoeff : List Int := (List.range 14).map (fun (k : Nat) => divRound (if k % 2 = 0 then one60 else -one60) ((2 * k + 1 : Nat) : Int))

/-- tan(a/2) from tan a in Q60. -/
def halfTan (t : Int) : Int :=
  divRound (t * one60) (one60 + isqrt ((one60 * one60 + t * t).toNat))

/-- atan of a number in [0, 1], both in Q60. -/
def atan60 (t : Int) : Int :=
  let h := halfTan (halfTan t)
  4 * mul60 h (horner60 (mul60 h h) atanCoeff)

/-- The 32-bit angle of the vector (x, y); 0 for the null vector. -/
def atan2 (y x : Int) : Nat :=
  let ax : Int := x.natAbs
  let ay : Int := y.natAbs
  if ax = 0 ∧ ay = 0 then 0
  else
    let a := if ay ≤ ax then atan60 (divRound (ay * one60) ax) else divRound pi60 2 - atan60 (divRound (ax * one60) ay)
    let a := if x < 0 then pi60 - a else a
    let a := if y < 0 then -a else a
    wrapTo 32 (divRound (a * 2 ^ 31) pi60)

/-- The signed difference of two angles, in (−2^31, 2^31]. -/
def angleDiff (a b : Int) : Int :=
  let r := (a - b) % 2 ^ 32
  if r ≤ 2 ^ 31 then r else r - 2 ^ 32

/-- The Clarke transform (R189): α and β from three phase quantities. -/
def clarke (u v w : Int) : Int × Int :=
  (divRound (2 * u - v - w) 3, divRound ((v - w) * one60) root3)

/-- Angular speed in rad/s (Q16.16) of an angle in turns of 2^32 over a time in ns. -/
def speedOf (angle : Int) (ns : Nat) : Int :=
  divRound (2 * pi60 * angle * 65536 * 1000000000) (one60 * 2 ^ 32 * ns)

/-- The angle, in turns of 2^32, that a speed in rad/s (Q16.16) covers in a time in ns. -/
def angleOver (w : Int) (ns : Int) : Int :=
  divRound (w * ns * 2 ^ 32 * one60) (2 * pi60 * 65536 * 1000000000)

/-- Counts/s (Q28.4) of a speed in electrical rad/s (Q16.16), with E counts in an electrical turn. -/
def countsOf (w : Int) (e : Int) : Int := divRound (w * e * 16 * one60) (2 * pi60 * 65536)

/-- Electrical rad/s (Q16.16) of a speed in counts/s (Q28.4). -/
def radOf (v : Int) (e : Int) : Int := divRound (v * 2 * pi60 * 65536) (e * 16 * one60)

end Sys2Proof.Machine
end

