-- ==== Sys2Proof/Machine/Supervision.lean ====
section
/-! DEFINITION. The supervision block (R285 to R290, R297, R301) and the excitation (R291). -/
namespace Sys2Proof.Machine

/-- The feedback port that serves axis n for commutation (FB_SELECT.COMM_PORT). -/
def Dev.commPort (d : Dev) (n : Nat) : Nat := d.rd (fbCommPort n)
/-- The feedback port that serves axis n for position (FB_SELECT.POS_PORT). -/
def Dev.posPort (d : Dev) (n : Nat) : Nat := d.rd (fbPosPort n)

/-- FOC_STATUS.PAR_VALID (R205): FOC_RS, FOC_LD, FOC_LQ and FOC_PSI in effect are all greater than 0. -/
def Dev.parValid (d : Dev) (n : Nat) : Bool :=
  decide (0 < d.rdS (focRs n)) && decide (0 < d.rdS (focLd n)) && decide (0 < d.rdS (focLq n)) && decide (0 < d.rdS (focPsi n))

/-- The speed feedback v_fb of R278, Q28.4 counts/s; with the observer that of R251, and in HFI that of θ_h (R258). -/
def Dev.vFb (d : Dev) (n : Nat) : Int :=
  if d.angleSrc n = 1 then (d.ax n).snap.velSpeed else (d.ax n).snap.speed

/-- The position feedback p_fb of R281, counts. -/
def Dev.pFb (d : Dev) (n : Nat) : Int :=
  if d.rd (fbMode (d.posPort n)) = 0 then (d.ax n).snap.obsPos else (d.ax n).snap.posPos

/-- The dividers NV and NP (R276). -/
def Dev.nv_ (d : Dev) (n : Nat) : Nat := d.rd (motNv n) + 1
/-- The divider NP (R276). -/
def Dev.np_ (d : Dev) (n : Nat) : Nat := d.rd (motNp n) + 1

/-- The velocity program is due in tick j (R276). -/
def Dev.velDue (d : Dev) (n j : Nat) : Bool := ((j : Int) - d.rd (motPhase n)) % (d.nv_ n : Int) == 0

/-- The position program is due in tick j (R276). -/
def Dev.posDue (d : Dev) (n j : Nat) : Bool :=
  ((j : Int) + 1 - d.rd (motPhase n)) % ((d.nv_ n * d.np_ n : Nat) : Int) == 0

/-- The position error e_p of R281, Q48.16 counts. -/
def Dev.pErr (d : Dev) (n : Nat) : Int := (d.ax n).snap.pCmd - d.pFb n * 65536

/-- An axis is in RUN or STOPPING. -/
def Dev.moves (d : Dev) (n : Nat) : Bool := d.st n == stRun || d.st n == stStopping

/-- The following-error evaluation at a boundary at which the position program is due (R285). -/
def Dev.evalFollowing (d : Dev) (n j : Nat) : Dev :=
  if d.posDue n j && d.posMode n && d.moves n && d.on (supFeLimit n) then
    if (d.rd (supFeLimit n) : Int) * 65536 < (d.pErr n).natAbs then d.inc (supFeRun n) else d.wr (supFeRun n) 0
  else d

/-- FOLLOWING_ERROR (R285): SUP_FE_TIME consecutive exceeding evaluations. -/
def effFollowing (n : Nat) (t : Nat) (d : Dev) : Dev :=
  if d.rd (supFeTime n) ≤ d.rd (supFeRun n) ∧ d.on (supFeLimit n) then
    (d.ev (.sup n) 4).raise 0x1801 n 9 (min ((d.pErr n).natAbs / 65536) (2 ^ 32 - 1)) t
  else d

/-- A feedback port whose counts can freeze: QUAD, HALL, TOOTH or SSER (R286). -/
def Dev.countsPort (d : Dev) (p : Nat) : Bool := decide (1 ≤ d.rd (fbMode p)) && decide (d.rd (fbMode p) ≤ 4)

/-- One freeze test on a port (R286): the new count of consecutive freeze ticks. -/
def Dev.freezeTest (d : Dev) (n p : Nat) (v : Int) (pos last : Int) (run : Nat) : Nat :=
  let s := (d.ax n).snap
  if d.countsPort p && d.moves n && d.bridge n == 1 && decide (d.rdS (supFrzTorque n) < s.iSrc.natAbs)
      && decide (d.rdS (supFrzV n) < v.natAbs) && pos == last
  then run + 1 else 0

/-- The freeze tests of a boundary (R286). -/
def Dev.evalFreeze (d : Dev) (n : Nat) : Dev :=
  let a := d.ax n
  let v := a.snap.vRef
  let comm := d.freezeTest n (d.commPort n) v a.snap.posComm a.lastComm a.frzComm
  let ratio := d.rdS (motPvRatio n)
  let vp := if ratio = 0 then 0 else divRound (v * 65536) ratio
  let pos := if d.posPort n != d.commPort n && d.posMode n then
      d.freezeTest n (d.posPort n) vp a.snap.posPos a.lastPos a.frzPos else 0
  let d := d.modAx n (fun a => { a with frzComm := comm, frzPos := pos, lastComm := a.snap.posComm, lastPos := a.snap.posPos })
  d.wr (supFrzRun n) (min (max comm pos) 65535)

/-- A fallback becomes due (R288): the last snapshot before the fault is kept with it. A second loss in the same tick joins it. -/
def Dev.fallDue (d : Dev) (n p own t : Nat) : Dev :=
  let s := (d.ax n).snap
  let lost : Fallback := { at_ := t, comm := p == d.commPort n, own := own, theta := s.theta, wE := s.wE, time := s.time }
  d.modAx n (fun a => { a with fallDue := some (match a.fallDue with
    | none => lost
    | some f => { f with comm := f.comm && lost.comm, own := max f.own own }) })

/-- The response of R287 to a feedback-loss fault on port p of axis n, beside the entry's reaction. -/
def Dev.fbLoss (d : Dev) (n p own t : Nat) : Dev :=
  match d.rd (supFbLoss n) with
  | 0 => d.react n 3 t
  | 1 => d.react n 4 t
  | _ => if d.moves n then d.fallDue n p own t else d

/-- A fault that R287 may name is raised on axis n: the response follows only in RUN or STOPPING with the bridge in PWM. -/
def Dev.raiseLoss (d : Dev) (code n p data t : Nat) : Dev :=
  let lost := d.moves n && d.bridge n == 1
  let d := d.raise code n 9 data t
  let own := ((d.active.find? (fun a => a.entry == (faultRow code).entry && a.inst == n)).map (·.react)).getD 0
  if lost then d.fbLoss n p own t else d

/-- FEEDBACK_FREEZE (R286): SUP_FRZ_T consecutive freeze ticks on one port. -/
def effFreeze (n : Nat) (t : Nat) (d : Dev) : Dev :=
  let a := d.ax n
  if d.rd (supFrzT n) ≤ a.frzComm then (d.ev (.sup n) 5).raiseLoss 0x1802 n (d.commPort n) (d.commPort n) t
  else if d.rd (supFrzT n) ≤ a.frzPos then (d.ev (.sup n) 5).raiseLoss 0x1802 n (d.posPort n) (d.posPort n) t
  else d

/-- The observer fallback can be made (R288). -/
def Dev.canFallBack (d : Dev) (n : Nat) (f : Fallback) : Bool :=
  f.comm && d.parValid n && d.on (obsG2 n) && d.on (obsPllKp n) && decide (d.rdS (obsVmin n) ≤ f.wE.natAbs)

/-- OBSERVER_FALLBACK (R288), at the boundary after the fault. The fallback ranks with hold: where the entry of the fault gave a
more drastic reaction, that one stands alone (R287). The estimate ê that the synchronisation starts from is a free value: R262
names the last sample of a flying start, and here there is none (log entry 1). -/
def effFallback (n : Nat) (t : Nat) (d : Dev) : Dev :=
  match (d.ax n).fallDue with
  | none => d
  | some f =>
    if d.tickStart ≤ f.at_ ∧ t < d.nextTick then d else
    let d := d.modAx n (fun a => { a with fallDue := none })
    if !d.moves n then d
    else if !d.canFallBack n f then d.react n 3 t
    else if 2 ≤ f.own then d
    else
      let (fa, d) := d.free
      let (fb, d) := d.free
      let d := (d.wr (axbFallback n) 1).ev (.sup n) 6
      let d := (d.setPhase n 7 t).modAx n (fun a =>
        { a with sync := some (f.theta, f.wE, f.time, signedOf 32 fa, signedOf 32 fb), lossRun := 0, trackTicks := 0 })
      let d := d.ev (.obs n) 2
      if d.mode n == 3 || d.mode n == 4 || d.mode n == 5 then
        (if d.st n == stStopping then d.modAx n (fun a => { a with toFault := true })
         else d.enterStop n causeReaction 0 t true false)
      else d

/-- The overspeed count at a boundary (R290). -/
def Dev.evalSpeed (d : Dev) (n : Nat) : Dev :=
  let exceeds := decide (0 < d.rdS (supVTrip n)) && (d.moves n || d.st n == stCatch) && decide (d.rdS (supVTrip n) < (d.vFb n).natAbs)
  d.modAx n (fun a => { a with speedRun := if exceeds then a.speedRun + 1 else 0 })

/-- OVERSPEED (R290): above SUP_V_TRIP on two consecutive boundaries; data |v_fb| in counts/s. -/
def effOverspeed (n : Nat) (t : Nat) (d : Dev) : Dev :=
  if 2 ≤ (d.ax n).speedRun then
    (d.ev (.sup n) 8).raise 0x1805 n 9 (min ((d.vFb n).natAbs / 16) (2 ^ 32 - 1)) t
  else d

/-- OVERRUN_LIMIT (R289): SUP_OVR_LIMIT consecutive overruns of one slot. -/
def effOverrunLimit (n slot : Nat) (t : Nat) (d : Dev) : Dev :=
  if d.rd (supOvrLimit n) ≤ (d.ax n).ovrRun.getD slot 0 then d.raise 0x1803 n 4 slot t else d

/-- An overrun of a slot (R289): its bits of SUP, its byte of SUP_OVR_COUNT and its run. -/
def Dev.overrun (d : Dev) (n slot : Nat) : Dev :=
  let w := d.rd (supOvrCount n)
  let b := bitsAt w (8 * slot) 8
  let d := (d.ev (.sup n) slot).wr (supOvrCount n) (putBits w (8 * slot) 8 (min (b + 1) 255))
  d.modAx n (fun a => { a with ovrRun := a.ovrRun.modify slot (· + 1) })

/-- A completed run of a slot sets its count to 0 (R289). -/
def Dev.ranSlot (d : Dev) (n slot : Nat) : Dev := d.modAx n (fun a => { a with ovrRun := a.ovrRun.set slot 0 })

/-- The end of a stop (R295, R297): FAULT after a ramp-stop reaction, RUN frozen after STOP_HOLD or a hold, else ARMED. -/
def Dev.endStop (d : Dev) (n t : Nat) : Dev :=
  let a := d.ax n
  if a.toFault then d.toFaultOff n causeInternal 9 t
  else if a.toFrozen then (d.enterRun n causeInternal 9 t).wr (axbFrozen n) 1
  else (d.bridgeOff n t).setState n stArmed causeInternal 9 t

/-- The end test of a stop at a boundary (R297): v_ref 0 and |v_f| within SUP_STOP_VTOL. -/
def Dev.evalStop (d : Dev) (n : Nat) : Dev :=
  let ok := d.st n == stStopping && (d.ax n).stopRef == 0 && !(d.ax n).stopInit && decide (((d.rdS (motVFb n)).natAbs : Int) ≤ d.rdS (supStopVtol n))
  d.modAx n (fun a => { a with stopRun := if ok then a.stopRun + 1 else 0 })

/-- STOP_END (R297, R257): a sensored axis after SUP_STOP_HOLD boundaries; one with ANGLE_SRC 2 once f_f is 0. -/
def effStopEnd (n : Nat) (t : Nat) (d : Dev) : Dev :=
  if d.st n != stStopping then d
  else
    match d.angleSrc n with
    | 1 => d
    | 2 => if d.rd (obsFF n) = 0 then d.endStop n t else d
    | _ => if d.rd (supStopHold n) ≤ (d.ax n).stopRun then d.endStop n t else d

/-- STOP_TIMEOUT (R295, R301): SUP_STOP_TMAX elapsed; the short brake, then 0x1804. -/
def effStopTimeout (n : Nat) (t : Nat) (d : Dev) : Dev :=
  if d.st n == stStopping && decide ((d.ax n).stopAt + d.rd (supStopTmax n) * 1000000 ≤ t) then
    let keep := (d.ax n).toFault
    let d := d.enterBrake n purposeStop causeInternal 9 t true keep
    (d.ev (.sup n) 7).raise 0x1804 n 9 0 t
  else d

/-- EXCITATION_START (R291): a write of 1 to RUN; refused outside RUN, for POINT 3 and for an unbounded chirp. -/
def effExcStart (n : Nat) (_t : Nat) (d : Dev) : Dev :=
  if d.st n != stRun || d.rd (motExcPoint n) == 3 || (d.on (motExcChirp n) && !d.on (motExcT n)) then d.ev (.mot n) 0
  else if d.on (motExcRun n) then d
  else (d.wr (motExcRun n) 1).modAx n (fun a => { a with excStart := true, excK := 0, excPhi := 0 })

/-- EXCITATION_END (R291): N ticks have passed, or RUN is written 0. -/
def effExcEnd (n : Nat) (written : Bool) (_t : Nat) (d : Dev) : Dev :=
  let a := d.ax n
  if d.on (motExcRun n) && (written || (!a.excStart && d.on (motExcT n) && decide (d.rd (motExcT n) ≤ a.excK)))
  then d.endExcitation n else d

end Sys2Proof.Machine
end

