-- ==== Sys2Proof/Machine/ObserverEvents.lean ====
section
/-! DEFINITION. The phases of sensorless starting, the flying start, loss of lock and the ends of braking
(R253 to R270, R273, R274). -/
namespace Sys2Proof.Machine

/-- Milliseconds as nanoseconds. -/
def ms (k : Nat) : Nat := k * 1000000

/-- V_b of axis n, Q16.16 V (R108): the last valid measurement, or DRV_VBUS_NOM. -/
def Dev.vBus (d : Dev) (n : Nat) : Nat :=
  let u := d.drvSet n
  if u.busFf then ((d.ax n).busValid).getD u.nominal else u.nominal

/-- The commanded speed of axis n in the snapshot, Q28.4 counts/s. -/
def Dev.cmdSpeed (d : Dev) (n : Nat) : Int := (d.ax n).snap.vRef

/-- The phase in which a start at standstill begins (R258, R261): 2 ALIGN, or 4 POLARITY with START_MODE 1. -/
def Dev.startAt (d : Dev) (n : Nat) : Nat := if d.on (obsStartMode n) && d.angleSrc n == 1 then 4 else 2

/-- The number of integer rad/s of a Q16.16 speed, saturating at 16 bits (R274). -/
def radSat (w : Int) : Nat := min (w.natAbs / 65536) 65535

/-- ALIGN_END (R253, R257): after OBS_ALIGN_T, RAMP, or FORCED with ANGLE_SRC 2. -/
def effAlignEnd (n : Nat) (t : Nat) (d : Dev) : Dev :=
  if d.phase n == 2 && decide ((d.ax n).phaseAt + ms (d.rd (obsAlignT n)) ≤ t) then
    let d := (d.wr (obsFF n) 0).modAx n (fun a => { a with thF := 0, handAt := none })
    d.setPhase n (if d.angleSrc n = 2 then 8 else 3) t
  else d

/-- POLARITY_END (R258): after the two pulses of 2 ms, θ_h takes the side of the faster rise, or 0x1705 is raised when the
two rates differ by less than 5 % of the larger. The first step of HFI compares its i_q with that of the last POLARITY run, seen
from the side taken. -/
def effPolarityEnd (n : Nat) (t : Nat) (d : Dev) : Dev :=
  if d.phase n == 4 && decide ((d.ax n).phaseAt + ms 4 ≤ t) then
    let rate := fun (p : Nat × Nat) => if p.2 = 0 then 0 else p.1 / p.2
    let r0 := rate ((d.ax n).polRise.getD 0 (0, 0))
    let r1 := rate ((d.ax n).polRise.getD 1 (0, 0))
    let big := max r0 r1
    let d := d.setPhase n 5 t
    let d := d.modAx n (fun a => { a with
      thH := if r1 ≤ r0 then 0 else 2 ^ 31
      hfiIq := if r1 ≤ r0 then a.hfiIq else -a.hfiIq
      wH := 0, wHInt := 0, handAt := none })
    if 20 * (big - min r0 r1) < big ∨ big = 0 then d.raise 0x1705 n 4 0 t else d
  else d

/-- BLEND_START (R254, R258): eight consecutive agreeing ticks in RAMP or HFI. -/
def effBlendStart (n : Nat) (t : Nat) (d : Dev) : Dev :=
  if (d.phase n == 3 || d.phase n == 5) && decide (8 ≤ (d.ax n).agreeRun) then
    let hfi := d.phase n == 5
    let d := (d.setPhase n 6 t).wr (obsBlend n) 0
    d.modAx n (fun a => { a with blendHfi := hfi, blendAt := d.nextTick, lossRun := 0 })
  else d

/-- HAND_TIMEOUT (R254, R255, R258): BLEND has not started OBS_HAND_TMAX after the handover speed was reached, or its
agreement failed OBS_LOSS_N times. -/
def effHandTimeout (n : Nat) (t : Nat) (d : Dev) : Dev :=
  let late := (d.phase n == 3 || d.phase n == 5) &&
    (match (d.ax n).handAt with
     | some a => decide (a + ms (d.rd (obsHandTmax n)) ≤ t)
     | none => false)
  let lost := d.phase n == 6 && decide (d.rd (obsLossN n) ≤ (d.ax n).lossRun)
  if late || lost then (d.ev (.obs n) 4).raise 0x1703 n 4 (d.phase n) t else d

/-- TRACK is entered (R255). -/
def Dev.enterTrack (d : Dev) (n t : Nat) : Dev :=
  ((d.setPhase n 7 t).ev (.obs n) 2).modAx n (fun a => { a with lossRun := 0, trackTicks := 0 })

/-- BLEND_END (R255): at w = 1 the phase becomes TRACK. -/
def effBlendEnd (n : Nat) (t : Nat) (d : Dev) : Dev :=
  if d.phase n == 6 && decide (2 ^ 30 ≤ d.rd (obsBlend n)) then d.enterTrack n t else d

/-- The flying-start estimate of R260 over the samples: ω_c, the mean amplitude, the largest span, θ_c, t_M and the
last (e_a, e_b). -/
structure Catch where
  /-- ω_c, Q16.16 rad/s. -/
  w : Int
  /-- Mean of a_j, Q16.16 V. -/
  amp : Nat
  /-- Largest max(v) − min(v), Q16.16 V. -/
  span : Int
  /-- θ_c. -/
  theta : Nat
  /-- t_M. -/
  tm : Nat
  /-- Last e_a. -/
  ea : Int
  /-- Last e_b. -/
  eb : Int

/-- Sum of the angle steps of a list of samples. -/
def unwrap : List (Nat × Int × Int × Int) → Int
  | a :: b :: rest => angleDiff (atan2 b.2.2.1 b.2.1) (atan2 a.2.2.1 a.2.1) + unwrap (b :: rest)
  | _ => 0

/-- The estimate of R260. -/
def catchOf (l : List (Nat × Int × Int × Int)) : Catch :=
  let first := l.headD (0, 0, 0, 0)
  let last := l.getLastD (0, 0, 0, 0)
  let w := speedOf (unwrap l) (last.1 - first.1)
  { w := w,
    amp := (l.foldl (fun s x => s + vecLen x.2.1 x.2.2.1) 0) / max l.length 1,
    span := l.foldl (fun m x => max m x.2.2.2) 0,
    theta := wrapTo 32 ((atan2 last.2.2.1 last.2.1 : Int) - signOf w * 2 ^ 30),
    tm := last.1, ea := last.2.1, eb := last.2.2.1 }

/-- MEASURE has delivered its last sample (R259): four samples, and the next window's centre would lie at or after
t_0 + OBS_CATCH_T. -/
def Dev.measured (d : Dev) (n t : Nat) : Bool :=
  let a := d.ax n
  let fin := a.phaseAt + 1000 * d.rd (obsCatchT n)
  decide (4 ≤ a.samples.length) && (decide (fin ≤ t) || decide (fin ≤ (a.samples.getLastD (0, 0, 0, 0)).1 + 5 * d.rd timeTickPeriod))

/-- CATCH_MEASURE_END (R260, R261, R273, R274): the outcome, its record, and the state the next boundary takes. -/
def effCatchEnd (n : Nat) (t : Nat) (d : Dev) : Dev :=
  let a := d.ax n
  if d.st n == stCatch && d.phase n == 1 && a.nextState == none && d.measured n t then
    let c := catchOf a.samples
    let psi := d.rdS (focPsi n)
    let wa := if psi ≤ 0 then 0 else (c.amp : Int) * 1000 * 65536 / psi
    let vmin := d.rdS (obsCatchVmin n)
    let out : Nat :=
      if (97 * d.vBus n : Int) ≤ 100 * c.span then 4
      else if wa < vmin ∨ (c.w.natAbs : Int) < vmin then 3
      else if signOf c.w = a.sigma then 1 else 2
    let next : Nat × Nat × Nat :=
      match out with
      | 4 => (stFault, 0, causeInternal)
      | 3 => if d.on (obsCatchBrake n) then (stBrake, 9, 1) else (stRun, d.startAt n, causeInternal)
      | 1 => (stRun, 7, causeInternal)
      | _ => (stBrake, 9, 0)
    let next := if a.toFault then (stFault, 0, causeInternal) else next
    let d := ((((d.wrSat (obsCatchSpeed n) c.w).wr (obsCatchAngle n) c.theta).wr (obsCatchEmf n) c.amp).inc (obsCatches n)).wr (obsOutcome n) out
    let d := d.modAx n (fun a => { a with nextState := some next,
                                          sync := if out = 1 then some (c.theta, c.w, c.tm, c.ea, c.eb) else none })
    let d := d.ev (.obs n) 1
    let d := d.note t 1 4 n 0x0C00 (radSat c.w * 2 ^ 16 + (if c.w < 0 then 8 else 0) + out)
    if out = 4 then (d.ev (.obs n) 0).raise 0x1702 n 4 (min (c.span.natAbs / 256) 65535) t else d
  else d

/-- LOSS_OF_LOCK (R264, R265): the bridge turns off, the record is written, and the axis re-catches or enters FAULT. A
loss while the axis is stopping does not restart the catch. -/
def effLoss (n : Nat) (t : Nat) (d : Dev) : Dev :=
  let a := d.ax n
  if d.phase n == 7 && d.moves n && decide (d.rd (obsLossN n) ≤ a.lossRun) then
    let before := d.rd (obsRetries n)
    let w := d.rdS (obsSpeed n)
    let dir := signOf (d.cmdSpeed n)
    let d := (d.bridgeOff n t).inc (obsRetries n)
    let d := ((d.inc (obsLosses n)).ev (.obs n) 3).modAx n (fun a => { a with lossRun := 0 })
    let d := d.note t 1 4 n 0x0D00 (radSat w * 2 ^ 16 + d.rd (obsRetries n))
    if d.rd (obsCatchRetry n) ≤ before then
      let d := d.raise 0x1701 n 4 (d.rd (obsRetries n)) t
      if d.moves n then d.toFaultOff n causeInternal 9 t else d
    else if d.st n == stStopping then
      d.modAx n (fun a => { a with nextState := some (if a.toFault then stFault else stArmed, 0, causeInternal) })
    else d.modAx n (fun a => { a with nextState := some (stCatch, 1, causeInternal), sigma := dir })
  else d

/-- RETRIES_CLEAR (R264): OBS_RETRY_CLR consecutive ticks in TRACK. -/
def effRetriesClear (n : Nat) (_t : Nat) (d : Dev) : Dev :=
  if d.phase n == 7 && decide (d.rd (obsRetryClr n) ≤ (d.ax n).trackTicks) then d.wr (obsRetries n) 0 else d

/-- A sensored axis: ANGLE_SRC 0 or 3 (R267). -/
def Dev.sensored (d : Dev) (n : Nat) : Bool := d.angleSrc n == 0 || d.angleSrc n == 3

/-- The end test of a brake is met (R267). -/
def Dev.brakeStill (d : Dev) (n : Nat) : Bool :=
  if d.sensored n then d.on (fbStill (d.commPort n)) else decide (4 ≤ (d.ax n).brakeRun)

/-- BRAKE_END (R267): the end test is met; a stop-purpose brake holds OBS_BRAKE_HOLD more. -/
def effBrakeEnd (n : Nat) (t : Nat) (d : Dev) : Dev :=
  let a := d.ax n
  if d.st n == stBrake && !a.brakeWait && a.nextState == none && a.brakeDone == none && d.brakeStill n then
    match d.rd (obsPurpose n) with
    | 3 => d.modAx n (fun a => { a with brakeDone := some t })
    | 1 => d
    | _ => (d.ev (.obs n) 5).modAx n (fun a => { a with nextState := some (stRun, d.startAt n, causeInternal) })
  else d

/-- STILL_BRAKE_END (R267): a still-purpose brake after OBS_STILL_BRK_T. -/
def effStillBrakeEnd (n : Nat) (t : Nat) (d : Dev) : Dev :=
  let a := d.ax n
  if d.st n == stBrake && d.rd (obsPurpose n) == 1 && a.nextState == none && decide (a.phaseAt + ms (d.rd (obsStillBrkT n)) ≤ t) then
    (d.ev (.obs n) 5).modAx n (fun a => { a with nextState := some (stRun, d.startAt n, causeInternal) })
  else d

/-- BRAKE_HOLD_END (R267): OBS_BRAKE_HOLD after the end test of a stop-purpose brake. -/
def effBrakeHoldEnd (n : Nat) (t : Nat) (d : Dev) : Dev :=
  let a := d.ax n
  match a.brakeDone with
  | some t0 =>
    if d.st n == stBrake && d.rd (obsPurpose n) == 3 && a.nextState == none && decide (t0 + ms (d.rd (obsBrakeHold n)) ≤ t) then
      (d.ev (.obs n) 5).modAx n (fun a => { a with nextState := some (if a.toFault then stFault else stArmed, 0, causeInternal) })
    else d
  | none => d

/-- BRAKE_TIMEOUT (R269, R270): a brake not ended after OBS_BRAKE_TMAX raises 0x1704 and ends in FAULT. -/
def effBrakeTimeout (n : Nat) (t : Nat) (d : Dev) : Dev :=
  if d.st n == stBrake && (d.ax n).nextState == none && decide ((d.ax n).phaseAt + ms (d.rd (obsBrakeTmax n)) ≤ t) then
    let d := d.raise 0x1704 n 4 (d.rd (obsPurpose n)) t
    if d.st n == stBrake then d.toFaultOff n causeInternal 9 t else d
  else d

/-- A stop command of axis n takes effect at boundary b (R293, R295). -/
def Dev.stopDue (d : Dev) (n b : Nat) : Bool :=
  match (d.ax n).cmd with
  | some c => (c.code == 4 || c.code == 5) && decide (c.at_ + 100 ≤ b)
  | none => false

/-- The state that a decided catch, loss or brake end takes at boundary b (R261, R264, R267); a stop command in the tick of
a loss keeps the axis out of CATCH (R265), and one in MEASURE ends CATCH before an outcome that is not CLAMPED acts (R263). -/
def Dev.takeNext (d : Dev) (n b : Nat) : Dev :=
  match (d.ax n).nextState with
  | none => d
  | some (s, p, x) =>
    if (s = stCatch ∨ (d.st n = stCatch ∧ s ≠ stFault)) ∧ d.stopDue n b then d else
    let d := d.modAx n (fun a => { a with nextState := none })
    if s = stFault then (if d.st n == stFault then d else d.toFaultOff n causeInternal 9 b)
    else if s = stArmed then (d.bridgeOff n b).setState n stArmed causeInternal 9 b
    else if s = stBrake then d.enterBrake n x causeInternal 9 b false (d.ax n).toFault
    else if s = stCatch then
      ((d.setState n stCatch causeInternal 9 b).setPhase n 1 b).modAx n (fun a => { a with samples := [], toFault := false })
    else
      let d := (d.enterRun n causeInternal 9 b).setPhase n p b
      let d := d.modAx n (fun a => { a with thF := 0, handAt := none, polRise := [(0, 0), (0, 0)], polId := 0 })
      if p = 7 then d.enterTrack n b else d

end Sys2Proof.Machine
end

