-- ==== Sys2Proof/Machine/Banks.lean ====
section
/-! DEFINITION. The on-chip memory banks: accesses, ownership, ECC, handover, power and the sweeper (R393 to R415). -/
namespace Sys2Proof.Machine

/-! ### Masters (R395) -/

/-- Bytes of a bank. -/
def bankSize : Nat := 0x20000

/-- The chronograph source of a master. -/
def masterSrc (m : Nat) : Nat :=
  match m with
  | 1 => 0 | 2 => 1 | 3 => 2 | 4 => 3 | 5 => 5 | 6 => 6 | 7 => 7
  | _ => 4

/-- The master through which a requester reaches the banks. -/
def Req.master : Req → Nat
  | .mer => 1 | .alm => 2 | .host => 3 | .net _ _ => 4

/-- OWNER of a bank in effect. -/
def Dev.owner (d : Dev) (b : Nat) : Nat := d.rd (bnkOwner b)

/-- READERS of a bank in effect. -/
def Dev.readers (d : Dev) (b : Nat) : Nat := d.rd (bnkReaders b)

/-! ### Accesses (R394, R396, R405) -/

/-- The layout of BNK_REFUSE_LAST. -/
def refuseWord (b m reason word : Nat) : Nat := b * 2 ^ 24 + m * 2 ^ 20 + reason * 2 ^ 16 + word % 2 ^ 15

/-- An access of master m to word w of bank b is refused for a reason (R396). -/
def Dev.bankRefuse (d : Dev) (b m w reason t : Nat) : Dev :=
  let d := (((d.wr bnkRefBank b).wr bnkRefMaster m).wr bnkRefWord w).wr bnkRefReason reason
  let d := (d.inc bnkRefuseCount).ev .bnk 6
  if (d.mbank b).refused.contains m then d
  else (d.modMbank b (fun x => { x with refused := m :: x.refused })).note t 3 (masterSrc m) b 0x0080 (refuseWord b m reason w)

/-- Why master m may not access an aligned word of bank b; none: it may. -/
def Dev.bankBar (d : Dev) (b m : Nat) (write : Bool) : Option Nat :=
  if d.rd (bnkPstate b) ≠ 0 then some 2
  else if d.owner b = m ∨ (!write ∧ bitAt (d.readers b) m) then none
  else some 1

/-- Count a corrected read (R394). -/
def Dev.eccNote (d : Dev) (b m w : Nat) (unc : Bool) : Dev :=
  let d := (((d.wr bnkEccBank b).wr bnkEccMaster m).wr bnkEccWord w).wrB bnkEccLastUncorr unc
  if unc then (d.inc bnkEccUncorr).ev .bnk 3 else (d.inc bnkEccCorr).ev .bnk 2

/-- The ECC outcome of reading word w of bank b: a single error is corrected, a double error is uncorrectable and raises
0x3B01 once per word (R394). True: the word is good. -/
def Dev.eccRead (d : Dev) (b m w t : Nat) : Bool × Dev :=
  match (d.mbank b).bad.find? (fun e => e.1 == w) with
  | none => (true, d)
  | some (_, false) => (true, (d.modMbank b (fun x => { x with bad := x.bad.filter (fun e => e.1 != w) })).eccNote b m w false)
  | some (_, true) =>
    let d := d.eccNote b m w true
    if (d.mbank b).told.contains w then (false, d)
    else (false, (d.modMbank b (fun x => { x with told := w :: x.told })).raise 0x3B01 b 9 (m * 2 ^ 20 + w) t)

/-- Bank and word of a byte address. -/
def bankOf (a : Nat) : Nat := a / bankSize
/-- The word of a byte address in its bank. -/
def wordOf (a : Nat) : Nat := a % bankSize / 4

/-- n full words from word w of bank b are written: errors in them go, and BNK_INJECT stores one in its word (R394, R415). -/
def Dev.eccFill (d : Dev) (b w n : Nat) : Dev :=
  let hit := fun (x : Nat) => decide (w ≤ x) && decide (x < w + n)
  let d := d.modMbank b (fun x => { x with bad := x.bad.filter (fun e => !hit e.1), told := x.told.filter (fun e => !hit e) })
  if d.on bnkInjEn && d.rd bnkInjBank == b && hit (d.rd bnkInjWord) then
    let bad := (d.rd bnkInjWord, d.on bnkInjDouble)
    (d.wr bnkInjEn 0).modMbank b (fun x => { x with bad := bad :: x.bad })
  else d

/-- A full-word write settles the word (R394, R415). -/
def Dev.eccWrite (d : Dev) (b w : Nat) : Dev := d.eccFill b w 1

/-! ### Ports, cycles and races (R402 to R404) -/

/-- The port of a master is port B (R395). -/
def portB (m : Nat) : Bool := decide (6 ≤ m)

/-- The place of a master in the fixed order of R402. -/
def rankOf (m : Nat) : Nat :=
  match m with
  | 6 => 8 | 7 => 9 | 5 => 10 | 4 => 11 | 1 => 12 | 2 => 13 | 3 => 14
  | m => m - 8

/-- The system cycle of the present device time. -/
def Dev.cycle (d : Dev) : Nat := d.now / 5

/-- A race is counted (R404): the master of the later access learns of it (R403, R75). -/
def Dev.raceNote (d : Dev) (b w later earlier : Nat) : Dev :=
  let d := (((d.wr bnkRaceBank b).wr bnkRaceLater later).wr bnkRaceEarlier earlier).wr bnkRaceWord w
  let d := (d.inc bnkRaceCount).ev .bnk 10
  if later = 1 then d.sticky .bnk 0
  else if later = 2 then d.sticky .bnk 1
  else if later = 3 then { d with memBusy := d.memBusy || decide (6 ≤ d.stepsDone) } else d

/-- Two grants race: a read and a write of one word, on both ports in one cycle (R403). -/
def BankGrant.meets (g h : BankGrant) : Bool :=
  portB g.master != portB h.master && g.cycle == h.cycle && g.word == h.word && g.write != h.write

/-- Of two racing grants, g is the later: it alone lost a round before, or both or neither did and it is on port B (R403). -/
def BankGrant.later (g h : BankGrant) : Bool := if g.lost = h.lost then portB g.master else g.lost

/-- A port of bank b serves a word access in a cycle. In a race the answer tells whether it is the later access; a later write of
a hardware master takes the next cycle too (R403). -/
def Dev.grant (d : Dev) (b : Nat) (g : BankGrant) : Option Bool × Dev :=
  let gs := (d.mbank b).grants.filter (fun h => decide (d.cycle ≤ h.cycle))
  let put := fun (d : Dev) (g : BankGrant) => d.modMbank b (fun x => { x with grants := x.grants ++ [g] })
  let d := put (d.modMbank b (fun x => { x with grants := gs })) g
  match gs.find? g.meets with
  | none => (none, d)
  | some h =>
    let (l, e) := if g.later h then (g, h) else (h, g)
    let d := d.raceNote b g.word l.master e.master
    (some (g.later h), if l.write ∧ 4 ≤ l.master then put d { l with cycle := l.cycle + 1 } else d)

/-- The first cycle from the present one on after which the port of master m at bank b has granted nothing yet. -/
def Dev.freeCycle (d : Dev) (b m : Nat) : Nat :=
  (d.mbank b).grants.foldl (fun c g => if portB g.master = portB m then max c (g.cycle + 1) else c) d.cycle

/-- A word access made as part of another command: its port serves it in the first cycle that is free (log entry 220). -/
def Dev.takeCycle (d : Dev) (b m w : Nat) (write : Bool) : Option Bool × Dev :=
  let c := d.freeCycle b m
  d.grant b { cycle := c, word := w, write := write, master := m, lost := decide (d.cycle < c) }

/-! ### Word accesses (R394, R396, R405) -/

/-- The word that a granted read delivers (R394). -/
def Dev.wordRead (d : Dev) (mem : Mem) (m a t : Nat) : Option Nat × Dev :=
  let (ok, d) := d.eccRead (bankOf a) m (wordOf a) t
  (if ok then some (mem.word a) else none, d)

/-- The undefined data that a reader in a race receives: neither corrected nor checked (R403). -/
def Dev.racedRead (d : Dev) : Option Nat × Dev :=
  let (x, d) := d.free
  (some (x % 2 ^ 32), d)

/-- Read the aligned word at a byte address as master m, without a port of its own in the present cycle; none: uncorrectable or
refused. -/
def Dev.bulkRead (d : Dev) (mem : Mem) (m a t : Nat) : Option Nat × Dev :=
  let b := bankOf a
  if a % 4 ≠ 0 ∨ memSize ≤ a then (none, d.bankRefuse (b % 32) m (wordOf a) 3 t)
  else
    match d.bankBar b m false with
    | some r => (none, d.bankRefuse b m (wordOf a) r t)
    | none => d.wordRead mem m a t

/-- Read the aligned word at a byte address as master m; none: uncorrectable or refused. In a race a hardware master whose access
is the later one reads again (R403). -/
def Dev.bankRead (d : Dev) (mem : Mem) (m a t : Nat) : Option Nat × Dev :=
  let b := bankOf a
  if a % 4 ≠ 0 ∨ memSize ≤ a then (none, d.bankRefuse (b % 32) m (wordOf a) 3 t)
  else
    match d.bankBar b m false with
    | some r => (none, d.bankRefuse b m (wordOf a) r t)
    | none =>
      let (race, d) := d.takeCycle b m (wordOf a) false
      match race with
      | none => d.wordRead mem m a t
      | some later => if later && decide (4 ≤ m) then d.wordRead mem m a t else d.racedRead

/-- Write the aligned word at a byte address as master m, without a port of its own in the present cycle; the flag tells whether it
was made. -/
def Dev.bulkWrite (d : Dev) (mem : Mem) (m a v t : Nat) : Bool × Dev × Mem :=
  let b := bankOf a
  if a % 4 ≠ 0 ∨ memSize ≤ a then (false, d.bankRefuse (b % 32) m (wordOf a) 3 t, mem)
  else
    match d.bankBar b m true with
    | some r => (false, d.bankRefuse b m (wordOf a) r t, mem)
    | none => (true, d.eccWrite b (wordOf a), mem.putWord a v)

/-- Write the aligned word at a byte address as master m; the flag tells whether it was made. -/
def Dev.bankWrite (d : Dev) (mem : Mem) (m a v t : Nat) : Bool × Dev × Mem :=
  let b := bankOf a
  let d := if a % 4 ≠ 0 ∨ memSize ≤ a ∨ (d.bankBar b m true).isSome then d else (d.takeCycle b m (wordOf a) true).2
  d.bulkWrite mem m a v t

/-- Word w of bank b is uncorrectable (R394). -/
def Dev.uncorrectable (d : Dev) (b w : Nat) : Bool := (d.mbank b).bad.any (fun e => e.1 == w && e.2)

/-- Write part of a word, bytes lo to lo + n − 1 (R405): a read and a write of the word, in two cycles; refused with reason 4 when
the word is uncorrectable (R394). -/
def Dev.bankPart (d : Dev) (mem : Mem) (m a lo n v t : Nat) : Bool × Dev × Mem :=
  let b := bankOf a
  if memSize ≤ a then (false, d, mem)
  else
    match d.bankBar b m true with
    | some r => (false, d.bankRefuse b m (wordOf a) r t, mem)
    | none =>
      if d.uncorrectable b (wordOf a) then (false, d.bankRefuse b m (wordOf a) 4 t, mem)
      else
        let (_, d) := d.takeCycle b m (wordOf a) true
        let (_, d) := d.takeCycle b m (wordOf a) true
        let (_, d) := d.eccRead b m (wordOf a) t
        (true, d, mem.putNum (a / 4 * 4 + lo) v n)

/-- A write of n bytes (1, 2 or 4) at any byte address by Meridian, Almanac or the host port (R405): one word access, or
two when it crosses a word boundary, the lower address first. The flag tells whether all of it was made. -/
def Dev.bankStore (d : Dev) (mem : Mem) (m a n v t : Nat) : Bool × Dev × Mem :=
  let lo := a % 4
  if lo = 0 ∧ n = 4 then d.bankWrite mem m a v t
  else if lo + n ≤ 4 then d.bankPart mem m (a - lo) lo n v t
  else
    let n1 := 4 - lo
    let (ok1, d, mem) := d.bankPart mem m (a - lo) lo n1 v t
    let (ok2, d, mem) := d.bankPart mem m (a - lo + 4) 0 (n - n1) (v / 256 ^ n1) t
    (ok1 && ok2, d, mem)

/-- A read of n bytes at any byte address (R405). -/
def Dev.bankLoad (d : Dev) (mem : Mem) (m a n t : Nat) : Option Nat × Dev :=
  let lo := a % 4
  let (w0, d) := d.bankRead mem m (a - lo) t
  if lo + n ≤ 4 then (w0.map (fun w => bitsAt w (8 * lo) (8 * n)), d)
  else
    let (w1, d) := d.bankRead mem m (a - lo + 4) t
    match w0, w1 with
    | some x, some y => (some (bitsAt (x + y * 2 ^ 32) (8 * lo) (8 * n)), d)
    | _, _ => (none, d)

/-! ### BANK_ACCESS (R394, R396, R402 to R405) -/

/-- One word access of an access: the word's byte address, its bytes lo to lo + n − 1, and their value in a write. -/
structure Part where
  /-- Byte address of the word. -/
  a : Nat
  /-- First byte. -/
  lo : Nat
  /-- Bytes. -/
  n : Nat
  /-- Value. -/
  v : Nat
deriving DecidableEq, Repr

/-- The word accesses of an access, the lower address first (R405). -/
def PortAccess.parts (x : PortAccess) : List Part :=
  let lo := x.a % 4
  if lo + x.n ≤ 4 then [{ a := x.a - lo, lo := lo, n := x.n, v := x.v }]
  else [{ a := x.a - lo, lo := lo, n := 4 - lo, v := x.v }, { a := x.a - lo + 4, lo := 0, n := x.n - (4 - lo), v := x.v / 256 ^ (4 - lo) }]

/-- An access in arbitration. -/
structure Want where
  /-- Its number in the command. -/
  num : Nat
  /-- The access. -/
  acc : PortAccess
  /-- Word accesses still to be made. -/
  left : List Part
  /-- The cycle in which it competes. -/
  cycle : Nat
  /-- It has lost a round. -/
  lost : Bool := false
  /-- What its word accesses gave: the word read, 0 for a write made, none where refused or uncorrectable. -/
  got : List (Option Nat) := []
deriving DecidableEq, Repr

/-- An access that competes, and its next word access. -/
def Want.bank (w : Want) : Nat := bankOf ((w.left.head?.map Part.a).getD 0)

/-- Two accesses compete for one port of one bank. -/
def Want.rivals (x y : Want) : Bool := x.bank == y.bank && portB x.acc.m == portB y.acc.m

/-- Access x wins against y (R402): it alone has lost a round; otherwise by the fixed order, and two accesses of one master in the
order of the command. -/
def Want.before (x y : Want) : Bool :=
  if x.lost = y.lost then decide (rankOf x.acc.m < rankOf y.acc.m) || (x.acc.m == y.acc.m && decide (x.num < y.num)) else x.lost

/-- The accesses that win their port in cycle c: those that no rival precedes, on a port that is not taken. -/
def Dev.winners (d : Dev) (ws : List Want) (c : Nat) : List Want :=
  let here := ws.filter (fun w => !w.left.isEmpty && w.cycle == c)
  here.filter (fun x =>
    !(d.mbank x.bank).grants.any (fun g => g.cycle == c && portB g.master == portB x.acc.m) && here.all (fun y => !(x.rivals y) || !(y.before x)))

/-- A word access has come to its end with an outcome; the next one competes from a cycle on. -/
def Want.done (w : Want) (got : Option Nat) (cycle : Nat) : Want :=
  { w with left := w.left.drop 1, cycle := cycle, lost := false, got := w.got ++ [got] }

/-- A winner's word access in cycle c, which ends at time t: judged for ownership, readers and the word (R396, R394), and for a race
(R403). -/
def Dev.serveWant (d : Dev) (mem : Mem) (w : Want) (c t : Nat) : Want × Dev × Mem :=
  match w.left with
  | [] => (w, d, mem)
  | p :: _ =>
    let b := bankOf p.a
    let m := w.acc.m
    let g : BankGrant := { cycle := c, word := wordOf p.a, write := w.acc.write, master := m, lost := w.lost }
    let whole := p.lo = 0 ∧ p.n = 4
    match d.bankBar b m w.acc.write with
    | some r => (w.done none (c + 1), d.bankRefuse b m (wordOf p.a) r t, mem)
    | none =>
      if !w.acc.write then
        let (race, d) := d.grant b g
        match race with
        | none =>
          let (x, d) := d.wordRead mem m p.a t
          (w.done x (c + 1), d, mem)
        | some later =>
          if later && decide (4 ≤ m) then ({ w with cycle := c + 1 }, d, mem)
          else
            let (x, d) := d.racedRead
            (w.done x (c + 1), d, mem)
      else if whole then (w.done (some 0) (c + 1), ((d.grant b g).2).eccWrite b (wordOf p.a), mem.putWord p.a p.v)
      else if d.uncorrectable b (wordOf p.a) then (w.done none (c + 1), d.bankRefuse b m (wordOf p.a) 4 t, mem)
      else
        let d := (((d.grant b g).2).grant b { g with cycle := c + 1 }).2
        let (_, d) := d.eccRead b m (wordOf p.a) t
        (w.done (some 0) (c + 2), d, mem.putNum (p.a + p.lo) p.v p.n)

/-- Serve a list of winners of one cycle, in order. -/
def Dev.serveList (d : Dev) (mem : Mem) (ws : List Want) (c t : Nat) : List Want → List Want × Dev × Mem
  | [] => (ws, d, mem)
  | w :: rest =>
    let (x, d, mem) := d.serveWant mem w c t
    Dev.serveList d mem (ws.map (fun y => if y.num = w.num then x else y)) c t rest

/-- Cycles of arbitration, as long as an access competes, with a bound on their number: in each the losers stall (R402); of two
accesses that race, the write is made before the read. -/
def Dev.arbitrate (d : Dev) (mem : Mem) (ws : List Want) : Nat → List Want × Dev × Mem
  | 0 => (ws, d, mem)
  | fuel + 1 =>
    match ((ws.filter (fun w => !w.left.isEmpty)).map Want.cycle).min? with
    | none => (ws, d, mem)
    | some c =>
      let won := d.winners ws c
      let ws := ws.map (fun w =>
        if w.cycle = c ∧ !w.left.isEmpty ∧ !won.any (fun x => x.num == w.num) then { w with cycle := c + 1, lost := true } else w)
      let (ws, d, mem) := d.serveList mem ws c (d.now + 5 * (c - d.cycle)) (won.filter (fun w => w.acc.write) ++ won.filter (fun w => !w.acc.write))
      Dev.arbitrate d mem ws fuel

/-- A master that must access aligned words (R405). -/
def alignedMaster (m : Nat) : Bool := decide (4 ≤ m)

/-- An unaligned access of a master that must not make one is refused with reason 3 (R405). -/
def PortAccess.unaligned (x : PortAccess) : Bool := alignedMaster x.m && (x.a % 4 != 0 || x.n != 4)

/-- An access names bytes of the banks. -/
def PortAccess.inBanks (x : PortAccess) : Bool := decide (x.a + x.n ≤ memSize) && x.m != 0 && x.n != 0

/-- The word that an access meets holds the error of its upset (R394); an uncorrectable word stays so. -/
def Dev.upsetWord (d : Dev) (x : PortAccess) : Dev :=
  match x.upset with
  | some dbl =>
    let b := bankOf x.a
    let w := wordOf x.a
    if d.rd (bnkPstate b) ≠ 0 ∨ d.uncorrectable b w then d
    else d.modMbank b (fun y => { y with bad := (w, dbl) :: y.bad.filter (fun e => e.1 != w) })
  | none => d

/-- An access enters the arbitration; one that is not aligned as it must be is refused (R405). -/
def Dev.want (d : Dev) (x : PortAccess) (i t : Nat) : Want × Dev :=
  let w : Want := { num := i, acc := x, left := x.parts, cycle := d.cycle + x.wait }
  if !x.inBanks then ({ w with left := [], got := [none] }, d)
  else if x.unaligned then ({ w with left := [], got := [none] }, d.bankRefuse (bankOf x.a) x.m (wordOf x.a) 3 (t + 5 * x.wait))
  else (w, d.upsetWord x)

/-- All accesses of a command enter the arbitration. -/
def Dev.wants (d : Dev) (i t : Nat) : List PortAccess → List Want × Dev
  | [] => ([], d)
  | x :: xs =>
    let (w, d) := d.want x i t
    let (ws, d) := Dev.wants d (i + 1) t xs
    (w :: ws, d)

/-- What a master receives (R394): an uncorrectable or refused read is a bus error (result 2) for Meridian and Almanac, and data 0
for the others. -/
def Want.answer (w : Want) : Answer :=
  let ok := w.got.all Option.isSome
  let word := (w.got.foldr (fun x acc => x.getD 0 + 2 ^ 32 * acc) 0)
  { result := if ok then 0 else 2
    data := if w.acc.write then []
      else if ok then [bitsAt word (8 * (w.acc.a % 4)) (8 * w.acc.n)]
      else if w.acc.m ≤ 2 then [] else [0] }

/-- Rounds that suffice for a list of accesses: every word access takes at most four cycles, and waits while its port is taken. -/
def Dev.rounds (d : Dev) (xs : List PortAccess) : Nat :=
  xs.foldl (fun k x => k + 10 + ((d.mbank (bankOf x.a)).grants.length + (d.mbank (bankOf (x.a + 3))).grants.length)) 1

/-- BANK_ACCESS: masters issue accesses to the banks; each port of each bank serves one word access in a cycle, arbitrated by R402. -/
def effBankAccess (xs : List PortAccess) (t : Nat) (mem : Mem) (d : Dev) : Dev × Mem :=
  let fuel := d.rounds xs
  let (ws, d) := d.wants 0 t xs
  let (ws, d, mem) := d.arbitrate mem ws fuel
  ({ d with served := ws.map (fun w => (d.now + 5 * (w.cycle - d.cycle), w.answer)) }, mem)

/-! ### Handover (R398 to R401) -/

/-- The result of a handover request is reported. -/
def Dev.hoResult (d : Dev) (b r : Nat) : Dev :=
  let d := (d.wr bnkHorBank b).wr bnkHorResult r
  if r = 1 then d.ev .bnk 8 else if 2 ≤ r then d.ev .bnk 9 else d

/-- BNK_HANDOVER: a write of FORCE, BANK, OWNER and READERS (R398). -/
def effHandover (r : Req) (force : Bool) (b owner readers : Nat) (t : Nat) (d : Dev) : Dev :=
  if b = 31 ∨ 32 ≤ b ∨ d.rd (bnkPstate b) = 5 ∨ owner = 0 then d.hoResult b 2
  else if (d.mbank b).ho.isSome then d.hoResult b 3
  else if d.owner b = 1 ∧ r ≠ .mer then d.hoResult b 16
  else
    let q : HoReq := { owner := owner, readers := (readers ||| 2) / 2 * 2, force := force && r == .mer, at_ := t, src := r.src, judged := 0 }
    ((d.modMbank b (fun x => { x with ho := some q })).wr (bnkPendOwner b) owner).hoResult b 0

/-- Frames that a bank gives to the pager. -/
def framesPerBank : Nat := 32

/-- PGR FRAMES and FRAMES_FREE follow the ownership and the power of the banks (R429). -/
def Dev.syncFrames (d : Dev) : Dev :=
  let banks := (List.range 32).filter (fun b => d.owner b == 5 && d.rd (bnkPstate b) == 0)
  let used := d.streams.foldl (fun k s => k + s.2.frames.length) 0
  (d.wr pgrFrames (framesPerBank * banks.length)).wr pgrFramesFree (framesPerBank * banks.length - used)

/-- A frame of bank b is reserved (R429). -/
def Dev.frameReserved (d : Dev) (b : Nat) : Bool := d.streams.any (fun s => s.2.frames.any (fun f => f / framesPerBank == b))

/-- Data bytes of a page (R431). -/
def pageData (check : Nat) : Nat := if check = 1 then 4092 else 4096

/-- BNK_HO_TIMEOUT (R400). -/
def effHandoverTimeout (b : Nat) (_t : Nat) (d : Dev) : Dev :=
  match (d.mbank b).ho with
  | none => d
  | some q =>
    if q.judged < d.rd bnkHoTmax then d
    else ((d.modMbank b (fun x => { x with ho := none })).wr (bnkPendOwner b) 0).hoResult b 18

/-! ### Power (R406, R407) -/

/-- PSTATE of bank b changes; BNK_ON follows, and the sweeper learns of a bank that leaves ON (R408). -/
def Dev.setPstate (d : Dev) (b p : Nat) : Dev :=
  let d := (d.wr (bnkPstate b) p).modMbank b (fun x => { x with missed := x.missed || p != 0 })
  (d.wr bnkOn (if p = 0 then setBit (d.rd bnkOn) b else clearBit (d.rd bnkOn) b)).syncFrames

/-- BNK_PWR: a write of BANK and STATE (R407); STATE 3 is ignored. -/
def effBankPower (r : Req) (b new : Nat) (t : Nat) (d : Dev) : Dev :=
  if 3 ≤ new ∨ 32 ≤ b then d
  else
    let o := d.owner b
    let d := d.wr bnkPwrrBank b
    if b = 31 ∨ d.rd (bnkPstate b) = 5 ∨ 5 ≤ o ∨ (d.mbank b).pwr.isSome then d.wr bnkPwrrResult 2
    else
      (d.modMbank b (fun x => { x with pwr := some { new := new, old := d.rd (bnkPstate b), at_ := t, src := r.src } })).wr bnkPwrrResult 0

/-- At a boundary a bank on its way to ON enters WAKE from RET, or INIT from OFF (R407). -/
def Dev.startPower (d : Dev) (t : Nat) : Dev :=
  d.each (List.range 32) (fun b d =>
    match (d.mbank b).pwr with
    | some q =>
      if q.new = 0 ∧ q.at_ + 100 ≤ t ∧ d.rd (bnkPstate b) = q.old then
        (if q.old = 1 then d.setPstate b 4 else if q.old = 2 then d.setPstate b 3 else d)
      else d
    | none => d)

/-! ### The sweeper (R408 to R411) -/

/-- The banks of region r, in ascending order (R393). -/
def regionBanks (r : Nat) : List Nat := (List.range 16).map (fun i => 16 * r + i)

/-- Bank b is ON and has been during the whole pass, so far as the pass has looked at it (R408). -/
def Dev.sweepable (d : Dev) (b : Nat) : Bool := d.rd (bnkPstate b) == 0 && !(d.mbank b).missed

/-- The next bank of a region that this pass tests, after bank b; none when the pass is over. -/
def Dev.nextSwept (d : Dev) (r b : Nat) : Option Nat := (regionBanks r).find? (fun x => decide (b < x) && d.sweepable x)

/-- A pass of region r begins: its banks count anew. -/
def Dev.newPass (d : Dev) (r : Nat) : Dev := d.each (regionBanks r) (fun b d => d.modMbank b (fun x => { x with missed := false }))

/-- Advance the sweep of region r to its next block (R408). -/
def Dev.sweepOn (d : Dev) (r : Nat) : Dev :=
  let b := d.rd (bnkSweepBank r)
  if d.rd (bnkSweepBlock r) + 1 < 512 ∧ d.sweepable b then d.inw (bnkSweepBlock r)
  else
    match d.nextSwept r b with
    | some x => (d.wr (bnkSweepBank r) x).wr (bnkSweepBlock r) 0
    | none =>
      let d := d.newPass r
      let first := ((regionBanks r).find? d.sweepable).getD (16 * r)
      let d := (d.wr (bnkSweepBank r) first).wr (bnkSweepBlock r) 0
      if r = 0 then d.inw bnkPassA else d.inw bnkPassB

/-- A block fails its test (R410, R411): its row moves, corrected, to the lowest free spare row, or 0x3B02 is raised. The copy leaves
no single-bit error in the row (log entry 221). -/
def Dev.sweepFail (d : Dev) (b row t : Nat) : Dev :=
  match (d.mbank b).spares.findIdx? Option.isNone with
  | some s =>
    let d := d.modMbank b (fun x =>
      { x with spares := x.spares.set s (some (row, false)), bad := x.bad.filter (fun e => e.2 || e.1 / 256 != row) })
    (d.ev .bnk 4).note t 3 8 b 0x0070 (s * 2 ^ 8 + row)
  | none => d.raise 0x3B02 b 8 row t

/-- SWEEP_BLOCK (R408 to R411): the block of region r under test is done; it failed, or it was late. -/
def effSweepBlock (r : Nat) (failed late : Bool) (t : Nat) (d : Dev) : Dev :=
  let b := d.rd (bnkSweepBank r)
  if !d.on bnkModeSweepEn ∨ (regionBanks r).all (fun x => d.rd (bnkPstate x) != 0) then d
  else if !d.sweepable b then d.sweepOn r
  else
    let d := d.when_ late (fun d => (d.inc bnkSweepLate).ev .bnk 5)
    let d := d.when_ failed (fun d => d.sweepFail b (d.rd (bnkSweepBlock r) / 4) t)
    d.sweepOn r

end Sys2Proof.Machine
end

