-- ==== Sys2Proof/Machine/Gpio.lean ====
section
/-! DEFINITION. The GPIO pins (R585, R586). -/
namespace Sys2Proof.Machine

/-- The level of pin i (R585): what it drives as an output, the level outside otherwise; open drain drives low only. -/
def Dev.gpioPin (d : Dev) (i : Nat) : Bool :=
  let outside := bitAt d.pins.gpio i
  if bitAt (d.rd gpioDirAct) i then
    (if bitAt (d.rd gpioOut) i then (if bitAt (d.rd gpioOd) i then outside else true) else false)
  else outside

/-- The pull at pin i (R75, R586): none before READY and while PULL_EN is 0; otherwise up at true. What an undriven pin reads with
it is the level outside that GPIO_EDGE brings. -/
def Dev.gpioPull (d : Dev) (i : Nat) : Option Bool :=
  if d.stepsDone < 6 ∨ !bitAt (d.rd gpioPullEn) i then none else some (bitAt (d.rd gpioPullUp) i)

/-- GPIO_IN (R586). -/
def Dev.gpioIn (d : Dev) : Nat := maskOf ((List.range 32).filter d.gpioPin)

/-- The edges between two levels of the pins: a selected edge sets its bit of PAGE_EVENT, or of PAGE_STICKY when that bit
is still set (R586). -/
def Dev.gpioEdges (d : Dev) (old : Nat) : Dev :=
  let new := d.gpioIn
  d.each (List.range 32) (fun i d =>
    let rose := !bitAt old i && bitAt new i && bitAt (d.rd gpioRise) i
    let fell := bitAt old i && !bitAt new i && bitAt (d.rd gpioFall) i
    if rose || fell then (if d.evBit .gpio i then d.sticky .gpio i else d.evOnly .gpio i) else d)

/-- Change what the pins drive, and see the edges that follow. -/
def Dev.gpioDrive (d : Dev) (f : Dev → Dev) : Dev := (f d).gpioEdges d.gpioIn

/-- The written directions take effect on the pins, from step 6 on (R585). -/
def Dev.gpioApply (d : Dev) : Dev := if d.stepsDone < 6 then d else d.gpioDrive (fun d => d.wr gpioDirAct (d.rd gpioDir))

/-- A register of the GPIO page that drives pins is written: OUT, DIR or OD. -/
def Dev.gpioWrite (d : Dev) (f : Fld) (v : Nat) : Dev := (d.gpioDrive (fun d => d.wr f v)).gpioApply

/-- GPIO_SET (R586). -/
def effGpioSet (mask : Nat) (_t : Nat) (d : Dev) : Dev := d.gpioWrite gpioOut (d.rd gpioOut ||| mask)

/-- GPIO_CLR (R586). -/
def effGpioClr (mask : Nat) (_t : Nat) (d : Dev) : Dev := d.gpioWrite gpioOut (maskMinus (d.rd gpioOut) mask)

/-- GPIO_EDGE (R586): the level outside pin i changes. -/
def effGpioEdge (i : Nat) (rising : Bool) (_t : Nat) (d : Dev) : Dev :=
  let old := d.gpioIn
  let pins : Pins := { d.pins with gpio := if rising then setBit d.pins.gpio i else clearBit d.pins.gpio i }
  ({ d with pins := pins } : Dev).gpioEdges old

end Sys2Proof.Machine
end

