-- ==== Sys2Proof/Machine/Pager.lean ====
section
/-! DEFINITION. The serial memory ports and the pager (R416 to R443). -/
namespace Sys2Proof.Machine

/-! ### Ports (R416, R422) -/

/-- The port that serves an external address (R416). -/
def portOf (x : Nat) : Nat := if x < 0x80000000 then 0 else 1

/-- Port q serves traffic (R422): SMP_STATUS.ENABLED. -/
def Dev.serves (d : Dev) (q : Nat) : Bool := d.on (smpEn q) && d.pins.vddsm

/-- External bytes [x, x + n) lie in the device of their port (R416). -/
def Dev.extOk (d : Dev) (x n : Nat) : Bool :=
  let q := portOf x
  decide (x + n ≤ q * 0x80000000 + min 0x80000000 (2 ^ d.rd (smpSize q)))

/-- A read error on port q (R436, R442): cause 1 CHECK, 2 DQS, 3 RANGE. -/
def Dev.smpError (d : Dev) (q x cause : Nat) : Dev :=
  (((d.inc (smpRdErrs q)).wr (smpErrAddr q) x).wr (smpErrCause q) cause).ev (.smp q) 3

/-- The address that port q presents to its device (R416). -/
def deviceAddr (x : Nat) : Nat := x - portOf x * 0x80000000

/-- The last n bytes of a number, most significant first. -/
def bytesDown (v : Nat) : Nat → List Nat
  | 0 => []
  | n + 1 => v / 256 ^ n % 256 :: bytesDown v n

/-- The transaction of port q on n bytes at an external address, with the template as it stands (R417, R418): CMD[7:0] is sent in
8D-8D-8D only, and a write has no dummy cycles. -/
def Dev.busOp (d : Dev) (q x n : Nat) (write : Bool) : BusOp :=
  let octal := d.on (smpHwMode q)
  let cmd := d.rd (if write then smpWrCmd q else smpRdCmd q)
  let bytes := d.rd (if write then smpWrAddrBytes q else smpRdAddrBytes q) + 3
  { write := write, octal := octal, div := d.rd (smpHwDiv q), setup := d.rd (smpCsSetup q),
    head := (if octal then bytesDown cmd 2 else [cmd / 256]) ++ bytesDown (deviceAddr x) bytes,
    dummy := if write then 0 else d.rd (smpRdDummy q), count := n, hold := d.rd (smpCsHold q), high := d.rd (smpCsHigh q) }

/-! ### Windows (R420, R421) -/

/-- The external address of a window address (R420). -/
def Dev.windowExt (d : Dev) (a : Nat) : Nat :=
  if a < 0x80000000 then d.rd pgrW0Base * 0x40000000 + (a - 0x40000000) else d.rd pgrW1Base * 0x80000000 + (a - 0x80000000)

/-- An address lies in window W0 or W1. -/
def inWindow (a : Nat) : Bool := decide (0x40000000 ≤ a) && decide (a < 2 ^ 32)

/-- n bytes from byte offset o of a list of words. -/
def bytesOf (ws : List Nat) (o n : Nat) : Nat :=
  (ws.foldr (fun w acc => w % 2 ^ 32 + 2 ^ 32 * acc) 0) / 2 ^ (8 * o) % 2 ^ (8 * n)

/-- The words of a line in the buffers of port q; none of them when the line is not there. -/
def Dev.lineWords (d : Dev) (q line : Nat) : List Nat := (((d.smpOf q).lines.find? (fun l => l.1 == line)).map Prod.snd).getD []

/-- A window read of n bytes that the line buffers serve (R421); one that crosses a line needs both lines. -/
def Dev.windowHit (d : Dev) (a n : Nat) : Option (Nat × Dev) :=
  let x := d.windowExt a
  let q := portOf x
  let line := x / 32 * 32
  let one := d.lineWords q line
  let two := d.lineWords q (line + 32)
  let cross := decide (32 < x - line + n)
  if one.isEmpty || (cross && two.isEmpty) then none
  else
    let used := (line, one) :: (if cross then [(line + 32, two)] else [])
    let d := d.modSmp q (fun p => { p with lines := used ++ p.lines.filter (fun k => !used.any (fun u => u.1 == k.1)) })
    some (bytesOf (one ++ two) (x - line) n, d.inw (smpLineHits q))

/-- The line that a window read of n bytes misses: the first, or the second where the first is there (R421). -/
def Dev.missedLine (d : Dev) (a n : Nat) : Nat :=
  let x := d.windowExt a
  let line := x / 32 * 32
  if 32 < x - line + n ∧ d.lineWords (portOf x) line ≠ [] then line + 32 else line

/-- A line fetch of port q fails (R439). -/
def Dev.lineFails (d : Dev) (q x cause t : Nat) : Dev := (d.smpError q x cause).raise 0x5C02 q 5 cause t

/-- A line fetch is requested, and waits for its turn at the port (R421, R423). -/
def Dev.askLine (d : Dev) (q line : Nat) : Dev :=
  d.modSmp q (fun p => { p with fetches := if p.fetches.contains line then p.fetches else p.fetches ++ [line] })

/-- The transaction of port q is over. -/
def Dev.portDone (d : Dev) (q : Nat) : Dev := d.modSmp q (fun p => { p with cur := none })

/-- The transaction of port q is over if it is that of an item. -/
def Dev.portDrop (d : Dev) (q : Nat) (i : PortItem) : Dev := d.modSmp q (fun p => { p with cur := if p.cur = some i then none else p.cur })

/-- What a window read comes to. -/
inductive WindowRead
  /-- The bytes. -/
  | data (v : Nat)
  /-- A read error (R421, R422). -/
  | error
  /-- The requester stalls until the port comes to the line (R421, R423). -/
  | stalls
deriving DecidableEq, Repr

/-- A window read of n bytes at a window address (R421 to R423, R439): a valid line buffer serves it; otherwise the first line that
is missing is fetched when the port is free for it, and the device answers with its 8 words, or, in 8D-8D-8D, with no DQS edge
(R417, R418); the bytes are those of the lines then in the buffers. -/
def Dev.windowRead (d : Dev) (a n : Nat) (dqs : Bool) (line : List Nat) (t : Nat) : WindowRead × Dev :=
  match d.windowHit a n with
  | some (v, d) => (.data v, d)
  | none =>
    let x := d.windowExt a
    let q := portOf x
    let base := d.missedLine a n
    let p := d.smpOf q
    if !d.serves q || !d.extOk base 32 then (.error, d.lineFails q x 3 t)
    else if p.cur.isSome ∧ p.cur ≠ some (.fetch base) then (.stalls, d.askLine q base)
    else
      let d := d.modSmp q (fun p => { p with cur := none, fetches := p.fetches.filter (· != base), ops := [d.busOp q base 32 false] })
      if dqs && d.on (smpHwMode q) then (.error, d.lineFails q x 2 t)
      else
        let ws := (List.range 8).map (fun i => line.getD i 0 % 2 ^ 32)
        let d := d.modSmp q (fun p => { p with lines := ((base, ws) :: p.lines.filter (fun k => k.1 != base)).take 4 })
        (.data (bytesOf (d.lineWords q (x / 32 * 32) ++ d.lineWords q (x / 32 * 32 + 32)) (x - x / 32 * 32) n), d)

/-- The requester of a window read receives its bytes, or an uncorrectable read; one that stalls receives nothing yet. -/
def Dev.windowAnswer (d : Dev) (r : WindowRead) : Dev :=
  match r with
  | .data v => { d with answer := some { result := 0, data := [v] } }
  | .error => { d with answer := some { result := 2, data := [0] } }
  | .stalls => d

/-- WINDOW_LINE_FETCH (R421, R422, R439). -/
def effLineFetch (a n : Nat) (dqs : Bool) (line : List Nat) (t : Nat) (d : Dev) : Dev :=
  if !inWindow a then d
  else
    let (r, d) := d.windowRead a n dqs line t
    d.windowAnswer r

/-- A window read by address (R421): a buffer serves it, or its line is requested and the requester stalls, or it is a read error at
once (R416, R422). -/
def Dev.windowAsk (d : Dev) (a n t : Nat) : Dev :=
  match d.windowHit a n with
  | some (v, d) => d.windowAnswer (.data v)
  | none =>
    let x := d.windowExt a
    let q := portOf x
    let base := d.missedLine a n
    if !d.serves q || !d.extOk base 32 then (d.lineFails q x 3 t).windowAnswer .error else d.askLine q base

/-! ### Software transfers (R424 to R428) -/

/-- A GO is refused. -/
def Dev.goRefused (d : Dev) (q r : Nat) : Dev := (d.wr (smpSwResult q) r).ev (.smp q) 2

/-- Words of a transfer's buffer (R425). -/
def Transfer.words (x : Transfer) : Nat := (x.len + 31) / 32

/-- SMP_SW_GO: a write of 1 to SMP_SW_CMD.GO (R424, R425, R428); the transfer is pending until the port comes to it (R423). -/
def effSwGo (q : Nat) (r : Req) (_t : Nat) (d : Dev) : Dev :=
  let len := d.rd (smpSwLen q)
  let buf := 4 * d.rd (smpSwBuf q)
  let words := (len + 31) / 32
  let dir := d.rd (smpSwDir q)
  if (d.smpOf q).sw.isSome then d.goRefused q 3
  else if !d.serves q then d.goRefused q 2
  else if len = 0 ∨ 16384 < len ∨ dir = 3 ∨ (dir = 0 ∧ d.on (smpSwDdr q)) then d.goRefused q 20
  else if buf / bankSize ≠ (buf + 4 * words - 1) / bankSize ∨ d.owner (buf / bankSize) ≠ r.master then d.goRefused q 16
  else
    let x : Transfer := { len := len, buf := buf, dir := dir, cs0 := d.on (smpSwCs0 q),
                          watch := d.on (smpSwWatchEn q) && !d.on (smpSwCs0 q), watchPin := d.rd (smpSwWatch q),
                          watchHigh := !d.on (smpSwWatchPol q), master := r.master,
                          perCycle := (if dir = 0 then 1 else 2 ^ d.rd (smpSwLanes q)) * (if d.on (smpSwDdr q) then 2 else 1),
                          div := d.rd (smpSwDiv q), setup := if d.on (smpSwCs0 q) then d.rd (smpCsSetup q) else 0 }
    (d.modSmp q (fun p => { p with sw := some x })).wr (smpSwResult q) 0

/-- The words of a transfer that received a number of bits: the last one right-aligned, its upper bits 0 (R425, R427). -/
def receivedWords (bits : Nat) (rx : List Nat) : List Nat :=
  (List.range ((bits + 31) / 32)).map (fun k =>
    if 32 * (k + 1) ≤ bits then rx.getD k 0 % 2 ^ 32 else rx.getD k 0 % 2 ^ (bits - 32 * k))

/-- The words of the buffer that leave on the lanes. -/
def Dev.readBuf (d : Dev) (mem : Mem) (m t : Nat) : Nat → Nat → List Nat × Dev
  | _, 0 => ([], d)
  | a, n + 1 =>
    let (x, d) := d.bulkRead mem m a t
    let (xs, d) := Dev.readBuf d mem m t (a + 4) n
    ((x.getD 0) :: xs, d)

/-- Store received words, one word write each. -/
def Dev.writeBuf (d : Dev) (mem : Mem) (m t : Nat) : Nat → List Nat → Dev × Mem
  | _, [] => (d, mem)
  | a, w :: ws =>
    let (_, d, mem) := d.bulkWrite mem m a w t
    Dev.writeBuf d mem m t (a + 4) ws

/-- Words that a transfer had moved before a forced handover took its bank stand (R401). -/
def Dev.standBuf (d : Dev) (mem : Mem) : Nat → List Nat → Dev × Mem
  | _, [] => (d, mem)
  | a, w :: ws => Dev.standBuf (d.eccWrite (bankOf a) (wordOf a)) (mem.putWord a w) (a + 4) ws

/-- The words that were left end as refused accesses (R401). -/
def Dev.refuseBuf (d : Dev) (m t : Nat) : Nat → Nat → Dev
  | _, 0 => d
  | a, n + 1 => Dev.refuseBuf (d.bankRefuse (bankOf a) m (wordOf a) 1 t) m t (a + 4) n

/-- The buffer words that leave on the lanes; after a forced handover only those read before it (R401). -/
def Dev.sendBuf (d : Dev) (mem : Mem) (x : Transfer) (n t : Nat) : List Nat × Dev :=
  match x.cut with
  | none => d.readBuf mem x.master t x.buf n
  | some k => (mem.words x.buf (min k n) ++ List.replicate (n - k) 0, d.refuseBuf x.master t (x.buf + 4 * k) (n - k))

/-- The words that arrived replace those of the buffer; after a forced handover only those that had arrived before it (R401). -/
def Dev.keepBuf (d : Dev) (mem : Mem) (x : Transfer) (ws : List Nat) (t : Nat) : Dev × Mem :=
  match x.cut with
  | none => d.writeBuf mem x.master t x.buf ws
  | some k =>
    let (d, mem) := d.standBuf mem x.buf (ws.take k)
    (if x.dir = 2 then d.refuseBuf x.master t (x.buf + 4 * k) (ws.length - k) else d, mem)

/-- A transfer ends after a number of bits: what left on the lanes is the answer, what arrived goes to the buffer. -/
def Dev.swFinish (d : Dev) (q bits : Nat) (rx : List Nat) (t : Nat) (mem : Mem) (x : Transfer) : Dev × Mem :=
  let (tx, d) := if x.dir = 2 then ([], d) else d.sendBuf mem x ((bits + 31) / 32) t
  let (d, mem) := if x.dir = 1 then (d, mem) else d.keepBuf mem x (receivedWords bits rx) t
  let d : Dev := { d.modSmp q (fun p => { p with sw := none, cur := none }) with answer := some { result := 0, data := tx } }
  let short := decide (bits < x.len)
  let d := ((d.wr (smpSwBitsDone q) bits).wrB (smpSwShort q) short).wr (smpSwResult q) 1
  ((d.when_ short (fun d => d.ev (.smp q) 1)).ev (.smp q) 0, mem)

/-- The software transfer of port q that runs (R423). -/
def Dev.transferOn (d : Dev) (q : Nat) : Option Transfer := if (d.smpOf q).cur = some .transfer then (d.smpOf q).sw else none

/-- SW_TRANSFER_END (R425, R428). -/
def effSwEnd (q : Nat) (rx : List Nat) (t : Nat) (mem : Mem) (d : Dev) : Dev × Mem :=
  match d.transferOn q with
  | some x => d.swFinish q x.len rx t mem x
  | none => (d, mem)

/-- WATCH_RELEASE (R427): the watched select has gone to its inactive level after a number of sampled bits. -/
def effWatchRelease (q bits : Nat) (rx : List Nat) (t : Nat) (mem : Mem) (d : Dev) : Dev × Mem :=
  match d.transferOn q with
  | some x => if x.watch ∧ d.gpioPin x.watchPin = x.watchHigh ∧ bits < x.len then d.swFinish q bits rx t mem x else (d, mem)
  | none => (d, mem)

/-! ### Streams (R430 to R436) -/

/-- Bytes of an entry of a kind (R430). -/
def entryBytes (kind : Nat) : Nat := if kind = 1 then 24 else 16

/-- Entries of the list or ring of a stream. -/
def Stream.count (s : Stream) : Nat := if s.src = 1 ∨ s.kind = 3 then s.ring else s.len

/-- Pages of an external list (R431). -/
def Stream.pages (s : Stream) : Nat :=
  (s.count * entryBytes s.kind + pageData s.check - 1) / pageData s.check

/-- CLOSED, OPEN, BOUND or STOPPED (R443). -/
def Stream.state (s : Stream) : Nat :=
  if !s.isOpen then 0 else if s.stopped then 3 else if s.consumer.isSome then 2 else 1

/-- The frames of the pager's banks that are ON, lowest first. -/
def Dev.pagerFrames (d : Dev) : List Nat :=
  ((List.range 32).filter (fun b => d.owner b == 5 && d.rd (bnkPstate b) == 0)).flatMap
    (fun b => (List.range framesPerBank).map (fun i => framesPerBank * b + i))

/-- The free frames; the pager takes the lowest first (log entry 13). -/
def Dev.freeFrames (d : Dev) : List Nat :=
  let used := d.streams.flatMap (fun s => s.2.frames)
  d.pagerFrames.filter (fun f => !used.contains f)

/-- A stream command ends with a result. -/
def Dev.streamResult (d : Dev) (s r : Nat) : Dev :=
  (d.modStream s (fun x => { x with result := r })).when_ (decide (2 ≤ r)) (fun d => d.ev .pgr 2)

/-- Record 0x00A0 (R440). -/
def Dev.streamNote (d : Dev) (s opened kind t : Nat) : Dev := d.note t 5 5 s 0x00A0 (opened * 2 ^ 8 + kind * 2 ^ 6 + s)

/-- Why OPEN is refused with RANGE (R433, R437). -/
def Dev.openRange (d : Dev) (x : Stream) : Bool :=
  if x.src = 1 then x.kind == 3 || x.base % 4 != 0 || x.ring == 0
  else x.base % 4096 != 0 || x.count == 0 || !d.extOk x.base (4096 * x.pages)

/-- Frames that OPEN reserves (R433). -/
def Stream.need (x : Stream) : Nat :=
  if x.src = 1 then 0 else if x.replace = 1 ∧ x.kind ≠ 3 then x.pages else x.depth + 1

/-- OPEN: the stream of PGR_SEL is opened (R433). -/
def effOpen (t : Nat) (d : Dev) : Dev :=
  let s := d.rd pgrSel
  let x := d.stream s
  if x.isOpen ∨ x.kind = 0 then d.streamResult s 2
  else if d.openRange x then d.streamResult s 20
  else if d.freeFrames.length < x.need then d.streamResult s 15
  else
    let fr := d.freeFrames.take x.need
    let d := d.modStream s (fun x => { x with isOpen := true, stopped := false, consumer := none, frames := fr, held := [], words := [],
                                              from_ := 0, page := 0, tries := 0, next := 0, cause := 0, expWords := [],
                                              expAt := 4 * x.start, expFrame := 0, expAge := none, expDue := false, lostTick := 0 })
    ((d.syncFrames).streamResult s 1).streamNote s 1 x.kind t

/-- CLOSE (R433, R434). -/
def effClose (t : Nat) (d : Dev) : Dev :=
  let s := d.rd pgrSel
  let x := d.stream s
  if !x.isOpen ∨ x.consumer.isSome then d.streamResult s 2
  else
    let d := d.modStream s (fun x => { x with isOpen := false, stopped := false, frames := [], held := [], words := [], expWords := [],
                                              expAge := none, expDue := false })
    ((d.syncFrames).streamResult s 1).streamNote s 0 x.kind t

/-- RETRY (R436): the stream reads the failed page again; the binding is kept. -/
def effRetry (_t : Nat) (d : Dev) : Dev :=
  let s := d.rd pgrSel
  if !(d.stream s).stopped then d.streamResult s 2
  else (d.modStream s (fun x => { x with stopped := false, tries := 0 })).streamResult s 1

/-- The stream stops at a failed page (R435, R440): first entry that is not delivered, cause and record. -/
def Dev.streamStop (d : Dev) (s entry cause addr t : Nat) : Dev :=
  let d := d.modStream s (fun x => { x with stopped := true, cause := cause, errAddr := addr, tries := 0 })
  ((d.inc pgrStops).ev .pgr 1).note t 5 5 s 0x0090 (entry % 65536 * 2 ^ 16 + cause * 2 ^ 8 + s)

/-! ### Check words (R432) -/

/-- One byte of the CRC. -/
def crcByte (c v : Nat) : Nat := [7, 6, 5, 4, 3, 2, 1, 0].foldl (fun c i => crcBit c (bitAt v i)) c

/-- The CRC over the little-endian bytes of a list of words. -/
def crcWords (ws : List Nat) : Nat :=
  ws.foldl (fun c w => crcByte (crcByte (crcByte (crcByte c (w % 256)) (w / 256 % 256)) (w / 65536 % 256)) (w / 16777216 % 256)) 0xFFFFFFFF

/-- The check word of a page is good. -/
def pageGood (check : Nat) (ws : List Nat) : Bool := check != 1 || crcWords (ws.take 1023) == ws.getD 1023 0

/-! ### Page reads and delivery (R435) -/

/-- The page that holds the next byte the consumer takes. -/
def Stream.atPage (x : Stream) : Nat := x.next * entryBytes x.kind / pageData x.check

/-- The stream reads its next page (R433, R435): it has a frame free and reads at most DEPTH pages ahead. -/
def Stream.wantsPage (x : Stream) : Bool :=
  x.isOpen && !x.stopped && x.src == 0 && (x.kind == 1 || x.kind == 2) && decide (x.page < x.pages)
    && decide (x.held.length < x.frames.length) && decide (x.page ≤ x.atPage + x.depth)

/-- An attempt to read the next page of stream s has failed (R435): it is repeated up to RETRY times, then the stream stops. -/
def Dev.attemptFails (d : Dev) (s cause t : Nat) : Dev :=
  let x := d.stream s
  if x.tries < x.retry ∧ x.frames ≠ [] then
    ((d.modStream s (fun x => { x with tries := x.tries + 1 })).inc pgrRetries).ev .pgr 0
  else d.streamStop s (x.page * pageData x.check / entryBytes x.kind) cause (x.base + 4096 * x.page) t

/-- A page read of stream s ends with an error on its port. -/
def Dev.pageFail (d : Dev) (s cause t : Nat) : Dev :=
  let x := d.stream s
  let addr := x.base + 4096 * x.page
  let q := portOf addr
  (d.smpError q addr (if cause = 4 then 3 else cause)).attemptFails s cause t

/-- Page p of stream s, which had been read, is lost: it counts as read with an error of cause FRAME, and is read again with the
pages after it (R394, R401, R429, log entry 222). -/
def Dev.pageLost (d : Dev) (s p t : Nat) : Dev :=
  let d := d.modStream s (fun x =>
    let w := p * (pageData x.check / 4)
    { x with page := p, tries := if x.page = p then x.tries else 0, words := x.words.take (w - x.from_), held := x.held.filter (fun h => decide (h.2 < p)) })
  d.attemptFails s 3 t

/-- Byte address of a frame. -/
def frameAddr (f : Nat) : Nat := f / framesPerBank * bankSize + f % framesPerBank * 4096

/-- The frame that the next page of a stream goes to. -/
def Stream.fillFrame (x : Stream) : Nat := (x.frames.filter (fun f => !(x.held.map Prod.fst).contains f)).headD 0

/-- PAGER_PAGE_READ (R435): the read of the next page of stream s ends; the device sent 1,024 words, or, in 8D-8D-8D, no DQS edge
(R418). A read that the port has not begun does not end (R423). -/
def effPageRead (s : Nat) (dqs : Bool) (data : List Nat) (t : Nat) (mem : Mem) (d : Dev) : Dev × Mem :=
  let x := d.stream s
  let addr := x.base + 4096 * x.page
  let q := portOf addr
  if !x.wantsPage then (d, mem)
  else if !d.serves q || !d.extOk addr 4096 then (((d.inw pgrPageReads).portDrop q (.page s)).pageFail s 4 t, mem)
  else if (d.smpOf q).cur ≠ some (.page s) then (d, mem)
  else
    let d := (d.inw pgrPageReads).portDone q
    let ws := (List.range 1024).map (fun i => data.getD i 0 % 2 ^ 32)
    if dqs && d.on (smpHwMode q) then (d.pageFail s 2 t, mem)
    else if !pageGood x.check ws then (d.pageFail s 1 t, mem)
    else
      let f := x.fillFrame
      let pw := pageData x.check / 4
      let d := d.eccFill (f / framesPerBank) (f % framesPerBank * 1024) 1024
      (d.modStream s (fun x => { x with held := x.held ++ [(f, x.page)], words := x.words ++ ws.take pw, page := x.page + 1, tries := 0 }),
       mem.putWords (frameAddr f) ws)

/-- Drop what the consumer has passed from a CONSUME stream (R433). -/
def Stream.passed (x : Stream) : Stream :=
  if x.replace = 1 then x
  else
    let w := x.next * entryBytes x.kind / 4
    let pw := pageData x.check / 4
    { x with words := x.words.drop (w - x.from_), from_ := max x.from_ w, held := x.held.filter (fun h => decide (w < (h.2 + 1) * pw)) }

/-- Read the words of a ring entry as the pager (R431). -/
def Dev.ringEntry (d : Dev) (mem : Mem) (a n t : Nat) : Option (List Nat) × Dev :=
  match n with
  | 0 => (some [], d)
  | n + 1 =>
    let (x, d) := d.bankRead mem 5 a t
    let (xs, d) := Dev.ringEntry d mem (a + 4) n t
    (match x, xs with
     | some x, some xs => some (x :: xs)
     | _, _ => none, d)

/-- The next ring entry lies below PGR_S_WR; the counts wrap (R431). -/
def Stream.belowWr (x : Stream) : Bool := x.next != x.wr && decide (wrapTo 32 ((x.wr : Int) - x.next) < 2 ^ 31)

/-- Byte address of word w of the list in the frame that holds its page. -/
def Stream.frameWord (x : Stream) (w : Nat) : Option Nat :=
  let pw := pageData x.check / 4
  (x.held.find? (fun h => h.2 == w / pw)).map (fun h => frameAddr h.1 + 4 * (w % pw))

/-- Read n words of the list from word w on out of the frames, as the pager; the first page with an uncorrectable word, if any (R394). -/
def Dev.frameWords (d : Dev) (mem : Mem) (s t : Nat) : Nat → Nat → Option Nat × Dev
  | _, 0 => (none, d)
  | w, n + 1 =>
    let x := d.stream s
    match x.frameWord w with
    | none => Dev.frameWords d mem s t (w + 1) n
    | some a =>
      match d.bankRead mem 5 a t with
      | (some _, d) => Dev.frameWords d mem s t (w + 1) n
      | (none, d) => (some (w / (pageData x.check / 4)), d)

/-- Deliver the next entry of stream s to its consumer, when every byte of it is good (R431, R435). -/
def Dev.nextEntry (d : Dev) (mem : Mem) (s t : Nat) : Option (List Nat) × Dev :=
  let x := d.stream s
  let k := entryBytes x.kind / 4
  if !x.isOpen then (none, d)
  else if x.src = 1 then
    if x.stopped ∨ !x.belowWr then (none, d)
    else
      let a := x.base + 4 * k * (x.next % max x.ring 1)
      match d.ringEntry mem a k t with
      | (some ws, d) => (some ws, d.modStream s (fun x => { x with next := (x.next + 1) % 2 ^ 32, rd := (x.next + 1) % 2 ^ 32 }))
      | (none, d) => (none, (d.incBy pgrRetries x.retry).streamStop s x.next 3 a t)
  else
    let w := x.next * k
    if x.len ≤ x.next ∨ w < x.from_ ∨ x.from_ + x.words.length < w + k then (none, d)
    else
      let ws := (x.words.drop (w - x.from_)).take k
      match d.frameWords mem s t w k with
      | (some p, d) => (none, d.pageLost s p t)
      | (none, d) => (some ws, d.modStream s (fun x => ({ x with next := x.next + 1, rd := (x.rd + 1) % 2 ^ 32 } : Stream).passed))

/-- RING_WRITE: a write of PGR_S_WR (R431). -/
def effRingWrite (v : Nat) (_t : Nat) (d : Dev) : Dev := d.modStream (d.rd pgrSel) (fun x => { x with wr := v % 2 ^ 32 })

/-! ### Export (R437, R438, R441) -/

/-- Words that an export page carries. -/
def Stream.pageWords (x : Stream) : Nat := pageData x.check / 4

/-- The words of the ring. -/
def Stream.ringWords (x : Stream) : Nat := 4 * max x.ring 1

/-- The place of the next word in the ring. -/
def Stream.expPos (x : Stream) : Nat := x.expAt % x.ringWords

/-- The words from a place to the end of its page, or to the end of the ring. -/
def Stream.roomAt (x : Stream) (pos : Nat) : Nat := min (x.pageWords - pos % x.pageWords) (x.ringWords - pos)

/-- The frames that a number of words from a place of the ring on takes up, counted up to a bound. -/
def Stream.framesFor (x : Stream) : Nat → Nat → Nat → Nat
  | 0, _, _ => 0
  | k + 1, pos, len =>
    let room := x.roomAt pos
    if len ≤ room then 1 else 1 + Stream.framesFor x k ((pos + room) % x.ringWords) (len - room)

/-- Byte address of the i-th word that an export stream holds: its pages fill its frames in turn, a word at the place that it has in
its page (R437). -/
def Stream.exportSlot (x : Stream) : Nat → Nat → Nat → Nat → Nat
  | 0, _, _, _ => 0
  | k + 1, pos, frame, i =>
    let room := x.roomAt pos
    if i < room then frameAddr (x.frames.getD (frame % max x.frames.length 1) 0) + 4 * ((pos + i) % x.pageWords)
    else Stream.exportSlot x k ((pos + room) % x.ringWords) (frame + 1) (i - room)

/-- Store words as the next ones of an export stream, in its frames. -/
def Stream.exportPut (x : Stream) (mem : Mem) : Nat → List Nat → Mem
  | _, [] => mem
  | i, w :: ws => Stream.exportPut x (mem.putWord (x.exportSlot (x.frames.length + 1) x.expPos x.expFrame i) w) (i + 1) ws

/-- A chronograph entry reaches export stream s as it is written to bank 31 (R437, R438). -/
def Dev.exportTo (d : Dev) (mem : Mem) (ws : List Nat) (s : Nat) : Dev × Mem :=
  let x := d.stream s
  if x.kind ≠ 3 ∨ !x.isOpen then (d, mem)
  else if x.frames.length < x.framesFor (x.frames.length + 1) x.expPos (x.expWords.length + 4) then
    (((d.modStream s (fun x => { x with lostTick := x.lostTick + 1 })).inc pgrExpLost).ev .pgr 3, mem)
  else
    (d.modStream s (fun x => { x with expWords := x.expWords ++ ws, expAge := some (x.expAge.getD 0) }), x.exportPut mem x.expWords.length ws)

/-- A chronograph entry reaches the export streams of a list. -/
def Dev.exportEntry (d : Dev) (mem : Mem) (ws : List Nat) : List Nat → Dev × Mem
  | [] => (d, mem)
  | s :: rest =>
    let (d, mem) := d.exportTo mem ws s
    Dev.exportEntry d mem ws rest

/-- A full frame, or one that holds the end of the ring, waits to be written. -/
def Stream.fullFrame (x : Stream) : Bool := decide (x.roomAt x.expPos ≤ x.expWords.length)

/-- A boundary ages the partial frames and reports the entries lost in the tick (R437, R438). -/
def Dev.tickExport (d : Dev) (t : Nat) : Dev :=
  d.each (List.range 48) (fun s d =>
    let x := d.stream s
    if x.kind ≠ 3 ∨ !x.isOpen then d
    else
      let d := d.modStream s (fun x => { x with expAge := x.expAge.map (· + 1), lostTick := 0 })
      if x.lostTick = 0 then d else d.raise 0x5C01 s 5 (min x.lostTick 65535) t)

/-- EXPORT_FLUSH (R437): the FLUSH-th boundary after the first entry of a partial frame. -/
def effExportFlush (s : Nat) (_t : Nat) (d : Dev) : Dev :=
  let x := d.stream s
  match x.expAge with
  | some k => if x.flush ≤ k ∧ x.expWords ≠ [] then d.modStream s (fun x => { x with expDue := true }) else d
  | none => d

/-- The words of an export stream that wait to be written: those of its full frame, or of its flushed one (R437). -/
def Stream.exportWords (x : Stream) : Nat :=
  if x.kind ≠ 3 ∨ !x.isOpen ∨ !(x.fullFrame || x.expDue) then 0 else if x.fullFrame then x.roomAt x.expPos else x.expWords.length

/-- External address of the next export word. -/
def Stream.exportAddr (x : Stream) : Nat := x.base + 4096 * (x.expPos / x.pageWords) + 4 * (x.expPos % x.pageWords)

/-- The burst transactions that write n words at an external address (R419): WR_BURST bytes each, at addresses aligned to WR_BURST;
the check word goes with the last burst of its page (R437). -/
def Dev.exportOps (d : Dev) (x : Stream) : List BusOp :=
  let q := portOf x.exportAddr
  let size := 32 * 2 ^ d.rd (smpWrBurst q)
  let last := x.exportAddr + 4 * x.exportWords - 1 + (if x.check = 1 ∧ x.expPos % x.pageWords + x.exportWords = x.pageWords then 4 else 0)
  let first := x.exportAddr / size
  (List.range (last / size + 1 - first)).map (fun i => d.busOp q ((first + i) * size) size true)

/-- EXPORT_WRITE (R419, R437, R438): a full or flushed frame goes to external RAM; PGR_S_RD counts the entries written.
The answer holds what was written: the external address and the words. A write that the port has not begun does not end (R423);
one beyond the device makes no transaction and is a read error of its port (R416). -/
def effExportWrite (s : Nat) (_t : Nat) (d : Dev) : Dev :=
  let x := d.stream s
  let n := x.exportWords
  let q := portOf x.exportAddr
  if n = 0 ∨ !d.serves q then d
  else if !d.extOk x.exportAddr (4 * n) then ((d.smpError q x.exportAddr 3).portDrop q (.export_ s)).modStream s (fun x => { x with expDue := false })
  else if (d.smpOf q).cur ≠ some (.export_ s) then d
  else
    let at1 := x.expAt + n
    let ws := x.expWords.take n
    let d := (d.portDone q).modStream s (fun x =>
      { x with expWords := x.expWords.drop n, expAt := at1, expDue := false, expFrame := if x.fullFrame then x.expFrame + 1 else x.expFrame, expAge := if x.expWords.length ≤ n then none else some 0,
               rd := (x.rd + (at1 / 4 - x.expAt / 4)) % 2 ^ 32 })
    { d with answer := some { result := 0, data := x.exportAddr :: ws } }

/-! ### The service order of a port (R423) -/

/-- The next page read of stream s is one for port q. -/
def Dev.pageWanted (d : Dev) (q s : Nat) : Bool :=
  let x := d.stream s
  let addr := x.base + 4096 * x.page
  x.wantsPage && portOf addr == q && d.extOk addr 4096

/-- Stream s is urgent: its buffered entries ahead of its consumer cover less than one page (R423). -/
def Stream.urgent (x : Stream) : Bool :=
  decide (x.from_ + x.words.length < x.next * (entryBytes x.kind / 4) + pageData x.check / 4)

/-- An export write of stream s waits for port q (R419, R441). -/
def Dev.exportWanted (d : Dev) (q s : Nat) : Bool :=
  let x := d.stream s
  x.exportWords != 0 && portOf x.exportAddr == q && d.extOk x.exportAddr (4 * x.exportWords)

/-- The first pending item of port q (R423). -/
def Dev.firstItem (d : Dev) (q : Nat) : Option PortItem :=
  let p := d.smpOf q
  let streams := List.range 48
  let round := streams.map (fun i => (p.last + 1 + i) % 48)
  let urgent := (streams.find? (fun s => d.pageWanted q s && (d.stream s).urgent)).map PortItem.page
  let line := p.fetches.head?.map PortItem.fetch
  let sw := if p.sw.isSome then some PortItem.transfer else none
  let rest := (round.find? (fun s => d.pageWanted q s || (d.on (smpHwWrite q) && d.exportWanted q s))).map
    (fun s => if d.pageWanted q s then PortItem.page s else PortItem.export_ s)
  urgent.orElse (fun _ => line.orElse (fun _ => sw.orElse (fun _ => rest)))

/-- The item of a running transaction is still there. -/
def Dev.itemStands (d : Dev) (q : Nat) (i : PortItem) : Bool :=
  match i with
  | .page s => d.serves q && d.pageWanted q s
  | .fetch l => d.serves q && (d.smpOf q).fetches.contains l
  | .transfer => (d.smpOf q).sw.isSome
  | .export_ s => d.serves q && d.exportWanted q s

/-- The transaction of an item begins: line buffers become invalid at a software transfer and at a hardware write (R421). -/
def Dev.beginItem (d : Dev) (q : Nat) (i : PortItem) : Dev :=
  let set := fun (f : SerialPort → SerialPort) => d.modSmp q (fun p => f { p with cur := some i })
  match i with
  | .page s =>
    let x := d.stream s
    set (fun p => { p with last := s, ops := [d.busOp q (x.base + 4096 * x.page) 4096 false] })
  | .fetch l => set (fun p => { p with ops := [d.busOp q l 32 false] })
  | .transfer => set (fun p => { p with lines := [], sw := p.sw.map (fun x => { x with since := some d.now }) })
  | .export_ s => set (fun p => { p with last := s, lines := [], ops := d.exportOps (d.stream s) })

/-- Port q goes on (R422, R423): while no transaction runs, the first pending item begins. -/
def Dev.servePort (d : Dev) (q : Nat) : Dev :=
  match (d.smpOf q).cur.filter (d.itemStands q) with
  | some _ => d
  | none =>
    match if d.serves q then d.firstItem q else none with
    | some i => d.beginItem q i
    | none => d.portDone q

/-- Both ports go on. -/
def Dev.servedPorts (d : Dev) : Tab Nat SerialPort := (d.each (List.range 2) (fun q d => d.servePort q)).smps

/-- SMq_CS0 is low: a hardware transaction runs, or a software transfer that selects it (R418, R426). -/
def Dev.cs0Low (d : Dev) (q : Nat) : Bool :=
  match (d.smpOf q).cur with
  | some .transfer => (d.smpOf q).sw.any (fun x => x.cs0)
  | some _ => true
  | none => false

/-- HW_BUSY: a hardware transaction runs (R442). -/
def Dev.hwBusy (d : Dev) (q : Nat) : Bool := (d.smpOf q).cur.any (fun i => i != .transfer)

end Sys2Proof.Machine
end

