-- ==== Sys2Proof/Machine/Planner.lean ====
section
/-! DEFINITION. The arithmetic of the profile generator: S-ramps, plans and their evaluation in closed form (R311 to
R315), and the cubic of the ephemeris interpolator (R318). A state holds its position in 2^-32 counts, its velocity in 2^-32
counts/s and its acceleration in 2^-32 counts/s². The speeds and lengths inside a plan are in 2^-48 counts/s and 2^-48 counts, and
times in 2^-40 ns, so that a whole number of nanoseconds is exact. -/
namespace Sys2Proof.Machine

/-- The three limits of R311: V in 2^-48 counts/s, A in counts/s², J in counts/s³. -/
structure Lim where
  /-- V. -/
  v : Nat
  /-- A. -/
  a : Nat
  /-- J. -/
  j : Nat
deriving DecidableEq, Repr

/-- One second, in 2^-40 ns. -/
def secTu : Nat := 1000000000 * 2 ^ 40

/-- Nanoseconds in 2^-40 ns. -/
def toTu (ns : Nat) : Nat := ns * 2 ^ 40

/-- The velocity change needs the acceleration limit: dv ≥ A²/J (R311). -/
def Lim.longRamp (l : Lim) (dv : Nat) : Bool := decide (l.a * l.a * 2 ^ 48 ≤ dv * l.j)

/-- T1 of an S-ramp over dv: the time of each jerk phase. -/
def Lim.jerkTime (l : Lim) (dv : Nat) : Nat :=
  if l.longRamp dv then l.a * secTu / l.j else isqrt (dv * secTu * secTu / (l.j * 2 ^ 48))

/-- T2 of an S-ramp over dv: the time at the acceleration limit. -/
def Lim.flatTime (l : Lim) (dv : Nat) : Nat :=
  if l.longRamp dv then dv * secTu / (l.a * 2 ^ 48) - l.a * secTu / l.j else 0

/-- T_r(u, w) of R311. -/
def Lim.rampTime (l : Lim) (dv : Nat) : Nat := 2 * l.jerkTime dv + l.flatTime dv

/-- S(u, w) of R311, in 2^-48 counts. -/
def Lim.rampLen (l : Lim) (u w : Nat) : Nat := (u + w) * l.rampTime (max u w - min u w) / 2 / secTu

/-- The length of a move that starts at speed u, reaches v and ends at rest. -/
def Lim.moveLen (l : Lim) (u v : Nat) : Nat := l.rampLen u v + l.rampLen v 0

/-- Bisection for the largest v in [lo, hi) with moveLen u v ≤ d; lo satisfies it and hi does not. -/
def Lim.bisect (l : Lim) (u d : Nat) : Nat → Nat → Nat → Nat
  | 0, lo, _ => lo
  | fuel + 1, lo, hi =>
    let mid := (lo + hi) / 2
    if mid ≤ lo then lo
    else if l.moveLen u mid ≤ d then Lim.bisect l u d fuel mid hi else Lim.bisect l u d fuel lo mid

/-- v_p: the largest v ≤ V with S(u, v) + S(v, 0) ≤ d, when there is one (R311, R313). -/
def Lim.peak (l : Lim) (u d : Nat) : Option Nat :=
  let lo := if u ≤ l.v then u else 0
  if l.moveLen u l.v ≤ d then some l.v
  else if l.moveLen u lo ≤ d then some (l.bisect u d 80 lo l.v)
  else none

/-- The segments of an S-ramp over a signed velocity change, numbered from phase ph on. -/
def Lim.ramp (l : Lim) (dv : Int) (ph : Nat) : List Seg :=
  let j := signOf dv * l.j
  let t1 := l.jerkTime dv.natAbs
  [⟨t1, j, ph⟩, ⟨l.flatTime dv.natAbs, 0, ph + 1⟩, ⟨t1, -j, ph + 2⟩]

/-- The move of R311 from rest over a signed distance, in 2^-48 counts. -/
def Lim.fromRest (l : Lim) (dist : Int) : List Seg :=
  let s := signOf dist
  let vp := (l.peak 0 dist.natAbs).getD 0
  let cruise := if vp = 0 then 0 else (dist.natAbs - l.moveLen 0 vp) * secTu / vp
  if dist = 0 then [] else l.ramp (s * vp) 1 ++ [⟨cruise, 0, 4⟩] ++ l.ramp (-(s * vp)) 5

/-- Position, velocity and acceleration. -/
structure Kin where
  /-- Position. -/
  p : Int
  /-- Velocity. -/
  v : Int
  /-- Acceleration. -/
  a : Int
deriving DecidableEq, Repr

/-- The state after constant jerk j for a time τ, in closed form. -/
def Kin.after (s : Kin) (j : Int) (tau : Nat) : Kin :=
  let t : Int := tau
  let u : Int := secTu
  { p := s.p + divRound (6 * s.v * t * u ^ 2 + 3 * s.a * t ^ 2 * u + j * t ^ 3 * 2 ^ 32) (6 * u ^ 3),
    v := s.v + divRound (2 * s.a * t * u + j * t ^ 2 * 2 ^ 32) (2 * u ^ 2),
    a := s.a + divRound (j * t * 2 ^ 32) u }

/-- The segment of R313's phase 0: it brings the acceleration to 0. It counts as the end of the equivalent ramp: phase 3
when the speed grows in it, 7 when it falls. -/
def Lim.phase0 (l : Lim) (s : Kin) : Seg :=
  ⟨s.a.natAbs * secTu / (l.j * 2 ^ 32), -(signOf s.a) * l.j, if signOf s.a = signOf s.v then 3 else 7⟩

/-- The state with the acceleration at 0 after phase 0. -/
def Lim.flat (l : Lim) (s : Kin) : Kin :=
  if s.a = 0 then s else { s.after (-(signOf s.a) * l.j) (l.phase0 s).dur with a := 0 }

/-- Phase 0, when the acceleration is not 0. -/
def Lim.lead (l : Lim) (s : Kin) : List Seg := if s.a = 0 then [] else [l.phase0 s]

/-- The plan of R311 or R313 from a state to a target position. -/
def Lim.plan (l : Lim) (s : Kin) (target : Int) : List Seg :=
  let s1 := l.flat s
  let dist := (target - s1.p) * 2 ^ 16
  let v1 := s1.v * 2 ^ 16
  if v1 = 0 then l.lead s ++ l.fromRest dist
  else
    let dir := signOf v1
    let u := v1.natAbs
    let d1 := dist * dir
    let vp := if d1 < 0 then none else l.peak u d1.toNat
    match vp with
    | some v =>
      let cruise := if v = 0 then 0 else (d1.toNat - l.moveLen u v) * secTu / v
      l.lead s ++ l.ramp (dir * v - v1) 1 ++ [⟨cruise, 0, 4⟩] ++ l.ramp (-(dir * v)) 5
    | none =>
      l.lead s ++ l.ramp (-v1) 5 ++ l.fromRest (dist - dir * l.rampLen u 0)

/-- The stopping point of R314, in Q48.16 counts. -/
def Lim.stopPoint (l : Lim) (s : Kin) : Int :=
  let s1 := l.flat s
  divRound (s1.p * 2 ^ 16 + signOf s1.v * l.rampLen (s1.v.natAbs * 2 ^ 16) 0) (2 ^ 32)

/-- The segments of the S-ramp to rest of R314. -/
def Lim.haltSegs (l : Lim) (s : Kin) : List Seg := l.lead s ++ l.ramp (-((l.flat s).v * 2 ^ 16)) 5

/-- The minimum-time velocity trajectory of R315 from (v, a) to (target, 0) under |a| ≤ A and |jerk| ≤ J: the jerk that leads to
the peak acceleration, the time at A, and the jerk back to 0. All along the direction of the change, in which the acceleration
a0 can be opposed and the change dv negative; an acceleration beyond a lowered A comes down to it first. -/
def Lim.velPlan (l : Lim) (s : Kin) (target : Int) : List Seg :=
  let jerk2 : Int := 2 * l.j * 2 ^ 32
  let delta := target - (s.v + divRound (s.a * s.a.natAbs) jerk2)
  if delta = 0 then l.lead s
  else
    let dir := signOf delta
    let a0 := dir * s.a
    let dv := (target - s.v) * dir
    let top : Int := l.a * 2 ^ 32
    let ap : Int := min top (isqrt ((jerk2 * dv + a0 * a0) / 2).toNat)
    let first := if a0 ≤ ap then ap * ap - a0 * a0 else a0 * a0 - ap * ap
    let rest := dv - divRound (first + ap * ap) jerk2
    let flat := if ap < top then 0 else rest.toNat * secTu / top.toNat
    [⟨(ap - a0).natAbs * secTu / (l.j * 2 ^ 32), dir * signOf (ap - a0) * l.j, 1⟩, ⟨flat, 0, 2⟩,
     ⟨ap.toNat * secTu / (l.j * 2 ^ 32), -dir * l.j, 3⟩]

/-- The whole time of a list of segments. -/
def segTime (l : List Seg) : Nat := l.foldl (fun t s => t + s.dur) 0

/-- The state and the phase at a time inside a list of segments; none at or after its end. -/
def segAt : List Seg → Kin → Nat → Option (Kin × Nat)
  | [], _, _ => none
  | g :: gs, s, tau => if tau < g.dur then some (s.after g.jerk tau, g.ph) else segAt gs (s.after g.jerk g.dur) (tau - g.dur)

/-- The start state of a plan. -/
def Plan.start (q : Plan) : Kin := ⟨q.p0, q.v0, q.a0⟩

/-- State and phase of a plan at boundary b; none at or after its end. -/
def Plan.at_ (q : Plan) (b : Nat) : Option (Kin × Nat) := segAt q.segs q.start (toTu (b - q.t0))

/-- PRF_T_LEFT: whole ticks to the first boundary at or after the end (R312). -/
def Plan.left (q : Plan) (b tick : Nat) : Nat :=
  let rest := segTime q.segs - toTu (b - q.t0)
  if rest = 0 then 0 else (rest + toTu tick - 1) / toTu tick

/-- The cubic Hermite segment of R318 at k of D, over a length of T ns. -/
def hermite (p0 v0 p1 v1 : Int) (k dur len : Nat) : Kin :=
  let k : Int := k
  let d : Int := dur
  let g : Int := 1000000000
  let t : Int := len
  { p := divRound (((2 * k ^ 3 - 3 * k ^ 2 * d + d ^ 3) * p0 + (3 * k ^ 2 * d - 2 * k ^ 3) * p1) * g
            + ((k ^ 3 - 2 * k ^ 2 * d + k * d ^ 2) * v0 + (k ^ 3 - k ^ 2 * d) * v1) * t) (d ^ 3 * g),
    v := divRound ((6 * k ^ 2 - 6 * k * d) * (p0 - p1) * g
            + ((3 * k ^ 2 - 4 * k * d + d ^ 2) * v0 + (3 * k ^ 2 - 2 * k * d) * v1) * t) (d ^ 2 * t),
    a := divRound (((12 * k - 6 * d) * (p0 - p1) * g + ((6 * k - 4 * d) * v0 + (6 * k - 2 * d) * v1) * t) * g) (d * t * t) }

end Sys2Proof.Machine
end

