-- ==== Sys2Proof/Machine/Profile.lean ====
section
/-! DEFINITION. The profile generator, the ephemeris interpolator and the curve block (R306 to R332). -/
namespace Sys2Proof.Machine

/-! ### Results of PRF_CMD (R334) -/

/-- Applied. -/
def prfApplied : Nat := 1
/-- BUSY. -/
def prfBusy : Nat := 3

/-- The limits in effect of axis n (R311). -/
def Dev.lims (d : Dev) (n : Nat) : Lim :=
  { v := (d.rdS (prfVMax n)).toNat * 2 ^ 44, a := (d.rdS (prfAMax n)).toNat, j := 16 * (d.rdS (prfJMax n)).toNat }

/-- PRF_A_MAX and PRF_J_MAX are above 0. -/
def Dev.canRamp (d : Dev) (n : Nat) : Bool := decide (0 < d.rdS (prfAMax n)) && decide (0 < d.rdS (prfJMax n))

/-- The tick period in ns (R27). -/
def Dev.tickNs (d : Dev) : Nat := 5 * d.rd timeTickPeriod

/-- The generator's state. -/
def Dev.kin (d : Dev) (n : Nat) : Kin := let g := d.prof n; ⟨g.p, g.v, g.a⟩

/-- Set the generator's state. -/
def Dev.setKin (d : Dev) (n : Nat) (k : Kin) : Dev := d.modProf n (fun g => { g with p := k.p, v := k.v, a := k.a })

/-- Write the generator's outputs to PRF_P, PRF_V and PRF_A, rounded to their formats (R306, R312). -/
def Dev.genOut (d : Dev) (n : Nat) (k : Kin) : Dev :=
  ((d.wrS (prfP n) (divRound k.p (2 ^ 16))).wrSat (prfV n) (divRound k.v (2 ^ 28))).wrSat (prfA n) (divRound k.a (2 ^ 32))

/-- PRF_P reads p_fb (R306, R325). -/
def Dev.genFb (d : Dev) (n : Nat) (v a : Int) : Dev :=
  ((d.wrS (prfP n) (d.pFb n * 65536)).wrSat (prfV n) (divRound v (2 ^ 28))).wrSat (prfA n) (divRound a (2 ^ 32))

/-- A new plan is in execution: MOVING, the phase it begins with, and the ticks to its end (R312, R313). -/
def Dev.setPlan (d : Dev) (n b : Nat) (k : Kin) (segs : List Seg) (target : Int) : Dev :=
  let q : Plan := { t0 := b, p0 := k.p, v0 := k.v, a0 := k.a, segs := segs, target := target }
  let d := d.modProf n (fun g => { g with plan := some q, replan := false })
  let d := (d.wr (prfPhase n) (((q.at_ b).map (·.2)).getD 0)).wr (prfTLeft n) (q.left b d.tickNs)
  (d.wr (prfMoving n) 1).wr (prfAtTarget n) 0

/-- The end of a move (R312): the target exactly, the event DONE and AT_TARGET. -/
def Dev.planDone (d : Dev) (n : Nat) : Dev :=
  let target := ((d.prof n).plan.map (·.target)).getD 0
  let d := d.modProf n (fun g => { g with plan := none, p := target * 2 ^ 16, v := 0, a := 0 })
  ((((d.wr (prfMoving n) 0).wr (prfPhase n) 0).wr (prfTLeft n) 0).wr (prfAtTarget n) 1).ev (.prf n) 0

/-- A plan that is empty ends at its boundary (R311). -/
def Dev.endIfEmpty (d : Dev) (n b : Nat) : Dev :=
  match (d.prof n).plan with
  | some q => if (q.at_ b).isNone then d.planDone n else d
  | none => d

/-- Plan or replan to the active target at boundary b (R310, R313); a replan is counted. -/
def Dev.planTo (d : Dev) (n b : Nat) (target : Int) (count : Bool) : Dev :=
  let moving := (d.prof n).plan.isSome
  let k := d.kin n
  let d := d.wrS (prfTgtAct n) target
  let d := d.setPlan n b k ((d.lims n).plan k (target * 2 ^ 16)) target
  (d.when_ (moving && count) (fun d => d.inw (prfReplans n))).endIfEmpty n b

/-- HALT in a position mode (R314): the target is the stopping point of the ramp to rest. With a limit of 0, which only
EPH_ABORT can meet, the generator holds its position (log entry 12). -/
def Dev.haltAt (d : Dev) (n b : Nat) : Dev :=
  let k := d.kin n
  if d.canRamp n then
    let l := d.lims n
    let target := l.stopPoint k
    let d := (d.wrS (prfTgtAct n) target).inw (prfReplans n)
    (d.setPlan n b k (l.haltSegs k) target).endIfEmpty n b
  else
    let d := d.setKin n ⟨k.p, 0, 0⟩
    d.wrS (prfTgtAct n) (divRound k.p (2 ^ 16))

/-- Advance the plan in execution to boundary b (R312). -/
def Dev.runPlan (d : Dev) (n b : Nat) : Dev :=
  match (d.prof n).plan with
  | none => d
  | some q =>
    match q.at_ b with
    | some (k, ph) => ((d.setKin n k).wr (prfPhase n) ph).wr (prfTLeft n) (q.left b d.tickNs)
    | none => d.planDone n

/-! ### The speed in the start phases (R309) -/

/-- The speed of the angle in use during a start phase, in 2^-32 counts/s: f_f × E in RAMP and BLEND, the speed of θ_h in
HFI, 0 in ALIGN and POLARITY. -/
def Dev.startSpeed (d : Dev) (n : Nat) : Int :=
  let e : Int := d.rd (focEcounts n)
  match d.phase n with
  | 3 => d.rdS (obsFF n) * e * 2 ^ 16
  | 6 => if (d.ax n).blendHfi then countsOf (d.ax n).wH e * 2 ^ 28 else d.rdS (obsFF n) * e * 2 ^ 16
  | 5 => countsOf (d.ax n).wH e * 2 ^ 28
  | _ => 0

/-- R309 acts. -/
def Dev.starting (d : Dev) (n : Nat) : Bool := d.st n == stRun && decide (2 ≤ d.phase n) && decide (d.phase n ≤ 6)

/-! ### The state at entry into RUN (R308) -/

/-- Velocity of the generator at an entry into RUN: from a FORWARD catch ω_c × E / 2π, on a sensored axis the speed of
COMM_PORT, 0 otherwise. -/
def Dev.entrySpeed (d : Dev) (n : Nat) : Int :=
  match d.phase n, (d.ax n).sync with
  | 7, some (_, w, _, _, _) => countsOf w (d.rd (focEcounts n)) * 2 ^ 28
  | _, _ => if d.sensored n then (d.ax n).snap.speed * 2 ^ 28 else 0

/-- Take the state of R308 at the first boundary in RUN. -/
def Dev.genEntry (d : Dev) (n : Nat) : Dev :=
  if !(d.prof n).init then d
  else
    let d := d.modProf n (fun g => { g with init := false })
    if d.posMode n then
      let p := d.pFb n * 65536
      (d.setKin n ⟨p * 65536, 0, 0⟩).wrS (prfTgtAct n) p
    else d.setKin n ⟨d.pFb n * 2 ^ 32, d.entrySpeed n, 0⟩

/-! ### SPEED (R315) -/

/-- The velocity target of SPEED, in 2^-32 counts/s. -/
def Dev.speedTarget (d : Dev) (n : Nat) : Int :=
  let top : Int := ((d.rdS (prfVMax n)).toNat : Nat)
  if (d.prof n).halted then 0 else clampInt (-top) top (d.rdS (prfVTarget n)) * 2 ^ 28

/-- The generator in SPEED at boundary b: outputs of the trajectory in execution, then the trajectory of a new target or
limit from the state at b. -/
def Dev.runSpeed (d : Dev) (n b : Nat) : Dev :=
  if !d.canRamp n then
    let d := d.modProf n (fun g => { g with plan := none, a := 0 })
    (d.wr (prfMoving n) 0).wr (prfPhase n) 0
  else
    let d :=
      match (d.prof n).plan with
      | none => d
      | some q =>
        match q.at_ b with
        | some (k, ph) => ((d.modProf n (fun g => { g with v := k.v, a := k.a })).wr (prfPhase n) ph).wr (prfTLeft n) (q.left b d.tickNs)
        | none =>
          let d := d.modProf n (fun g => { g with plan := none, v := q.target, a := 0 })
          ((d.wr (prfMoving n) 0).wr (prfPhase n) 0).wr (prfTLeft n) 0
    let target := d.speedTarget n
    let k := d.kin n
    let same := match (d.prof n).plan with
      | some q => q.target == target && !(d.prof n).replan
      | none => k.v == target && k.a == 0
    if same then d.modProf n (fun g => { g with replan := false })
    else d.setPlan n b k ((d.lims n).velPlan k target) target

/-! ### The ephemeris interpolator (R316 to R324) -/

/-- An entry is invalid (R317). -/
def Dev.ephBad (d : Dev) (n : Nat) (e : EphEntry) : Bool :=
  e.dur == 0 || decide (8 ≤ e.flags) || decide (e.pos < d.rdS (prfLimLo n)) || decide (d.rdS (prfLimHi n) < e.pos)
    || ((bitAt e.flags 0 || bitAt e.flags 2) && e.vel != 0)

/-- The axis gives up its stream at the end or abort of its list (R434). -/
def Dev.unbind (d : Dev) (n : Nat) : Dev :=
  match (d.prof n).stream with
  | none => d
  | some s => (d.modStream s (fun x => { x with consumer := none })).modProf n (fun g => { g with stream := none, buf := [] })

/-- The bound stream was stopped by a read error. -/
def Dev.ephStopped (d : Dev) (n : Nat) : Bool :=
  match (d.prof n).stream with
  | some s => (d.stream s).stopped
  | none => false

/-- The axis's ephemeris goes into ERROR (R321): fault 0x1901 with its cause, or 0x1902; p_cmd advances at v1. -/
def Dev.ephFail (d : Dev) (n b cause : Nat) : Dev :=
  let d := ((d.wr (prfEphState n) 8).wr (prfEphErr n) cause).ev (.prf n) 7
  let d := d.modProf n (fun g => { g with a := 0 })
  let idx := d.rd (prfEphIdx n) % 2 ^ 24 * 256
  if cause = 3 then d.raise 0x1902 n 9 idx b else d.raise 0x1901 n 9 (idx + cause) b

/-- The list starves (R321): p_cmd holds until the entry is available. -/
def Dev.ephStarve (d : Dev) (n : Nat) : Dev :=
  let d := d.modProf n (fun g => { g with v := 0, a := 0 })
  if d.rd (prfEphState n) = 4 then d else (d.wr (prfEphState n) 4).ev (.prf n) 4

/-- The entry at EPH_IDX starts at boundary b from the generator's state (R318); as a replacement cubic after a resume
(R323). -/
def Dev.ephStart (d : Dev) (n : Nat) (e : EphEntry) : Dev :=
  let g := d.prof n
  let ran := if g.resume then d.rd (prfEphK n) else 0
  let dur := if g.resume then max (e.dur - ran) (d.rd (prfEphResumeMin n)) else e.dur
  let d := d.modProf n (fun g => { g with p0 := g.p, v0 := g.v, dur := dur, len := dur * d.tickNs, k := 0, k0 := ran,
                                          resume := false, waitCmd := false })
  ((d.wr (prfEphState n) 2).wr (prfEphTag n) e.tag).wr (prfEphK n) ran

/-- The interpolator takes over from a plan that is still in execution, such as the HALT of EPH_ABORT (R319, R324). -/
def Dev.dropPlan (d : Dev) (n : Nat) : Dev :=
  if (d.prof n).plan.isNone then d
  else (((d.modProf n (fun g => { g with plan := none })).wr (prfMoving n) 0).wr (prfPhase n) 0).wr (prfTLeft n) 0

/-- The next entry is due at boundary b (R320, R321). -/
def Dev.ephNext (d : Dev) (n b : Nat) : Dev :=
  let d := d.dropPlan n
  match (d.prof n).buf with
  | e :: _ =>
    if e.at_ + 1000 ≤ b then (if e.bad then d.ephFail n b 3 else d.ephStart n e)
    else if (d.prof n).v = 0 then d.ephStarve n
    else d.ephFail n b 1
  | [] =>
    if (d.prof n).v = 0 then d.ephStarve n
    else d.ephFail n b (if d.ephStopped n then 2 else 1)

/-- The entry in execution reaches its end at boundary b (R318, R320): it is executed, and its flags act. -/
def Dev.ephEnd (d : Dev) (n b : Nat) (e : EphEntry) : Dev :=
  let d := (d.inw (prfEphDone n)).inw (prfEphIdx n)
  let d := (d.wr (prfEphK n) 0).modProf n (fun g => { g with buf := g.buf.drop 1 })
  let d := d.wr (prfEphTag n) (((d.prof n).buf.head?.map (·.tag)).getD (d.rd (prfEphTag n)))
  let d := d.when_ (bitAt e.flags 1) (fun d => (d.wr (prfEphTagEvt n) e.tag).ev (.prf n) 1)
  if bitAt e.flags 0 then ((d.wr (prfEphState n) 6).ev (.prf n) 2).unbind n
  else if bitAt e.flags 2 then (d.wr (prfEphState n) 3).ev (.prf n) 3
  else if (d.ax n).holdPend then (d.modProf n (fun g => { g with waitCmd := true })).ephStarve n
  else d.ephNext n b

/-- System time at device time b (R44). -/
def Dev.sysTime (d : Dev) (b : Nat) : Int := (b : Int) + d.rdS timeTimeOffset

/-- The interpolator at boundary b in RUN. -/
def Dev.runEph (d : Dev) (n b : Nat) : Dev :=
  let g := d.prof n
  match d.rd (prfEphState n) with
  | 1 => if !d.on (axbFrozen n) && decide ((d.rd (prfEphStartT n) : Int) ≤ d.sysTime b) then d.ephNext n b else d
  | 2 =>
    match g.buf with
    | [] => d
    | e :: _ =>
      let k := g.k + 1
      let s := hermite g.p0 g.v0 (e.pos * 2 ^ 16) (e.vel * 2 ^ 28) k g.dur g.len
      let d := (d.modProf n (fun g => { g with k := k })).wr (prfEphK n) (min (g.k0 + k) (2 ^ 24 - 1))
      if g.dur ≤ k then (d.setKin n ⟨e.pos * 2 ^ 16, e.vel * 2 ^ 28, s.a⟩).ephEnd n b e else d.setKin n s
  | 4 =>
    if g.waitCmd || d.on (axbFrozen n) then d
    else
      match g.buf with
      | e :: _ => if e.at_ + 1000 ≤ b then d.ephNext n b else d
      | [] => d
  | 8 => d.modProf n (fun g => { g with p := g.p + divRound (g.v * d.tickNs) 1000000000, a := 0 })
  | _ => d.modProf n (fun g => if g.plan.isNone then { g with v := 0, a := 0 } else g)

/-! ### The stop ramp (R297, R325) -/

/-- The reference of the stop ramp at boundary b, in Q28.4 counts/s: the start value at the first stop boundary, then
SUP_STOP_DEC × NV × T_tick towards 0 at each boundary at which the velocity program is due. In TORQUE it starts from the
speed feedback of the first stop boundary, and so does the filter state v_f. -/
def Dev.stopRamp (d : Dev) (n j : Nat) : Dev :=
  let a := d.ax n
  if a.stopInit then
    if d.mode n == 1 then (d.modAx n (fun a => { a with stopInit := false, stopRef := d.vFb n })).wrSat (motVFb n) (d.vFb n)
    else d.modAx n (fun a => { a with stopInit := false })
  else if d.velDue n j then
    let step := divRound (d.rd (supStopDec n) * d.nv_ n * d.tickNs * 16) 1000000000
    d.modAx n (fun a => { a with stopRef := if (a.stopRef.natAbs : Int) ≤ step then 0 else a.stopRef - signOf a.stopRef * step })
  else d

/-- A COMM_PORT velocity (Q28.4) in 2^-32 POS_PORT counts/s, through MOT_PV_RATIO. -/
def Dev.toPosVel (d : Dev) (n : Nat) (v : Int) : Int :=
  if d.rdS (motPvRatio n) = 0 then 0 else divRound (v * 2 ^ 44) (d.rdS (motPvRatio n))

/-- The generator in STOPPING (R325). -/
def Dev.runStop (d : Dev) (n j : Nat) : Dev :=
  let first := (d.ax n).stopInit
  let before := (d.ax n).stopRef
  let d := d.stopRamp n j
  let r := (d.ax n).stopRef
  let slope : Int := if r = before ∧ !first then 0 else -(signOf before) * (d.rd (supStopDec n) : Int)
  let rate := if r = 0 ∨ first then 0 else slope
  if d.posMode n then
    let v := d.toPosVel n r
    let a := d.toPosVel n (rate * 16)
    let d := d.modProf n (fun g => { g with p := if first then g.p else g.p + divRound (v * d.tickNs) 1000000000, v := v, a := a })
    (d.genOut n (d.kin n)).wr (prfTgtAct n) ((d.genOut n (d.kin n)).rd (prfP n))
  else
    let d := d.modProf n (fun g => { g with v := r * 2 ^ 28, a := 0 })
    let d := d.genFb n (r * 2 ^ 28) (rate * 2 ^ 32)
    (d.wr (prfTgtAct n) (d.rd (prfP n))).when_ (d.mode n == 0) (fun d => d.wrSat (crvV n) r)

/-! ### The curve (R326 to R332) -/

/-- The points of the table in use, (x, y). -/
def Dev.curvePoints (d : Dev) (n : Nat) : List (Int × Int) :=
  (List.range (d.rd (crvNpts n))).map (fun i => (d.rdS (crvX n i), d.rdS (crvY n i)))

/-- The table speed of R327, Q28.4 counts/s; rounded towards zero. -/
def curveSpeed (x : Int) : List (Int × Int) → Int
  | [] => 0
  | [q] => q.2
  | q :: r :: rest =>
    if x ≤ q.1 then q.2
    else if x < r.1 then Int.tdiv (q.2 * (r.1 - q.1) + (x - q.1) * (r.2 - q.2)) (r.1 - q.1)
    else curveSpeed x (r :: rest)

/-- A curve input value arrives (R326). -/
def Dev.curveInput (d : Dev) (n : Nat) (x : Int) : Dev := d.modProf n (fun g => { g with fresh := true, x := x })

/-- The curve block at a boundary in CURVE: input, staleness, state and target (R328, R330, R332). -/
def Dev.evalCurve (d : Dev) (n : Nat) : Dev :=
  if d.mode n != 0 then d
  else
    let g := d.prof n
    let d := if g.fresh then ((d.wr (crvStale n) 0).wrS (crvIn n) g.x).modProf n (fun g => { g with fresh := false, staleRun := 0 })
             else d.modProf n (fun g => { g with staleRun := g.staleRun + 1 })
    let x := d.rdS (crvIn n)
    let was := d.on (crvOn n)
    let isOn :=
      if d.st n == stOff || d.st n == stFault || d.st n == stService || d.on (crvStale n) then false
      else if d.rdS (crvInOn n) ≤ x then true
      else if x ≤ d.rdS (crvInOff n) then false
      else was
    let d := d.wrB (crvOn n) isOn
    let d := d.when_ (isOn && !was) (fun d => (d.ev (.crv n) 0).when_ (!d.inScope n) (fun d => d.wr (axbFrozen n) 0))
    let d := d.when_ (!isOn && was) (fun d => d.ev (.crv n) 1)
    d.wrSat (crvVTgt n) (if isOn then curveSpeed x (d.curvePoints n) else 0)

/-- CURVE_STALE (R330): CRV_STALE_T boundaries without a new value. -/
def effCurveStale (n : Nat) (t : Nat) (d : Dev) : Dev :=
  if d.mode n == 0 && !d.on (crvStale n) && decide (d.rd (crvStaleT n) ≤ (d.prof n).staleRun) then
    let was := d.on (crvOn n)
    let d := ((d.wr (crvStale n) 1).ev (.crv n) 2).wr (crvOn n) 0
    let d := (d.wr (crvVTgt n) 0).when_ was (fun d => d.ev (.crv n) 1)
    d.raise 0x1903 n 9 0 t
  else d

/-- The ramp of R329 at a boundary in RUN: at most CRV_RAMP × T_tick. The boundary that enters RUN, or TRACK, keeps the velocity from
which the generator starts (R308, R309). -/
def Dev.runCurve (d : Dev) (n : Nat) (first : Bool) : Dev :=
  let target := d.rdS (crvVTgt n) * 2 ^ 28
  let step : Int := if first then 0 else divRound (d.rd (crvRamp n) * d.tickNs * 2 ^ 32) 1000000000
  let d := d.modProf n (fun g => { g with v := g.v + clampInt (-step) step (target - g.v), a := 0 })
  d.wrSat (crvV n) (divRound (d.prof n).v (2 ^ 28))

/-! ### The generators at a boundary (R306) -/

/-- A hold that waits for the end of the segment or entry in execution freezes the axis (R298). -/
def Dev.takeHold (d : Dev) (n : Nat) : Dev :=
  if (d.ax n).holdPend && (d.prof n).plan.isNone && d.rd (prfEphState n) != 2 then
    (d.modAx n (fun a => { a with holdPend := false })).wr (axbFrozen n) 1
  else d

/-- At entry into TRACK a position mode continues from the speed of the start (R309, log entry 217): an entry in execution begins
anew from that state, and otherwise the generator plans from it to the active target. With a limit of 0 it holds its position. -/
def Dev.trackFrom (d : Dev) (n b : Nat) : Dev :=
  let plan := if d.canRamp n && decide (0 < d.rdS (prfVMax n)) then d.planTo n b (((d.prof n).plan.map (·.target)).getD (d.rdS (prfTgtAct n))) true
    else d.setKin n { d.kin n with v := 0, a := 0 }
  if (d.prof n).v = 0 ∧ (d.prof n).plan.isNone then d
  else
    match d.rd (prfEphState n), (d.prof n).buf with
    | 2, e :: _ => if d.mode n = 4 then d.ephStart n e else plan
    | _, _ => plan

/-- The generator of axis n in RUN at boundary b. -/
def Dev.runGen (d : Dev) (n b : Nat) : Dev :=
  let entry := (d.prof n).init
  let d := d.genEntry n
  let tracked := d.on (prfStartTrack n)
  let d := d.wrB (prfStartTrack n) (d.starting n)
  let m := d.mode n
  if d.starting n then
    let d := d.modProf n (fun g => { g with v := d.startSpeed n, a := 0, plan := if m = 2 then none else g.plan })
    let d := d.when_ (m == 0) (fun d => d.wrSat (crvV n) (divRound (d.prof n).v (2 ^ 28)))
    match m with
    | 3 | 4 => d.genOut n (d.kin n)
    | 0 | 2 => d.genFb n (d.prof n).v 0
    | _ => d.genFb n 0 0
  else
    match m with
    | 3 | 4 =>
      let d :=
        if d.on (axbFrozen n) then d.setKin n { d.kin n with v := 0, a := 0 }
        else if tracked then d
        else if (d.prof n).plan.isSome then
          let d := d.runPlan n b
          if m = 4 ∧ d.rd (prfEphState n) = 1 then d.runEph n b else d
        else if m = 4 then d.runEph n b
        else d.setKin n { d.kin n with v := 0, a := 0 }
      let d := d.takeHold n
      let d := d.genOut n (d.kin n)
      let d := d.when_ (tracked && !d.on (axbFrozen n)) (fun d => d.trackFrom n b)
      match (d.prof n).plan with
      | some q => if (d.prof n).replan then d.planTo n b q.target true else d
      | none => d
    | 2 => let d := if d.on (axbFrozen n) then d.setKin n ⟨0, 0, 0⟩ else d.runSpeed n b
           d.genFb n (d.prof n).v (d.prof n).a
    | 0 => let d := if d.on (axbFrozen n) then (d.setKin n ⟨0, 0, 0⟩).wr (crvV n) 0 else d.runCurve n (entry || tracked)
           d.genFb n (d.prof n).v 0
    | _ => d.genFb n 0 0

/-- The generators of axis n at boundary b of tick j, after steps 1 and 2 of R29. -/
def Dev.evalGen (d : Dev) (n b j : Nat) : Dev :=
  let d := d.evalCurve n
  if d.st n == stRun then d.runGen n b
  else if d.st n == stStopping then (d.wr (prfStartTrack n) 0).runStop n j
  else (((d.wr (prfStartTrack n) 0).wr (crvV n) 0).genFb n 0 0).setKin n ⟨d.pFb n * 2 ^ 32, 0, 0⟩

/-! ### Commands (R307, R310, R314, R319 to R324) -/

/-- A motion command is accepted: FROZEN clears once no fault in scope is active (R298). -/
def Dev.thaw (d : Dev) (n : Nat) : Dev := if d.inScope n then d else d.wr (axbFrozen n) 0

/-- PRF_CMD_RESULT takes a command's code and outcome together (R307). -/
def Dev.prfAnswer (d : Dev) (n code result : Nat) : Dev :=
  let d := (d.wr (prfLastCmd n) code).wr (prfResult n) result
  if 2 ≤ result then d.ev (.prf n) 6 else d

/-- The ephemeris states in which a list exists (R324). -/
def ephLive (s : Nat) : Bool := decide (1 ≤ s ∧ s ≤ 5) || s == 8

/-- Why a move or HALT is refused at its boundary (R307, R310, R314); none: it is accepted. -/
def Dev.moveRefusal (d : Dev) (n code : Nat) : Option Nat :=
  if d.inScope n then some 5
  else if code ≤ 2 && d.mode n != 3 || code == 3 && d.mode n != 3 && d.mode n != 2 then some 10
  else if d.st n != stRun then some 2
  else if code = 3 then (if d.canRamp n then none else some 11)
  else
    let target := if code = 1 then d.rdS (prfTarget n) else d.rdS (prfTgtAct n) + d.rdS (prfDelta n)
    if d.canRamp n && decide (0 < d.rdS (prfVMax n)) && decide (d.rdS (prfLimLo n) ≤ target) && decide (target ≤ d.rdS (prfLimHi n))
    then none else some 11

/-- Stream s accepts axis n as its consumer (R434). -/
def Dev.streamFree (d : Dev) (s who kind : Nat) : Bool :=
  let x := d.stream s
  decide (s < 48) && x.isOpen && !x.stopped && x.kind == kind && (x.consumer == none || x.consumer == some who)

/-- Why an ephemeris command is refused at its boundary (R307, R319 to R324); none: it is accepted. -/
def Dev.ephRefusal (d : Dev) (n code : Nat) : Option Nat :=
  let s := d.rd (prfEphState n)
  if code ≠ 7 ∧ d.inScope n then some 5
  else if d.mode n != 4 then some 10
  else
    match code with
    | 4 =>
      if d.st n != stRun || ephLive s then some 2
      else if d.on (prfEphTimed n) && d.rd timeState != 2 then some 12
      else if d.streamFree (d.rd (prfEphStream n)) n 1 then none else some 13
    | 5 => if d.st n == stRun && s == 3 then none else some 2
    | 6 => if d.st n == stRun && (s == 5 || s == 8 || s == 4) then none else some 2
    | _ => if ephLive s then none else some 2

/-- An ephemeris entry from its six words (R316). -/
def ephOf (ws : List Nat) (t : Nat) : EphEntry :=
  { pos := signedOf 64 (ws.getD 0 0 + ws.getD 1 0 * 2 ^ 32), vel := signedOf 32 (ws.getD 2 0), dur := ws.getD 3 0 % 2 ^ 24,
    flags := ws.getD 3 0 / 2 ^ 24 % 256, tag := ws.getD 4 0, at_ := t }

/-- The pager fills the interpolator's buffer, which holds the entry in execution and the next one; each entry is tested as it
reaches the buffer (R317). -/
def Dev.fillEph (d : Dev) (mem : Mem) (n t at_ : Nat) : Dev :=
  match (d.prof n).stream with
  | none => d
  | some s =>
    let one := fun (d : Dev) =>
      if 2 ≤ (d.prof n).buf.length then d
      else
        match d.nextEntry mem s t with
        | (some ws, d) =>
          let e := ephOf ws at_
          d.modProf n (fun g => { g with buf := g.buf ++ [{ e with bad := d.ephBad n e }] })
        | (none, d) => d
    one (one d)

/-- Bind a stream at a list start (R434): a SRC 0 stream delivers from entry 0, a ring from PGR_S_RD. -/
def Dev.bindStream (d : Dev) (s who : Nat) : Dev :=
  d.modStream s (fun x =>
    let x := { x with consumer := some who }
    if x.src = 1 then { x with next := x.rd }
    else if x.replace = 1 ∨ (x.next = 0 ∧ x.from_ = 0) then { x with next := 0 }
    else { x with next := 0, words := [], from_ := 0, page := 0, tries := 0, held := [] })

/-- An accepted profile or ephemeris command takes effect at boundary b. At a list start the entries that the pager has
read ahead count as available (R319, R434, log entry 15). -/
def Dev.prfApply (d : Dev) (mem : Mem) (n b code : Nat) : Dev :=
  match code with
  | 1 => (d.thaw n).planTo n b (d.rdS (prfTarget n)) true
  | 2 => (d.thaw n).planTo n b (d.rdS (prfTgtAct n) + d.rdS (prfDelta n)) true
  | 3 =>
    if d.mode n == 2 then
      let d := ((d.thaw n).modProf n (fun g => { g with halted := true })).inw (prfReplans n)
      if d.starting n then d else d.runSpeed n b
    else (d.thaw n).haltAt n b
  | 4 =>
    let s := d.rd (prfEphStream n)
    let d := (((d.thaw n).bindStream s n).wr (prfEphIdx n) 0).wr (prfEphDone n) 0
    let d := (d.wr (prfEphK n) 0).modProf n (fun g => { g with stream := some s, buf := [], resume := false, waitCmd := false })
    let d := d.fillEph mem n b 0
    let d := d.wr (prfEphTag n) (((d.prof n).buf.head?.map (·.tag)).getD 0)
    if d.on (prfEphTimed n) && decide (d.sysTime b < (d.rd (prfEphStartT n) : Int)) then d.wr (prfEphState n) 1 else d.ephNext n b
  | 5 => (d.thaw n).ephNext n b
  | 6 => ((d.thaw n).modProf n (fun g => { g with resume := true, waitCmd := false })).ephNext n b
  | _ =>
    let d := ((d.thaw n).unbind n).wr (prfEphState n) 7
    if d.st n == stRun then d.haltAt n b else d

/-- The pending PRF_CMD command is judged at boundary b (R307). -/
def Dev.judgePrf (d : Dev) (mem : Mem) (n b : Nat) : Dev :=
  match (d.prof n).cmd with
  | none => d
  | some c =>
    if b < c.at_ + 100 then d
    else
      let d := d.modProf n (fun g => { g with cmd := none })
      match (if c.code ≤ 3 then d.moveRefusal n c.code else d.ephRefusal n c.code) with
      | some r => d.prfAnswer n c.code r
      | none => (d.prfApply mem n b c.code).prfAnswer n c.code prfApplied

/-- A write of a command code to PRF_CMD (R307): it becomes pending, or is refused with BUSY. -/
def Dev.prfCommand (d : Dev) (n code : Nat) (r : Req) (t : Nat) : Dev :=
  match (d.prof n).cmd with
  | some _ => d.prfAnswer n code prfBusy
  | none => (d.prfAnswer n code 0).modProf n (fun g => { g with cmd := some { code := code, at_ := t, src := r.src } })

end Sys2Proof.Machine
end

