-- ==== Sys2Proof/Machine/EventPort.lean ====
section
/-! DEFINITION. The event ports: reticle lists, encoder emulation, and the pulses they emit (R336 to R348). -/
namespace Sys2Proof.Machine

/-! States of a reticle list (EVP_STATUS.RET_STATE). -/

/-- IDLE. -/
abbrev retIdle : Nat := 0
/-- PENDING. -/
abbrev retPending : Nat := 1
/-- PLAYING. -/
abbrev retPlaying : Nat := 2
/-- STARVED. -/
abbrev retStarved : Nat := 3
/-- ENDED. -/
abbrev retEnded : Nat := 4
/-- ABORTED. -/
abbrev retAborted : Nat := 5
/-- ERROR. -/
abbrev retError : Nat := 6

/-- A reticle entry from its four words (R339); POS is bits [47:0], sign-extended as in R11. -/
def retOf (ws : List Nat) : RetEntry :=
  let x := ws.getD 3 0
  { pos := signedOf 48 (ws.getD 0 0 + ws.getD 1 0 * 2 ^ 32), width := ws.getD 2 0, mask := bitsAt x 20 12, dir := bitsAt x 18 2,
    odd := bitsAt x 11 7 != 0 || bitAt x 10, last := bitAt x 8, event := bitAt x 9, tag := x % 256 }

/-- An entry is invalid (R339). -/
def RetEntry.bad (e : RetEntry) : Bool :=
  decide (e.width < 10) || decide (1000000 < e.width) || e.dir == 3 || e.mask == 0 || e.odd

/-- A direction of travel is admitted by DIR. -/
def RetEntry.admits (e : RetEntry) (up : Bool) : Bool := e.dir == 0 || e.dir == (if up then 1 else 2)

/-- Port k runs a list of its own: RETICLE with LIST (R339). -/
def Dev.ownsList (d : Dev) (k : Nat) : Bool := d.rd (evpMode k) == 1 && d.on (evpRetList k)

/-- The port gives up its stream (R434). -/
def Dev.unbindEvp (d : Dev) (k : Nat) : Dev :=
  match (d.evp k).stream with
  | none => d
  | some s => (d.modStream s (fun x => { x with consumer := none })).modEvp k (fun e => { e with stream := none, buf := [], range := none })

/-- The list of port k ends in a state, with LIST_END. -/
def Dev.endList (d : Dev) (k state : Nat) : Dev := (((d.wr (evpRetState k) state).ev (.evp k) 7).unbindEvp k)

/-! ### Pulses (R343) -/

/-- The start of a pulse that falls due on port j at a time: EVP_PULSE_GAP behind a pulse in which the output already is. -/
def Dev.pulseStart (d : Dev) (j q : Nat) : Nat :=
  match (d.evp j).pulses.getLast? with
  | some (_, stop) => if q < stop then stop + 4 * d.rd (evpPulseGap j) else q
  | none => q

/-- Emit a pulse on port j (R343); the pulses already ended are forgotten. -/
def Dev.pulseOn (d : Dev) (j q width : Nat) : Dev :=
  if d.rd (evpMode j) ≠ 1 then d
  else
    let s := d.pulseStart j q
    let d := d.when_ (s != q) (fun d => d.ev (.evp j) 5)
    d.modEvp j (fun e => { e with pulses := e.pulses.filter (fun p => decide (q < p.2)) ++ [(s, s + 4 * width)] })

/-- The head of port k is consumed; the next entry becomes head. -/
def Dev.consumeHead (d : Dev) (k q : Nat) : Dev :=
  (d.modEvp k (fun e => { e with buf := e.buf.drop 1, headAt := q })).inw (evpRetIdx k)

/-- The head of port k fires at a time q: pulses on the ports of its mask, and the reports of R340, R345. -/
def Dev.fireHead (d : Dev) (k q : Nat) (e : RetEntry) : Dev :=
  let ports := (bitList 12 e.mask).filter (fun j => d.rd (evpMode j) == 1)
  let start := ((ports.head?).map (fun j => d.pulseStart j q)).getD q
  let d := d.each ports (fun j d => d.pulseOn j q e.width)
  let d := ((d.consumeHead k q).inw (evpRetFired k)).wr (evpRetTag k) e.tag
  let d := d.wr (evpRetTime k) (start / 4)
  let d := d.when_ e.event (fun d => d.ev (.evp k) 0)
  if e.last then d.endList k retEnded else d

/-! ### The list and its buffer (R339, R344, R435) -/

/-- The pager fills the compare buffer of 16 entries. -/
def Dev.fillRet (d : Dev) (mem : Mem) (k t : Nat) : Nat → Dev
  | 0 => d
  | n + 1 =>
    match (d.evp k).stream with
    | none => d
    | some s =>
      if 16 ≤ (d.evp k).buf.length then d
      else
        match d.nextEntry mem s t with
        | (some ws, d) => Dev.fillRet (d.modEvp k (fun e => { e with buf := e.buf ++ [retOf ws] })) mem k t n
        | (none, d) => d

/-- The bound stream of port k was stopped by a read error. -/
def Dev.retStopped (d : Dev) (k : Nat) : Bool :=
  match (d.evp k).stream with
  | some s => (d.stream s).stopped
  | none => false

/-- One count, in the unit of source positions: with it the prediction P + V × (t − Ts) is exact. -/
def posUnit : Int := 16000000000

/-- The network source of port k predicts (R342): it is not stale and the station is LOCKED. -/
def Dev.netFresh (d : Dev) (k : Nat) : Bool := !d.on (evpSrcStale k) && d.rd timeState == 2

/-- The source position of port k at device time t, in units of posUnit: the counter of FB_PORT, or the prediction of the network
sample (R341); none while the network source predicts nothing. -/
def Dev.retSource (d : Dev) (k t : Nat) : Option Int :=
  if d.on (evpRetSrc k) then
    match (d.evp k).sample with
    | some (p, v, ts) => if d.netFresh k then some (p * posUnit + v * (d.sysTime t - ts)) else none
    | none => none
  else some (d.rdS (fbPos (d.rd (evpRetFbPort k))) * posUnit)

/-- The range traversed while starved grows to the source position at t (R344). -/
def Dev.traverse (d : Dev) (k t : Nat) : Dev :=
  match d.retSource k t with
  | none => d
  | some p => d.modEvp k (fun e => { e with range := some (match e.range with
    | some r => (min r.1 p, max r.2 p)
    | none => (p, p)) })

/-- Late entries at the front of the buffer are consumed without a pulse (R344). -/
def Dev.dropLate (d : Dev) (k q : Nat) : Nat → Dev
  | 0 => d
  | n + 1 =>
    match (d.evp k).buf, (d.evp k).range with
    | e :: _, some (lo, hi) =>
      if !e.bad && decide (lo ≤ e.pos * posUnit) && decide (e.pos * posUnit ≤ hi) then
        let d := ((d.consumeHead k q).inc (evpRetLate k)).ev (.evp k) 6
        if e.last then d.endList k retEnded else Dev.dropLate d k q n
      else d
    | _, _ => d

/-- The state of a live list after its buffer changed: an invalid head and a failed stream end it in ERROR, an empty
buffer starves it, and an entry in the buffer lets it play (R339, R344). An entry that arrives is held against the range
traversed up to its arrival. -/
def Dev.settleList (d : Dev) (k t : Nat) : Dev :=
  let d := if d.rd (evpRetState k) = retStarved then (d.traverse k t).dropLate k (4 * t) 16 else d
  let s := d.rd (evpRetState k)
  if s ≠ retPlaying ∧ s ≠ retStarved then d
  else
    match (d.evp k).buf with
    | e :: _ =>
      if e.bad then d.endList k retError
      else if s = retStarved then (d.wr (evpRetState k) retPlaying).modEvp k (fun x => { x with range := none, headAt := 4 * t })
      else d
    | [] =>
      if d.retStopped k then d.endList k retError
      else if s = retStarved then d
      else
        ((d.wr (evpRetState k) retStarved).modEvp k (fun x => { x with range := none })).traverse k t

/-- Fire every head that a count from p to p1 crosses, in list order (R340, R341). -/
def Dev.crossList (d : Dev) (mem : Mem) (k t : Nat) (p p1 : Int) : Nat → Dev
  | 0 => d
  | n + 1 =>
    if d.rd (evpRetState k) ≠ retPlaying then d
    else
      match (d.evp k).buf with
      | [] => d
      | e :: _ =>
        let up := decide (p < p1)
        let hit := if up then decide (p < e.pos) && decide (e.pos ≤ p1) else decide (p1 ≤ e.pos) && decide (e.pos < p)
        if hit && e.admits up then Dev.crossList (((d.fireHead k (4 * t) e).fillRet mem k t 16).settleList k t) mem k t p p1 n
        else d

/-- A count moves the counter of feedback port f from p to p1 (R341): the lists that follow it fire, or record the
range they traverse while starved. -/
def Dev.crossPort (d : Dev) (mem : Mem) (f t : Nat) (p p1 : Int) : Dev :=
  d.each (List.range 12) (fun k d =>
    if d.ownsList k && !d.on (evpRetSrc k) && d.rd (evpRetFbPort k) == f then
      (if d.rd (evpRetState k) = retStarved then d.traverse k t else d.crossList mem k t p p1 65536)
    else d)

/-! ### Network samples (R341, R342) -/

/-- The device time, in quarters of a nanosecond, at which the head of port k is predicted to cross; on the 1.25 ns grid. -/
def Dev.predicted (d : Dev) (k : Nat) (e : RetEntry) : Option Nat :=
  match (d.evp k).sample with
  | none => none
  | some (p, v, ts) =>
    if v = 0 ∨ !e.admits (decide (0 < v)) ∨ !d.netFresh k then none
    else
      let num := (e.pos - p) * 16 * 4000000000 * signOf v
      let den : Int := v.natAbs
      let q := 4 * (ts - d.rdS timeTimeOffset) * den + num
      let grid := -((-q) / (5 * den)) * 5
      if grid < 0 then none else some grid.toNat

/-- RETICLE_PREDICTED_FIRE (R341): the predicted time of the head is reached, while it is head and the source predicts. -/
def effPredictedFire (k : Nat) (t : Nat) (mem : Mem) (d : Dev) : Dev :=
  if d.ownsList k && d.on (evpRetSrc k) && d.rd (evpRetState k) == retPlaying then
    match (d.evp k).buf with
    | [] => d
    | e :: _ =>
      match d.predicted k e with
      | some q => if (d.evp k).headAt ≤ q ∧ (d.evp k).freshAt ≤ q ∧ q < 4 * t + 4 then ((d.fireHead k q e).fillRet mem k t 16).settleList k t else d
      | none => d
  else d

/-- A new sample places a head beyond POS in its admitted direction (R342): its predicted crossing has passed; or the position lies
beyond POS although the sample predicts no admitted crossing (log entry 218). `old` is the position before the sample. -/
def Dev.placedBeyond (d : Dev) (k t : Nat) (e : RetEntry) (old : Option Int) : Bool :=
  let pos := e.pos * posUnit
  match d.predicted k e, d.retSource k t with
  | some q, _ => decide (q ≤ 4 * t)
  | none, none => false
  | none, some p =>
    match e.dir with
    | 1 => decide (pos ≤ p)
    | 2 => decide (p ≤ pos)
    | _ =>
      match old with
      | some o => (decide (o < pos) && decide (pos ≤ p)) || (decide (p ≤ pos) && decide (pos < o))
      | none => false

/-- Heads that a new sample places beyond their positions fire late (R342). -/
def Dev.lateFire (d : Dev) (mem : Mem) (k t : Nat) (old : Option Int) : Nat → Dev
  | 0 => d
  | n + 1 =>
    if d.rd (evpRetState k) ≠ retPlaying then d
    else
      match (d.evp k).buf with
      | e :: _ =>
        if d.placedBeyond k t e old then
          let d := ((d.fireHead k (4 * t) e).inc (evpLateFire k)).ev (.evp k) 6
          Dev.lateFire ((d.fillRet mem k t 16).settleList k t) mem k t old n
        else d
      | [] => d

/-- NET_SAMPLE (R341, R342): the low-word write of EVP_NET_TS completes a sample. -/
def effNetSample (k ts : Nat) (t : Nat) (mem : Mem) (d : Dev) : Dev :=
  let d := d.wr (evpNetTs k) ts
  let s := (d.rdS (evpNetP k), d.rdS (evpNetV k), d.rdS (evpNetTs k))
  let old := d.retSource k t
  let d := d.when_ (d.rd (evpRetState k) == retStarved) (fun d => d.traverse k t)
  let d := d.modEvp k (fun e => { e with sample := some s, noSample := 0, freshAt := 4 * t })
  let d := d.when_ (d.rd timeState == 2) (fun d => d.wr (evpSrcStale k) 0)
  if d.ownsList k && d.on (evpRetSrc k) then
    (if d.rd (evpRetState k) = retStarved then d.traverse k t else d.lateFire mem k t old 65536)
  else d

/-- NET_SOURCE_STALE (R342): EVP_NET_HOLD ticks without a sample, or the station is not LOCKED. -/
def effNetStale (k : Nat) (_t : Nat) (d : Dev) : Dev :=
  if !d.on (evpSrcStale k) && d.on (evpRetSrc k) && (decide (d.rd (evpNetHold k) ≤ (d.evp k).noSample) || d.rd timeState != 2)
  then (d.wr (evpSrcStale k) 1).ev (.evp k) 4 else d

/-! ### Commands (R345) -/

/-- EVP_CMD_RESULT takes a command's code and outcome together. -/
def Dev.evpAnswer (d : Dev) (k code result : Nat) : Dev :=
  let d := (d.wr (evpLastCmd k) code).wr (evpResult k) result
  if 2 ≤ result then d.ev (.evp k) 8 else d

/-- A list is live: PENDING, PLAYING or STARVED. -/
def retLive (s : Nat) : Bool := decide (1 ≤ s ∧ s ≤ 3)

/-- Why an event-port command is refused at its boundary (R342, R345). A start needs a port that owns a list; an abort
needs a live one (log entry 16). -/
def Dev.retRefusal (d : Dev) (k code : Nat) : Option Nat :=
  let s := d.rd (evpRetState k)
  if code = 1 then
    if retLive s || !d.ownsList k then some 2
    else if (d.on (evpRetTimed k) || d.on (evpRetSrc k)) && d.rd timeState != 2 then some 12
    else if d.streamFree (d.rd (evpRetStream k)) (0x8000 + k) 2 then none else some 13
  else if retLive s then none else some 2

/-- A pending list becomes PLAYING at the first boundary whose system time reaches EVP_RET_START_T (R345); with SRC 1 only while the
station is LOCKED (R342). -/
def Dev.startList (d : Dev) (k b : Nat) : Dev :=
  if d.on (evpRetTimed k) && (decide (d.sysTime b < (d.rd (evpRetStartT k) : Int)) || (d.on (evpRetSrc k) && d.rd timeState != 2)) then d.wr (evpRetState k) retPending
  else ((d.wr (evpRetState k) retPlaying).modEvp k (fun e => { e with headAt := 4 * b })).settleList k b

/-- The pending EVP_CMD command is judged at boundary b (R307, R345). -/
def Dev.judgeEvp (d : Dev) (mem : Mem) (k b : Nat) : Dev :=
  match (d.evp k).cmd with
  | none => d
  | some c =>
    if b < c.at_ + 100 then d
    else
      let d := d.modEvp k (fun e => { e with cmd := none })
      match d.retRefusal k c.code with
      | some r => d.evpAnswer k c.code r
      | none =>
        let d := d.evpAnswer k c.code 1
        if c.code = 1 then
          let s := d.rd (evpRetStream k)
          let d := (d.bindStream s (0x8000 + k)).wr (evpRetIdx k) 0
          ((d.modEvp k (fun e => { e with stream := some s, buf := [], range := none })).fillRet mem k b 16).startList k b
        else d.endList k retAborted

/-- A write of a command code to EVP_CMD (R345): it becomes pending, or is refused with BUSY. -/
def Dev.evpCommand (d : Dev) (k code : Nat) (r : Req) (t : Nat) : Dev :=
  match (d.evp k).cmd with
  | some _ => d.evpAnswer k code 3
  | none => (d.evpAnswer k code 0).modEvp k (fun e => { e with cmd := some { code := code, at_ := t, src := r.src } })

/-- RET_START (R345). -/
def effRetStart (k : Nat) (r : Req) (t : Nat) (d : Dev) : Dev := d.evpCommand k 1 r t

/-- RET_ABORT (R345). -/
def effRetAbort (k : Nat) (r : Req) (t : Nat) (d : Dev) : Dev := d.evpCommand k 2 r t

/-! ### Emulation (R346 to R348) -/

/-- The source of the emulation of port k. -/
def Dev.emuSource (d : Dev) (k : Nat) : Int :=
  if d.on (evpEmuObs k) then d.rdS (obsPos (d.rd (evpEmuSel k))) else d.rdS (fbPos (d.rd (evpEmuSel k)))

/-- E of R346 for the present source. -/
def Dev.emuCount (d : Dev) (k : Nat) : Int := (d.emuSource k * d.rdS (evpEmuNum k)) / (max (d.rd (evpEmuDen k)) 1 : Nat)

/-- Steps of a run that are due at a time, in quarters of a ns, and not emitted. -/
def EmuRun.due (r : EmuRun) (q : Nat) : Nat :=
  let all := if q < r.at_ then 0 else if r.span = 0 then r.total else min r.total (((q - r.at_) * r.total) / r.span + 1)
  all - (r.total - r.left)

/-- The next edge of port k would come no closer than EVP_EMU_MIN after the one before. -/
def Dev.emuSpaced (d : Dev) (k q : Nat) : Bool :=
  match (d.evp k).emuAt with
  | some q0 => decide (q0 + 5 * d.rd (evpEmuMin k) ≤ q)
  | none => true

/-- The backlog of port k (R346): the steps that are due, without the one that appears now. -/
def Dev.emuBacklog (d : Dev) (k q : Nat) : Nat :=
  ((d.evp k).emuRuns.foldl (fun n r => n + r.due q) 0) - (if d.emuSpaced k q then 1 else 0)

/-- The backlog of port k is reported: BACKLOG, PEAK and EMU_LAG (R346). -/
def Dev.emuReport (d : Dev) (k q : Nat) : Dev :=
  let n := d.emuBacklog k q
  let was := d.on (evpEmuLag k)
  let d := (d.wr (evpEmuBacklog k) (min n 65535)).wr (evpEmuPeak k) (max (d.rd (evpEmuPeak k)) (min n 65535))
  let d := d.wrB (evpEmuLag k) (decide (256 < n))
  if !was && decide (256 < n) then d.ev (.evp k) 3 else d

/-- The source of port k moved at time t: the steps of E follow it, those of OBS_POS spread evenly over a tick of `span` quarters of a
ns. -/
def Dev.emuFollow (d : Dev) (k t span : Nat) : Dev :=
  if d.rd (evpMode k) ≠ 2 then d
  else
    let e1 := d.emuCount k
    let n := (e1 - (d.evp k).emuE).natAbs
    let run : EmuRun := { up := decide ((d.evp k).emuE < e1), total := n, left := n, at_ := 4 * t, span := span }
    (d.modEvp k (fun e => { e with emuRuns := if n = 0 then e.emuRuns else e.emuRuns ++ [run], emuE := e1 })).emuReport k (4 * t)

/-- The counter of feedback port f moved: the ports that emulate it follow. -/
def Dev.emuPort (d : Dev) (f t : Nat) : Dev :=
  d.each (List.range 12) (fun k d => if !d.on (evpEmuObs k) && d.rd (evpEmuSel k) == f then d.emuFollow k t 0 else d)

/-- A commit of NUM, DEN or SEL sets E without an edge (R348): A and B keep their state, and the steps that wait are still emitted.
A port that enters EMU begins at the state of its E. -/
def Dev.emuReset (d : Dev) (k t : Nat) (entered : Bool) : Dev :=
  let e1 := d.emuCount k
  let d := d.modEvp k (fun e => { e with emuE := e1 })
  let d := d.when_ entered (fun d => d.modEvp k (fun e => { e with emuRuns := [], emuAt := none, emuPhase := (e1 % 4).toNat }))
  d.emuReport k (4 * t)

/-- EMU_EDGE (R346): the next step, once it is due, is emitted no closer than EVP_EMU_MIN after the one before. -/
def effEmuEdge (k : Nat) (t : Nat) (d : Dev) : Dev :=
  match (d.evp k).emuRuns with
  | [] => d
  | r :: rest =>
    if d.rd (evpMode k) == 2 && r.due (4 * t) != 0 && d.emuSpaced k (4 * t) then
      let runs := if r.left ≤ 1 then rest else { r with left := r.left - 1 } :: rest
      (d.modEvp k (fun e => { e with emuRuns := runs, emuAt := some (4 * t),
                                     emuPhase := (e.emuPhase + (if r.up then 1 else 3)) % 4 })).emuReport k (4 * t)
    else d

/-- Levels A, B and Z of an emulation (R346, R347): A and B by the steps emitted, Z by E. -/
def Dev.emuLines (d : Dev) (k : Nat) : Bool × Bool × Bool :=
  let e := (d.evp k).emuPhase
  let z := d.rd (evpEmuZper k)
  (e == 1 || e == 2, e == 2 || e == 3, z != 0 && (d.evp k).emuE % (z : Int) == 0)

/-- The signal of port k before INV at device time t (R336): its output, or the level at its input. -/
def Dev.evpOut (d : Dev) (k t : Nat) : Bool :=
  match d.rd (evpMode k) with
  | 1 => (d.evp k).pulses.any (fun p => decide (p.1 ≤ 4 * t) && decide (4 * t < p.2))
  | 2 => (d.emuLines k).1
  | 3 =>
    let l := d.rd (evpLink k)
    if d.rd (evpMode l) = 2 then (if d.on (evpRole k) then (d.emuLines l).2.2 else (d.emuLines l).2.1) else false
  | 6 => (d.slot (d.rd (evpOutAxis k)) (d.rd (evpOutSlot k))).gp
  | _ => bitAt ((tabGet d.pins.ev k).getD 0) 0

/-- A companion carries the B line of port k on its own pins (R347). -/
def Dev.emuHasB (d : Dev) (k : Nat) : Bool :=
  (List.range 12).any (fun j => d.rd (evpMode j) == 3 && d.rd (evpLink j) == k && !d.on (evpRole j))

/-- The levels that port k drives on EVk_P and EVk_N (R75, R336, R347); none is high impedance. Before READY, in OFF and in the input
modes nothing is driven. A pair, and EVk_N in SE but in EMU, carries the complement; in EMU with SE the N pin carries B. -/
def Dev.evpDrive (d : Dev) (k t : Nat) : Option Bool × Option Bool :=
  let x := d.evpOut k t != d.on (evpInv k)
  if !d.on devReady then (none, none)
  else
    match d.rd (evpMode k) with
    | 1 | 3 | 6 => (some x, some !x)
    | 2 =>
      if d.on (evpPins k) then (some x, if d.emuHasB k then none else some ((d.emuLines k).2.1 != d.on (evpInv k)))
      else (some x, some !x)
    | _ => (none, none)

/-- EVP_STATUS.LEVEL (R353): the level that the port drives, otherwise the one at its input, after INV. -/
def Dev.evpLevelNow (d : Dev) (k t : Nat) : Bool :=
  (d.evpDrive k t).1.getD (bitAt ((tabGet d.pins.ev k).getD 0) 0 != d.on (evpInv k))

end Sys2Proof.Machine
end

