-- ==== Sys2Proof/Machine/Feedback.lean ====
section
/-! DEFINITION. The feedback ports (R209 to R247): counting, references and sets, speed, Hall angle, serial frames,
latches, and the faults of a port. -/
namespace Sys2Proof.Machine

/-- The axes whose FB_SELECT in effect names port p (R244). -/
def Dev.naming (d : Dev) (p : Nat) : List Nat :=
  (List.range 24).filter (fun n => d.rd (fbCommPort n) == p || d.rd (fbPosPort n) == p)

/-- An axis whose FB_SELECT names port p drives (R237). -/
def Dev.portBusy (d : Dev) (p : Nat) : Bool := (d.naming p).any d.drives

/-- A fault of port p is raised on every axis that names it (R244); loss: it is a feedback-loss fault of R287. An axis notes
the ports for which 0x1601 was raised on it, for the clear of R214. -/
def Dev.raisePort (d : Dev) (code p data t : Nat) (loss : Bool) : Dev :=
  d.each (d.naming p) (fun n d =>
    let d := d.when_ (code == 0x1601) (fun d => d.modAx n (fun a => { a with
      wirePorts := (if d.isActive 0x1601 n then a.wirePorts else 0) ||| 2 ^ p }))
    if loss then d.raiseLoss code n p data t else d.raise code n 9 data t)

/-! ### The counter (R233, R234) -/

/-- The lower bound of the counter of port p (R233). -/
def Dev.fbLo (d : Dev) (p : Nat) : Int := if d.on (fbLimEn p) then d.rdS (fbLimLo p) else -(2 ^ 47)
/-- The upper bound of the counter of port p. -/
def Dev.fbHi (d : Dev) (p : Nat) : Int := if d.on (fbLimEn p) then d.rdS (fbLimHi p) else 2 ^ 47 - 1

/-- The counter of port p takes a value; the lists and emulations that follow it see a count, not a set (R341, R346). -/
def Dev.counterTo (d : Dev) (mem : Mem) (p t : Nat) (v : Int) (count : Bool) : Dev :=
  let old := d.rdS (fbPos p)
  let d := d.wrS (fbPos p) v
  let d := if count && v != old then d.crossPort mem p t old v else d
  d.emuPort p t

/-- A count is discarded at a bound (R234). -/
def Dev.countLost (d : Dev) (p t : Nat) (high : Bool) : Dev :=
  let d := (((d.inc (fbLimLost p)).wr (fbAtLimit p) 1).wr (fbPosValid p) 0).ev (.fb p) 2
  d.raisePort 0x1605 p (p + (if high then 256 else 0)) t false

/-- One count of one step reaches the counter (R233, R234). -/
def Dev.stepCounter (d : Dev) (mem : Mem) (p t : Nat) (neg : Bool) : Dev :=
  let v := d.rdS (fbPos p) + (if neg then -1 else 1)
  if v < d.fbLo p ∧ neg then d.countLost p t false
  else if d.fbHi p < v ∧ !neg then d.countLost p t true
  else (d.wr (fbAtLimit p) 0).counterTo mem p t v true

/-- Direction and estimator of a count (R238, R239). -/
def Dev.countSpeed (d : Dev) (p q c : Nat) (neg : Bool) : Dev :=
  let x := d.fbp p
  let rev := match x.lastDir with
    | some b => b != neg
    | none => false
  let d := d.when_ (rev || x.lastDir.isNone) (fun d => d.wrB (fbDir p) neg)
  let d := d.when_ rev (fun d => d.ev (.fb p) 0)
  let start := rev || d.rd (fbEst p) == 0
  let d := (d.wr (fbEst p) (if start then 1 else 2)).wr (fbStill p) 0
  d.modFbp p (fun x => { x with lastDir := some neg, prevQ := if start then none else x.lastQ, lastQ := some q,
                                tick := if start then [(q, c)] else (q, c) :: x.tick,
                                interval := if rev then none else x.interval })

/-- A count of increment c in a direction, edge time q (R216, R217, R238). The two counts of a filled gap reach a bound one by one
(log entry 215). -/
def Dev.fbCount (d : Dev) (mem : Mem) (p t q c : Nat) (neg : Bool) : Dev :=
  let neg := neg != d.on (fbInvert p)
  let d := d.countSpeed p q c neg
  let d := d.modFbp p (fun x => { x with since := x.since + c })
  let d := d.stepCounter mem p t neg
  if c = 2 then d.stepCounter mem p t neg else d

/-- An illegal transition (R217, R219). -/
def Dev.illegalEdge (d : Dev) (p q : Nat) : Dev :=
  let d := ((d.inc (fbIllegalCount p)).ev (.fb p) 3).wr (fbPosValid p) 0
  d.modFbp p (fun x => { x with illegal := q :: x.illegal.filter (fun e => decide (q < e + 4000000)) })

/-! ### References and position sets (R226, R236, R237) -/

/-- SET_PEND follows the pending sets. -/
def Dev.syncSetPend (d : Dev) (p : Nat) : Dev := d.wrB (fbSetPend p) ((d.fbp p).setPos.isSome || d.on (fbRefArm p))

/-- The counter of port p is set (R236 to R238): SET_DONE, POS_VALID, the tooth check and AT_LIMIT start again. In the counting
modes the next count has no previous count; in SSER the sign of R232 goes on. -/
def Dev.setCounter (d : Dev) (mem : Mem) (p t v : Nat) : Dev :=
  let v := signedOf 48 v
  let d := (d.counterTo mem p t v false).modFbp p (fun x =>
    { x with lastDir := if d.rd (fbMode p) = 4 then x.lastDir else none, checkRef := false, since := 0, absA := x.absA.map (fun _ => v),
             sample := x.sample.bind (fun y => x.absA.map (fun a => (y.1 + (v - a), y.2))) })
  (((d.wr (fbAtLimit p) 0).wr (fbPosValid p) 1).evOnly (.fb p) 10).syncSetPend p

/-- A reference of port p at edge time q (R226, R237, R241). -/
def Dev.reference (d : Dev) (mem : Mem) (p t q : Nat) : Dev :=
  let x := d.fbp p
  let d := d.ev (.fb p) 6
  let n := d.rd (fbToothN p)
  let d :=
    if d.rd (fbMode p) = 3 then
      let d := d.when_ (n != 0 && x.checkRef) (fun d =>
        if x.since = n then (d.wr (fbRefErr p) 0).wr (fbToothRefMiss p) 0
        else ((d.wr (fbRefErr p) 1).ev (.fb p) 7).inc (fbToothRefMiss p))
      (d.wr (fbToothRefCounts p) (min x.since 65535)).modFbp p (fun x => { x with since := 0, checkRef := true })
    else d
  if !d.on (fbRefArm p) then d
  else if d.portBusy p then ((d.wr (fbRefArm p) 0).ev (.fb p) 9).syncSetPend p
  else
    let before := d.rdS (fbPos p)
    ((d.wr (fbRefArm p) 0).setCounter mem p t (d.rd (fbRefValue p))).modFbp p (fun x => { x with refSet := some (q, before) })

/-- SET_POS (R237): a write of 1 to FB_CMD.SET_POS. -/
def effSetPos (p : Nat) (t : Nat) (d : Dev) : Dev :=
  if d.portBusy p then d.ev (.fb p) 9 else (d.modFbp p (fun x => { x with setPos := some t })).syncSetPend p

/-- REFERENCE_SET_ARM (R237): a write of 1 to FB_REF_CTRL.ARM. -/
def effRefArm (p : Nat) (_t : Nat) (d : Dev) : Dev :=
  if d.portBusy p then d.ev (.fb p) 9 else (d.wr (fbRefArm p) 1).syncSetPend p

/-- The sets of port p at boundary b: a pending SET_POS applies, and an armed set is cancelled once a naming axis drives. -/
def Dev.tickSets (d : Dev) (mem : Mem) (p b : Nat) : Dev :=
  let d :=
    match (d.fbp p).setPos with
    | some t0 =>
      if b < t0 + 100 then d
      else
        let d := d.modFbp p (fun x => { x with setPos := none })
        if d.portBusy p then (d.ev (.fb p) 9).syncSetPend p else d.setCounter mem p b (d.rd (fbPosSet p))
    | none => d
  if d.on (fbRefArm p) && d.portBusy p then ((d.wr (fbRefArm p) 0).ev (.fb p) 9).syncSetPend p else d

/-! ### Accepted transitions (R217 to R226) -/

/-- The phase of a quadrature state: it rises by one when A leads B (R217). -/
def quadPhase (lines : Nat) : Nat :=
  match lines % 4 with
  | 0 => 0 | 1 => 1 | 3 => 2 | _ => 3

/-- The sector of a Hall state, in the order of R219; none for the invalid states. -/
def hallSector (reverse : Bool) (h : Nat) : Option Nat :=
  let s : Option Nat := match h % 8 with
    | 1 => some 0 | 3 => some 1 | 2 => some 2 | 6 => some 3 | 4 => some 4 | 5 => some 5
    | _ => none
  s.map (fun s => if reverse then 5 - s else s)

/-- A quadrature transition (R217), and the rising edge of Z that is the reference (R241). -/
def Dev.quadEdge (d : Dev) (mem : Mem) (p t q old new : Nat) : Dev :=
  let d :=
    match (quadPhase new + 4 - quadPhase old) % 4 with
    | 1 => d.fbCount mem p t q 1 false
    | 3 => d.fbCount mem p t q 1 true
    | 2 => d.illegalEdge p q
    | _ => d
  if d.on (fbZUsed p) && !bitAt old 2 && bitAt new 2 then d.reference mem p t q else d

/-- A Hall transition (R219, R220). -/
def Dev.hallEdge (d : Dev) (mem : Mem) (p t q new : Nat) : Dev :=
  match hallSector (d.on (fbHallReverse p)) new with
  | none => d
  | some s =>
    let d := d.wr (fbHallBad p) 0
    match (d.fbp p).sector with
    | none => d.modFbp p (fun x => { x with sector := some s, sectorAt := q, sectorBack := false })
    | some s0 =>
      let enter := fun (d : Dev) (back : Bool) => d.modFbp p (fun x => { x with sector := some s, sectorAt := q, sectorBack := back })
      match (s + 6 - s0) % 6 with
      | 0 => d
      | 1 => (enter d false).fbCount mem p t q 1 false
      | 5 => (enter d true).fbCount mem p t q 1 true
      | _ => (enter d false).illegalEdge p q

/-- The direction of a tooth (R223), before INVERT: negative true. -/
def Dev.toothDir (d : Dev) (p : Nat) : Bool :=
  match d.rd (fbToothDirSrc p) with
  | 0 => false
  | 1 => true
  | _ => (d.fbp p).toothNeg

/-- A tooth counts (R224): the increment, and the interval that ended at it. -/
def Dev.toothCount (d : Dev) (mem : Mem) (p t q c : Nat) (ie : Option Nat) : Dev :=
  let d := d.fbCount mem p t q c (d.toothDir p)
  d.modFbp p (fun x => { x with tooth := some q, interval := if d.rd (fbEst p) = 1 then none else ie })

/-- A rising edge of A in TOOTH (R223 to R226): the test needs two intervals of the run that the edge continues. -/
def Dev.toothEdge (d : Dev) (mem : Mem) (p t q : Nat) : Dev :=
  let x := d.fbp p
  let turned := match x.lastDir with
    | some b => b != (d.toothDir p != d.on (fbInvert p))
    | none => false
  let run := d.rd (fbEst p) != 0 && !turned
  let ie := if run then x.tooth.map (fun t0 => q - t0) else none
  match ie, (if run then x.interval else none) with
  | some i, some ip =>
    if d.rd (fbToothKind p) = 0 then
      if d.rd (fbToothRatio p) * ip ≤ i * 65536 then
        (d.toothCount mem p t q (if d.on (fbToothFill p) then 2 else 1) ie).reference mem p t q
      else d.toothCount mem p t q 1 ie
    else if i * d.rd (fbToothRatio p) ≤ ip * 65536 then d.reference mem p t q
    else d.toothCount mem p t q 1 ie
  | _, _ => d.toothCount mem p t q 1 ie

/-- FB_EDGE (R210, R217, R219, R224): the filtered levels of the lines of port p at an edge time of t ns and a fraction. -/
def effFbEdge (p fine lines : Nat) (t : Nat) (mem : Mem) (d : Dev) : Dev :=
  let q := 4 * t + fine
  let old := d.rd (fbLines p)
  let raw := lines % 8
  let d : Dev := { d with pins := { d.pins with fb := tabSet d.pins.fb p raw } }
  if d.stepsDone < 2 then d
  else
  let keep := d.rd (fbWire p)
  let new := (raw - (raw &&& keep)) ||| (old &&& keep)
  let d := d.wr (fbLines p) new
  match d.rd (fbMode p) with
  | 1 => d.quadEdge mem p t q old new
  | 2 => d.hallEdge mem p t q new
  | 3 => if !bitAt old 0 && bitAt new 0 then d.toothEdge mem p t q else d
  | _ => d

/-- ILLEGAL_LIMIT (R218): more than FB_ILLEGAL_LIMIT illegal transitions within 1 ms. -/
def effIllegalLimit (p : Nat) (t : Nat) (d : Dev) : Dev :=
  if d.rd (fbIllegalLimit p) < (d.fbp p).illegal.length then d.raisePort 0x1602 p p t false else d

/-- REF_MISMATCH_LIMIT (R226). -/
def effRefLimit (p : Nat) (t : Nat) (d : Dev) : Dev :=
  if d.rd (fbToothRefLimit p) ≤ d.rd (fbToothRefMiss p) then d.raisePort 0x1604 p p t false else d

/-- The pairs that the wire check watches (R213). -/
def Dev.checkedPairs (d : Dev) (p : Nat) : Nat :=
  let m := match d.rd (fbMode p) with
    | 1 => if d.on (fbZUsed p) then 7 else 3
    | 3 | 4 => 1
    | _ => 0
  m - (m &&& d.rd (fbSe p))

/-- WIRE_DISAGREEMENT (R213, R214): the pairs that have disagreed for FB_WIRE_T cycles; a pair not among them agrees again. -/
def effWire (p pairs : Nat) (t : Nat) (d : Dev) : Dev :=
  let bad := pairs &&& d.checkedPairs p
  let d := d.modFbp p (fun x => { x with disagree := pairs })
  if bad = 0 then d
  else
    let wire := d.rd (fbWire p) ||| bad
    (((d.wr (fbWire p) wire).wr (fbPosValid p) 0).ev (.fb p) 4).raisePort 0x1601 p (p + wire * 256) t true

/-- HALL_INVALID (R220): an invalid state has lasted FB_WIRE_T cycles. -/
def effHallInvalid (p : Nat) (t : Nat) (d : Dev) : Dev :=
  let h := d.rd (fbLines p)
  if d.rd (fbMode p) = 2 ∧ (h = 0 ∨ h = 7) then (d.wr (fbHallBad p) 1).raisePort 0x1606 p (p + h * 256) t true else d

/-! ### Serial absolute sensors (R227 to R232) -/

/-- Gray code to binary, w bits. -/
def grayToBin (v : Nat) : Nat → Nat
  | 0 => 0
  | w + 1 =>
    let h := grayToBin (v / 2) w
    2 * h + (if (h % 2 == 1) != (v % 2 == 1) then 1 else 0)

/-- The CRC of R229 over the bits [hi − 1 : lo] of a frame, most significant first. -/
def sserCrc (frame poly width : Nat) : Nat → Nat → Nat
  | 0, c => c
  | k + 1, c =>
    let top := bitAt c (width - 1) != bitAt frame (width + k)
    let c := c * 2 % 2 ^ width
    sserCrc frame poly width k (if top then c ^^^ (poly % 2 ^ width) else c)

/-- The check of R229. -/
def Dev.frameOk (d : Dev) (p frame : Nat) : Bool :=
  let w := d.rd (fbCrcWidth p)
  if w = 0 then true
  else
    let c := sserCrc frame (d.rd (fbCrcPoly p)) w (d.rd (fbSserLen p) - w) 0
    let c := if d.on (fbCrcInv p) then 2 ^ w - 1 - c else c
    c == frame % 2 ^ w

/-- The position field of a frame (R216, R229). -/
def Dev.frameField (d : Dev) (p frame : Nat) : Int :=
  let w := d.rd (fbSserPosW p)
  let f := bitsAt frame (d.rd (fbSserPosLsb p)) w
  let f := if d.on (fbSserGray p) then grayToBin f w else f
  let v : Int := if d.on (fbSserSigned p) then signedOf w f else f
  if d.on (fbInvert p) then -v else v

/-- A frame fails (R231): cause 1 BUSY, 2 CRC. -/
def Dev.frameFail (d : Dev) (p cause : Nat) : Dev :=
  (((d.wr (fbFrameErr p) 1).ev (.fb p) 5).inc (fbSserErrs p)).modFbp p (fun x =>
    { x with frameAt := none, errRun := x.errRun + 1, errCause := cause })

/-- SSER_FRAME_START (R227): the data line must read 1; SCK drops at the frame's sample time. -/
def effFrameStart (p : Nat) (t : Nat) (d : Dev) : Dev :=
  if d.rd (fbMode p) ≠ 4 then d
  else if !bitAt (d.rd (fbLines p)) 0 then d.frameFail p 1
  else d.modFbp p (fun x => { x with frameAt := some (4 * t) })

/-- AT_LIMIT and 0x1605 follow A where it lies beyond a bound (R234): each time A is presented there, as each discarded count
raises it in the counting modes (log entry 213). -/
def Dev.limitA (d : Dev) (p t : Nat) (a : Int) : Dev :=
  if a < d.fbLo p then ((d.wr (fbAtLimit p) 1).ev (.fb p) 2).raisePort 0x1605 p p t false
  else if d.fbHi p < a then ((d.wr (fbAtLimit p) 1).ev (.fb p) 2).raisePort 0x1605 p (p + 256) t false
  else d.wr (fbAtLimit p) 0

/-- The counter presents A limited to the bounds (R234). -/
def Dev.presentA (d : Dev) (mem : Mem) (p t : Nat) (a : Int) : Dev :=
  (d.counterTo mem p t (clampInt (d.fbLo p) (d.fbHi p) a) true).limitA p t a

/-- The bounds of port p change at boundary b (R234): in SSER the counter presents A anew, a set and no count; in the counting
modes AT_LIMIT reads 0 once the counter lies within. -/
def Dev.boundsChanged (d : Dev) (p b : Nat) : Dev :=
  match (if d.rd (fbMode p) = 4 then (d.fbp p).absA else none) with
  | some a => ((d.wrS (fbPos p) (clampInt (d.fbLo p) (d.fbHi p) a)).emuPort p b).limitA p b a
  | none => d.when_ (decide (d.fbLo p < d.rdS (fbPos p)) && decide (d.rdS (fbPos p) < d.fbHi p)) (fun d => d.wr (fbAtLimit p) 0)

/-- SSER_FRAME_END (R229 to R232): the frame received, right-aligned. -/
def effFrameEnd (p frame : Nat) (t : Nat) (mem : Mem) (d : Dev) : Dev :=
  match (d.fbp p).frameAt with
  | none => d
  | some q =>
    if d.rd (fbMode p) ≠ 4 then d.modFbp p (fun x => { x with frameAt := none })
    else
      let frame := frame % 2 ^ d.rd (fbSserLen p)
      let d := d.wr (fbSserFrame p) frame
      if !d.frameOk p frame || bitAt (d.rd (fbWire p)) 0 then d.frameFail p 2
      else
        let x := d.fbp p
        let f := d.frameField p frame
        let a := match x.absA with
          | none => f
          | some a0 => a0 + signedOf (d.rd (fbSserPosW p)) (wrapTo (d.rd (fbSserPosW p)) (f - x.field))
        let first := x.absA.isNone
        let d := (d.wr (fbFrameErr p) 0).when_ first (fun d => d.wr (fbPosValid p) 1)
        let diff : Int := match x.sample with
          | some (a0, _) => if first then 0 else a - a0
          | none => 0
        let v := match x.sample with
          | some (_, q0) => if first ∨ q ≤ q0 then 0 else divRound (diff * 64000000000) (q - q0)
          | none => 0
        let neg := decide (diff < 0)
        let rev := diff != 0 && (match x.lastDir with
          | some b => b != neg
          | none => false)
        let d := d.when_ (diff != 0) (fun d => d.wrB (fbDir p) neg)
        let d := (d.when_ rev (fun d => d.ev (.fb p) 0)).wrSat (fbSpeed p) v
        let d := d.when_ (diff != 0) (fun d => d.wr (fbStill p) 0)
        let d := d.modFbp p (fun x => { x with frameAt := none, absA := some a, field := f, sample := some (a, q), errRun := 0,
                                               lastDir := if diff = 0 then x.lastDir else some neg,
                                               changedAt := if diff = 0 ∧ !first then x.changedAt else q })
        d.presentA mem p t a

/-- SSER_ERR_LIMIT (R231). -/
def effSserLimit (p : Nat) (t : Nat) (d : Dev) : Dev :=
  if d.rd (fbSserErrLimit p) ≤ (d.fbp p).errRun then d.raisePort 0x1603 p (p + (d.fbp p).errCause * 256) t true else d

/-! ### Speed and snapshot (R221, R235, R239, R240) -/

/-- ESTIMATOR_STILL (R239, R232): no count, or no change of A, for FB_T_STILL. -/
def effStill (p : Nat) (t : Nat) (d : Dev) : Dev :=
  let x := d.fbp p
  let wait := 20 * d.rd (fbTStill p)
  if d.rd (fbMode p) = 4 then
    (if !d.on (fbStill p) && decide (x.changedAt + wait ≤ 4 * t) then (d.wr (fbStill p) 1).ev (.fb p) 8 else d)
  else
    match x.lastQ with
    | some q =>
      if !d.on (fbStill p) && decide (q + wait ≤ 4 * t) then
        let d := ((d.wr (fbEst p) 0).wr (fbStill p) 1).ev (.fb p) 8
        d.modFbp p (fun x => { x with tick := [], prevQ := none, tooth := none, interval := none, checkRef := false })
      else d
    | none => d

/-- FB_SPEED at boundary b (R240), Q28.4 counts/s. -/
def Dev.speedAt (d : Dev) (p b : Nat) : Int :=
  let x := d.fbp p
  let s : Int := if d.on (fbDir p) then -1 else 1
  let unit : Int := 64000000000
  if d.rd (fbEst p) ≠ 2 then 0
  else
    match x.tick with
    | [] =>
      match x.lastQ with
      | some q => s * min ((d.rdS (fbSpeed p)).natAbs : Int) (divRound unit (4 * b - q : Nat))
      | none => 0
    | [(q, c)] =>
      match x.prevQ with
      | some q0 => s * divRound (unit * c) (q - q0 : Nat)
      | none => 0
    | l =>
      let sum : Nat := (l.dropLast).foldl (fun k y => k + y.2) 0
      s * divRound (unit * sum) ((l.headD (0, 0)).1 - (l.getLastD (0, 0)).1 : Nat)

/-- FB_ANGLE at boundary b (R221). Log entry 212: the interpolation is floored to a whole step, the angle is 0 while no valid
sector has been seen, and a sector reached by an illegal change counts as entered forwards. -/
def Dev.hallAngle (d : Dev) (p b : Nat) : Nat :=
  let x := d.fbp p
  match x.sector with
  | none => 0
  | some s =>
    let ofs := d.rd (fbHallOfs p)
    if !d.on (fbHallInterp p) then ((2 * s + 1) * 2 ^ 32 / 12 + ofs) % 2 ^ 32
    else
      let del := min ((d.rdS (fbSpeed p)).natAbs * (4 * b - x.sectorAt) * 2 ^ 32 / (6 * 64000000000)) (2 ^ 32 / 6 - 1)
      if x.sectorBack then ((s + 1) * 2 ^ 32 / 6 + 2 ^ 32 - del + ofs) % 2 ^ 32
      else (s * 2 ^ 32 / 6 + del + ofs) % 2 ^ 32

/-- The direction of DIR_SRC 2 takes the sign of the commanded speed at a boundary (R223). -/
def Dev.takeToothDir (d : Dev) (p : Nat) : Dev :=
  match (List.range 24).find? (fun n => d.rd (fbCommPort n) == p) with
  | none => d.modFbp p (fun x => { x with toothNeg := false })
  | some n =>
    let v := (d.ax n).snap.vRef
    if v = 0 then d else d.modFbp p (fun x => { x with toothNeg := decide (v < 0) })

/-- Port p at boundary b (R235, R240): snapshot position, speed and angle; a new tick of counts begins. -/
def Dev.tickPort (d : Dev) (p b : Nat) : Dev :=
  let m := d.rd (fbMode p)
  let d := d.when_ (m != 4) (fun d => d.wrSat (fbSpeed p) (if m = 0 then 0 else d.speedAt p b))
  let d := (d.wr (fbPosSnap p) (d.rd (fbPos p))).wr (fbAngle p) (if m = 2 then d.hallAngle p b else 0)
  d.modFbp p (fun x => { x with tick := [] })

/-- FB_STATUS of port p as a word (R247). -/
def Dev.fbStatusWord (d : Dev) (p : Nat) : Nat :=
  d.rd (fbPosValid p) * 2 ^ 15 + d.rd (fbStill p) * 2 ^ 14 + d.rd (fbEst p) * 2 ^ 12 + d.rd (fbDir p) * 2 ^ 11
    + d.rd (fbAtLimit p) * 2 ^ 10 + d.rd (fbFrameErr p) * 2 ^ 9 + d.rd (fbHallBad p) * 2 ^ 8 + d.rd (fbWire p) * 2 ^ 5
    + d.rd (fbRefErr p) * 2 ^ 4 + d.rd (fbSetPend p) * 2 ^ 3 + d.rd (fbLines p)

/-- A mode of port p takes effect (R215, R236, R239); a pair whose wire fault is still active stays ignored (R214). The estimator
restarts in STILL without a STILL event (log entry 214). -/
def Dev.restartPort (d : Dev) (p : Nat) : Dev :=
  let d := (((d.wr (fbPosValid p) 0).wr (fbEst p) 0).wr (fbStill p) 1).wr (fbSpeed p) 0
  let d := (d.wr (fbHallBad p) 0).wr (fbFrameErr p) 0
  let d := if (List.range 24).any (fun n => d.isActive 0x1601 n && bitAt (d.ax n).wirePorts p) then d else d.wr (fbWire p) 0
  let s := hallSector (d.on (fbHallReverse p)) (d.rd (fbLines p))
  d.modFbp p (fun x => { setPos := x.setPos, disagree := x.disagree, sector := s })

/-- HALL_CTRL.REVERSE changes (R219): the sector in force takes its place in the new order, in which the side from which it was
entered changes too. -/
def Dev.turnSectors (d : Dev) (p : Nat) : Dev :=
  d.modFbp p (fun x => { x with sector := x.sector.map (fun s => 5 - s), sectorBack := !x.sectorBack })

/-! ### Latches (R241, R242) -/

/-- A latch of port p captures an edge (R241, R242). -/
def Dev.capture (d : Dev) (p q : Nat) : Dev :=
  if !d.on (fbLatchCont p) && !d.on (fbLatchArm p) then d
  else
    let pos := match (d.fbp p).refSet with
      | some (q0, before) => if q0 = q then before else d.rdS (fbPos p)
      | none => d.rdS (fbPos p)
    let d := d.when_ (d.evBit (.fb p) 1) (fun d => d.sticky (.fb p) 1)
    let d := (((d.wrS (fbLatchPos p) pos).wr (fbLatchTime p) (q / 4)).inw (fbLatchCount p)).evOnly (.fb p) 1
    if d.on (fbLatchCont p) then d else d.wr (fbLatchArm p) 0

/-- LATCH_CAPTURE (R241, R242): the reference (falling false) or a falling edge of Z of port p, at an edge time. The transitions
of a pair that has tripped the wire check are ignored (R214). -/
def effLatchCapture (p fine : Nat) (falling : Bool) (t : Nat) (d : Dev) : Dev :=
  let m := d.rd (fbMode p)
  let ok := if falling then d.rd (fbLatchSrc p) == 2 && m == 1
            else d.rd (fbLatchSrc p) == 1 && (m == 3 || (m == 1 && d.on (fbZUsed p)))
  let tripped := bitAt (d.rd (fbWire p)) (if m = 3 then 0 else 2)
  if ok && !tripped then d.capture p (4 * t + fine) else d

/-- The input edge of event port k reaches the feedback latches that name it (R241, R338). -/
def Dev.latchPorts (d : Dev) (k q : Nat) : Dev :=
  d.each (List.range 24) (fun p d => if d.rd (fbLatchSrc p) == 3 && d.rd (fbLatchEvp p) == k then d.capture p q else d)

end Sys2Proof.Machine
end

