-- ==== Sys2Proof/Machine/Rotation.lean ====
section
/-! DEFINITION. The rotation of a converter bank (R129, R137, R138, R140): the grid of its starts, the slice that each start
offers, and the stream that each start goes to. What the analogue side delivers, the raw code of a conversion, is an operand of
the command that ends it. Times are in quarters of a nanosecond. -/
namespace Sys2Proof.Machine

/-! ### The grid and the slices (R128, R129, R158) -/

/-- The active slices of bank c, in ascending order. -/
def Dev.activeSlices (d : Dev) (c : Nat) : List Nat := bitList 5 (d.rd (adcActive c))

/-- The spacing of the starts of bank c; with fewer than two active slices it has none (R129, R158, log entry 204). -/
def Dev.spacing (d : Dev) (c : Nat) : Option Nat :=
  if d.rd (adcMode c) = 4 then some 400
  else match (d.activeSlices c).length with
    | 0 | 1 => none
    | 2 => some 100
    | 3 => some 70
    | _ => some 50

/-- The active slice after slice s, cyclically. -/
def sliceAfter (active : List Nat) (s : Nat) : Nat := ((active.find? (fun x => decide (s < x))).orElse (fun _ => active.head?)).getD s

/-- The sampling and the whole length of a conversion with a sampling time of ts cycles of 5 ns (R128, R158). -/
def Dev.convLength (d : Dev) (c ts : Nat) : Nat × Nat := (20 * ts, 20 * ts + (if d.rd (adcMode c) = 4 then 740 else 140))

/-- A slice is converting at a start. -/
def Rotation.busy (r : Rotation) (s : Nat) : Bool := (tabGet r.runs s).any (fun v => decide (r.next < v.stop))

/-! ### Windows and their turns (R138) -/

/-- An open window: its axis and number, its end, and how many channels it has. -/
structure OpenWin where
  /-- Axis. -/
  axis : Nat
  /-- Number among the windows of the plan. -/
  num : Nat
  /-- Start. -/
  start : Int
  /-- End. -/
  stop : Int
  /-- Channels. -/
  size : Nat
deriving DecidableEq, Repr

/-- The windows that the plans of bank c have fixed and not delivered, in ascending order of the axis (R138, R165). -/
def Dev.bankWins (d : Dev) (c : Nat) : List OpenWin :=
  (List.range 4).flatMap (fun k =>
    let n := 4 * c + k
    let a := d.ax n
    if a.planOpen then
      (List.range a.wins.length).filterMap (fun i => (a.wins[i]?).map (fun w =>
        ({ axis := n, num := i, start := a.planTv + 5 * w.start, stop := a.planTv + 5 * w.stop, size := w.chans.length } : OpenWin)))
    else [])

/-- The entry of a combined list whose turn it is: the window and the channel slot (R138). -/
def turnAt : List OpenWin → Nat → Option (OpenWin × Nat)
  | [], _ => none
  | w :: ws, i => if i < w.size then some (w, i) else turnAt ws (i - w.size)

/-! ### One start (R137, R140) -/

/-- The lowest injection slot of bank c that is pending at a time: triggered 20 ns before or earlier, and not started (R140). -/
def Dev.injPending (d : Dev) (c q : Nat) (r : Rotation) : Option Nat :=
  (List.range 8).find? (fun i =>
    (tabGet (d.bank c).inj i).any (fun j => decide (4 * j.at_ + 80 ≤ q)) && !r.given.any (fun v => v.job == .inject i))

/-- A sequence conversion in its sampling phase. -/
def Conv.sampling (v : Conv) (q : Nat) : Bool :=
  decide (q < v.held) && (match v.job with | .entry _ => true | _ => false)

/-- The slice that a pending injection takes at a start: an idle one, first the offered one where no window conversion is due on
it; otherwise one in the sampling phase of a sequence conversion; otherwise the offered one, unless it converts (R140). -/
def Dev.injSlice (d : Dev) (c : Nat) (r : Rotation) (due : Bool) : Option Nat :=
  let active := d.activeSlices c
  let others := active.filter (· != r.slice)
  ((if due then others else r.slice :: others).find? (fun s => !r.busy s)).orElse (fun _ =>
    (active.find? (fun s => (tabGet r.runs s).any (fun v => v.sampling r.next))).orElse (fun _ =>
      if r.busy r.slice then none else some r.slice))

/-- A slice begins a conversion. -/
def Rotation.begin (r : Rotation) (v : Conv) : Rotation := { r with runs := tabSet r.runs v.slice v, given := r.given ++ [v] }

/-- The sequence conversion that a slice samples is abandoned, and its entry is started again first (R140). -/
def Rotation.abandon (r : Rotation) (s : Nat) : Rotation :=
  match tabGet r.runs s with
  | some v =>
    match v.job with
    | .entry e => if v.sampling r.next then { r with given := r.given.filter (· != v), entries := e :: r.entries } else r
    | _ => r
  | none => r

/-- A conversion of a job on a slice at the present start. -/
def Dev.convAt (d : Dev) (c : Nat) (r : Rotation) (s ts : Nat) (job : Job) : Conv :=
  let l := d.convLength c ts
  { job := job, start := r.next, held := r.next + l.1, stop := r.next + l.2, slice := s }

/-- Stream 3 at a start (R137): the cross-check, the scan, the entries of the sequence, each held back where it would not end
before the next window opens (R129). -/
def Dev.sequenceStart (d : Dev) (c : Nat) (r : Rotation) (wins : List OpenWin) : Option Rotation :=
  let fits := fun (v : Conv) => wins.all (fun w => decide (w.start ≤ (r.next : Int)) || decide ((v.stop : Int) ≤ w.start))
  let try_ := fun (v : Conv) (r : Rotation) => if fits v then some (r.begin v) else none
  match r.cross, r.scan, r.entries with
  | i :: rest, _, _ => try_ (d.convAt c r r.slice 3 (.cross i)) { r with cross := rest }
  | [], i :: rest, _ => try_ (d.convAt c r r.slice 3 (.scan i)) { r with scan := rest }
  | [], [], e :: rest =>
    try_ { d.convAt c r r.slice (max (d.rd (adcSeqCfgTs c e)) 3) (.entry e) with filt := (d.rd (adcSeqCfgFilt c e), d.rd (adcSeqCfgK c e)) }
      { r with entries := rest }
  | [], [], [] => none

/-- Foreground calibration at a start (R137, R150): a step of the offered slice, once the injections it waits for have ended. -/
def Dev.stepStart (d : Dev) (c : Nat) (r : Rotation) : Rotation :=
  let left := (tabGet r.steps r.slice).getD 0
  let waits := r.after.any (fun i => (tabGet (d.bank c).inj i).isSome && !r.given.any (fun v => v.job == .inject i && decide (v.stop ≤ r.next)))
  if left = 0 ∨ waits then r
  else { r with runs := tabSet r.runs r.slice (d.convAt c r r.slice 3 .step), steps := tabSet r.steps r.slice (left - 1) }

/-- The present start of bank c goes to the first stream with work pending (R137): the turn of an open window, with an injection
before it (R140); stream 3; foreground calibration. A turn that meets a busy slice is lost (R129). -/
def Dev.giveStart (d : Dev) (c : Nat) (r : Rotation) : Rotation :=
  let wins := d.bankWins c
  let here := wins.filter (fun w => decide (w.start ≤ (r.next : Int)) && decide ((r.next : Int) < w.stop))
  let keys := here.map (fun w => (w.axis, w.num))
  let i := if keys = r.opens then r.turn else 0
  let r := { r with opens := keys, turn := i + 1 }
  let size := here.foldl (fun s w => s + w.size) 0
  let turn := (turnAt here (i % max size 1)).filter (fun x => decide ((r.next + (d.convLength c 3).2 : Int) ≤ x.1.stop))
  let lost := fun (r : Rotation) => match turn with
    | some (w, _) => { r with given := r.given ++ [{ job := .lost w.axis w.num, start := r.next, held := r.next, stop := r.next, slice := r.slice }] }
    | none => r
  let own := fun (r : Rotation) =>
    match turn with
    | some (w, j) => r.begin (d.convAt c r r.slice 3 (.window w.axis w.num j))
    | none => (d.sequenceStart c r wins).getD (d.stepStart c r)
  let rest := fun (r : Rotation) => if r.busy r.slice then lost r else own r
  match d.injPending c r.next r with
  | none => rest r
  | some p =>
    match d.injSlice c r turn.isSome with
    | none => rest r
    | some s =>
      let ts := max (((tabGet (d.bank c).inj p).map Injection.ts).getD 3) 3
      rest ((r.abandon s).begin (d.convAt c r s ts (.inject p)))

/-! ### The rotation from one command to the next -/

/-- The first time at which the bank may have work for a start: now, or the next opening of a window or pending injection. -/
def Dev.workAt (d : Dev) (c : Nat) (r : Rotation) : Option Nat :=
  let wins := d.bankWins c
  let now := !r.cross.isEmpty || !r.scan.isEmpty || !r.entries.isEmpty || r.steps.any (fun x => x.2 != 0)
    || wins.any (fun w => decide (w.start ≤ (r.next : Int)) && decide ((r.next : Int) < w.stop))
  let later := (wins.filterMap (fun w => if (r.next : Int) < w.start then some w.start.toNat else none))
    ++ ((List.range 8).filterMap (fun i =>
      if r.given.any (fun v => v.job == .inject i) then none else (tabGet (d.bank c).inj i).map (fun j => 4 * j.at_ + 80)))
  if now then some r.next
  else later.foldl (fun m x => some (match m with | some y => min x y | none => x)) none

/-- The next start of the grid, and the slice that it offers. -/
def Dev.stepOn (d : Dev) (c sp k : Nat) (r : Rotation) : Rotation :=
  let active := d.activeSlices c
  { r with next := r.next + k * sp, slice := (List.range (k % max active.length 1)).foldl (fun s _ => sliceAfter active s) r.slice }

/-- Starts of bank c before a limit, with a bound on their number; starts without work are passed over at once. -/
def Dev.turnRot (d : Dev) (c sp limit : Nat) : Nat → Rotation → Rotation
  | 0, r => r
  | fuel + 1, r =>
    if limit ≤ r.next then r
    else
      let work := (d.workAt c r).getD limit
      if r.next < work then
        let r := d.stepOn c sp ((min work limit - r.next + sp - 1) / sp) { r with opens := [], turn := 0 }
        Dev.turnRot d c sp limit fuel r
      else Dev.turnRot d c sp limit fuel (d.stepOn c sp 1 (d.giveStart c r))

/-- The rotation of bank c goes on to the present device time; the last start of a tick lies at least one spacing before the
next boundary (R129). -/
def Dev.turnBank (d : Dev) (c : Nat) : Dev :=
  match d.spacing c with
  | none => d
  | some sp =>
    let limit := min (4 * d.now) (4 * d.nextTick + 1 - sp)
    let r := d.rot c
    if limit ≤ r.next then d else d.modRot c (fun r => d.turnRot c sp limit (2 * ((limit - r.next) / sp) + 2) r)

/-- All rotations go on to the present device time. -/
def Dev.turnedRots (d : Dev) : Tab Nat Rotation := (d.each (List.range 6) (fun c d => d.turnBank c)).rots

/-- A rotation start falls at a tick boundary; the order of the slices continues across it (R129). -/
def Dev.alignRots (d : Dev) (b : Nat) : Dev := d.each (List.range 6) (fun c d => d.modRot c (fun r => { r with next := 4 * b }))

/-- The active slices of bank c change from those of `old`: the slice that comes in takes the next turn of the one it replaces
(R131); otherwise the order goes on with the next active slice. A rotation that begins does so on the grid of the tick. -/
def Dev.newRotation (d old : Dev) (c : Nat) : Dev :=
  let was := old.activeSlices c
  let active := d.activeSlices c
  match d.spacing c with
  | none => d
  | some sp =>
    d.modRot c (fun r =>
      let next := if (old.spacing c).isSome then r.next else 4 * d.tickStart + (4 * (d.now - d.tickStart) + sp - 1) / sp * sp
      let come := active.filter (fun s => !was.contains s)
      let gone := was.filter (fun s => !active.contains s)
      let slice := if active.contains r.slice then r.slice else if gone = [r.slice] ∧ come.length = 1 then come.headD 0 else sliceAfter active r.slice
      { r with next := next, slice := slice, steps := r.steps.filter (fun x => active.contains x.1) })

/-! ### What a command takes from the rotation -/

/-- Conversions that have ended at the present device time. -/
def Dev.ended (d : Dev) (l : List Conv) : Bool := l.all (fun v => decide (v.stop ≤ 4 * d.now))

/-- The conversions of bank c that belong to a kind of job. -/
def Dev.convs (d : Dev) (c : Nat) (p : Job → Bool) : List Conv := (d.rot c).given.filter (fun v => p v.job)

/-- They are delivered. -/
def Dev.dropConvs (d : Dev) (c : Nat) (p : Job → Bool) : Dev := d.modRot c (fun r => { r with given := r.given.filter (fun v => !p v.job) })

/-- A conversion of a window of axis n, or a lost turn of one. -/
def Job.ofAxis (n : Nat) : Job → Bool
  | .window m _ _ | .lost m _ => m == n
  | _ => false
/-- A conversion of the sequence. -/
def Job.ofSequence : Job → Bool
  | .entry _ => true
  | _ => false
/-- A conversion of the supervision scan. -/
def Job.ofScan : Job → Bool
  | .scan _ => true
  | _ => false
/-- A conversion of the cross-check. -/
def Job.ofCross : Job → Bool
  | .cross _ => true
  | _ => false

/-- One conversion: the slice that made it and its raw 14-bit code in two's complement. -/
abbrev Sample := Nat × Nat

/-- Conversions with their raw codes, in the order of their starts; a code that is not given counts as 0. -/
def samplesOf (l : List Conv) (codes : List Nat) : List (Conv × Sample) :=
  (List.range l.length).filterMap (fun i => (l[i]?).map (fun v => (v, (v.slice, codes.getD i 0))))

end Sys2Proof.Machine
end

