-- ==== Sys2Proof/Machine/Adc.lean ====
section
/-! DEFINITION. The converter banks (R128 to R162): result correction and records, the log, injected conversions, the
sequence with its filters and comparators, the supervision scan, the cross-check, and calibration. What the analogue
side delivers, a slice and its raw code for each conversion, is the operand of the command that ends it. -/
namespace Sys2Proof.Machine

/-- The coefficients a calibration of one slice finds: offset in LSB, gain in Q2.30, skew in 100 ps steps (R130, R131). -/
structure Coef where
  /-- Offset. -/
  offset : Int
  /-- Gain. -/
  gain : Nat
  /-- Skew. -/
  skew : Int
deriving DecidableEq, Repr

/-- The limits a calibration passes under (R131): |offset| ≤ 64 LSB, gain within 0.97 to 1.03, skew within the trim range. -/
def Coef.pass (k : Coef) : Bool :=
  decide (k.offset.natAbs ≤ 64) && decide (97 * 2 ^ 30 ≤ 100 * k.gain) && decide (100 * k.gain ≤ 103 * 2 ^ 30)
    && decide (-32 ≤ k.skew) && decide (k.skew ≤ 31)

/-! ### Results (R130, R151, R152) -/

/-- The corrected code of a conversion (R130). -/
def Dev.corrected (d : Dev) (c : Nat) (x : Sample) : Int :=
  clampInt (-8192) 8191 (divRound ((signedOf 14 x.2 - d.rdS (adcSliceOffset c x.1)) * d.rd (adcSliceGain c x.1)) (2 ^ 30))

/-- A mismatch of the pair of bank c is uncleared (R155). -/
def Dev.xchk (d : Dev) (c : Nat) : Bool := d.on (xckMismatch (c / 2))

/-- A record of R151. -/
def record (valid settle outside xchk : Bool) (slice tag : Nat) (result : Int) : Nat :=
  (if valid then 2 ^ 31 else 0) + (if settle then 2 ^ 30 else 0) + (if outside then 2 ^ 29 else 0) + (if xchk then 2 ^ 28 else 0)
    + slice % 16 * 2 ^ 24 + tag % 256 * 2 ^ 16 + wrapTo 16 result

/-- VALID of a record. -/
def recValid (r : Nat) : Bool := bitAt r 31
/-- SETTLE of a record. -/
def recSettle (r : Nat) : Bool := bitAt r 30
/-- RESULT of a record, in quarters of a code. -/
def recResult (r : Nat) : Int := signedOf 16 r

/-- LOG_APPEND (R153): a record of stream bit i goes to the ring with the time of its sampling start. -/
def Dev.logAppend (d : Dev) (mem : Mem) (c i rec start t : Nat) : Dev × Mem :=
  if !d.on (adcLogEn c) || !bitAt (d.rd (adcLogStreams c)) i then (d, mem)
  else
    let a := 8 * d.rd (adcLogBase c) + 8 * (d.rd (adcLogWr c) % max (d.rd (adcLogSize c)) 1)
    let (ok, d, mem) := d.bankWrite mem 6 a rec t
    if !ok then (d.ev (.adc c) 9, mem)
    else
      let (_, d, mem) := d.bankWrite mem 6 (a + 4) (start % 2 ^ 32) t
      (d.inw (adcLogWr c), mem)

/-- Append a list of records, each with its sampling start, in order. -/
def Dev.logAll (d : Dev) (mem : Mem) (c i t : Nat) : List (Nat × Nat) → Dev × Mem
  | [] => (d, mem)
  | (r, start) :: rs =>
    let (d, mem) := d.logAppend mem c i r start t
    Dev.logAll d mem c i t rs

/-! ### Injected conversions (R140 to R142) -/

/-- INJ_GO (R141): a write to ADC_INJ_GO triggers each slot whose bit is 1 and whose TRIG is 1. -/
def effInjGo (c mask : Nat) (t : Nat) (d : Dev) : Dev := d.injWhere c 1 t (fun _ i => bitAt mask i)

/-- INJECTION_COMPLETE (R140, R142): the conversion that the rotation gave to slot i of bank c has ended with a raw code. -/
def effInjComplete (c i code : Nat) (t : Nat) (mem : Mem) (d : Dev) : Dev × Mem :=
  match (d.convs c (· == .inject i)).head? with
  | none => (d, mem)
  | some v =>
    if !d.ended [v] then (d, mem) else
    let x : Sample := (v.slice, code)
    let start := v.start / 4
    let r := record true false false (d.xchk c) x.1 (0x80 + i) (4 * d.corrected c x)
    let d := (d.modBank c (fun b => { b with inj := tabDel b.inj i })).dropConvs c (· == .inject i)
    let d := ((d.wr (adcInjRes c i) r).wr (adcInjTime c i) start).ev (.adc c) 2
    d.logAppend mem c 1 r start t

/-! ### The sequence (R143 to R148) -/

/-- A trigger of a pass (R143, R144). -/
def Dev.startPass (d : Dev) (c : Nat) : Dev :=
  if d.rd (adcSeqLen c) = 0 then d
  else if (d.bank c).pass.isSome then (d.inc (adcSeqDrop c)).ev (.adc c) 6
  else
    let len := d.rd (adcSeqLen c)
    (d.modBank c (fun b => { b with pass := some len })).modRot c (fun r => { r with entries := List.range len })

/-- SEQ_GO (R143): a write of 1 to GO, with TRIG 1. -/
def effSeqGo (c : Nat) (_t : Nat) (d : Dev) : Dev := if d.rd (adcSeqTrig c) = 1 then d.startPass c else d

/-- A delivered edge of event port k starts the passes that name it (R143, R338). -/
def Dev.seqEvent (d : Dev) (k : Nat) : Dev :=
  d.each (List.range 6) (fun c d => if d.rd (adcSeqTrig c) == 3 && d.rd (adcSeqEvp c) == k then d.startPass c else d)

/-- An entry's filter after conversion x with a filter and its K (R146): the entry, the delivered value in quarters of a code,
and whether it was formed from one conversion. -/
def SeqEntry.filter (s : SeqEntry) (filt : Nat × Nat) (x : Int) : SeqEntry × Int × Bool :=
  match filt.1 with
  | 1 =>
    let h := (x :: s.hist).take (2 ^ filt.2)
    ({ s with hist := h }, divRound (4 * h.foldl (· + ·) 0) h.length, h.length == 1)
  | 2 =>
    let y := match s.iir with
      | none => x * 65536
      | some y => y + divRound (x * 65536 - y) (2 ^ filt.2)
    ({ s with iir := some y }, divRound (4 * y) 65536, s.iir.isNone)
  | _ => (s, 4 * x, true)

/-- The comparator of an entry after a delivered value (R148): whether it leaves and whether it enters the band. -/
def Dev.compare (d : Dev) (c e : Nat) (s : SeqEntry) (y : Int) : SeqEntry × Bool × Bool :=
  let inside := decide (d.rdS (adcWcLow c e) ≤ y) && decide (y ≤ d.rdS (adcWcHigh c e))
  ({ s with inside := some inside }, !inside && s.inside != some false, inside && s.inside == some false)

/-- One entry of a pass delivers its record (R145 to R148). A conversion that began before a commit changed its entry uses the
filter that it began with, and leaves the new one alone. -/
def Dev.seqEntry (d : Dev) (mem : Mem) (c e : Nat) (v : Conv) (x : Sample) (t : Nat) : Dev × Mem :=
  let now := (tabGet (d.bank c).entries e).getD {}
  let s0 := v.was.getD now
  let (s, y, single) := s0.filter v.filt (d.corrected c x)
  let s := { s with inside := now.inside }
  let settle := s.settle != 0
  let on := d.on (adcWcEn c e)
  let (s, leave, enter) := if on && !settle then d.compare c e s y else (s, false, false)
  let outside := on && s.inside == some false
  let slice := if single then x.1 else 15
  let r := record true settle outside (d.xchk c) slice e y
  let kept := if v.was.isSome then { now with inside := s.inside } else { s with settle := s.settle - 1 }
  let d := d.modBank c (fun b => { b with entries := tabSet b.entries e kept })
  let d := d.wr (adcRes c e) r
  let d := d.when_ leave (fun d => (d.wr (adcWcFlags c) (setBit (d.rd (adcWcFlags c)) e)).ev (.adc c) 0)
  let d := d.when_ (leave && d.on (adcWcAction c e)) (fun d => d.raise 0x1306 (4 * c + d.rd (adcWcAxis c e)) 6 e t)
  let d := d.when_ (enter && d.on (adcWcReentry c e)) (fun d =>
    (d.wr (adcWcFlags c) (setBit (d.rd (adcWcFlags c)) (16 + e))).ev (.adc c) 1)
  let d := d.when_ (!settle) (fun d => d.each (List.range 4) (fun k d =>
    if d.mode (4 * c + k) == 0 && d.rd (crvSrc (4 * c + k)) == 0 && d.rd (crvSeqE (4 * c + k)) == e
    then d.curveInput (4 * c + k) y else d))
  d.logAppend mem c 2 r (v.start / 4) t

/-- The entries of a pass, in order. -/
def Dev.seqEntries (d : Dev) (mem : Mem) (c t : Nat) : List (Conv × Sample) → Dev × Mem
  | [] => (d, mem)
  | (v, x) :: rest =>
    let (d, mem) := match v.job with
      | .entry e => d.seqEntry mem c e v x t
      | _ => (d, mem)
    Dev.seqEntries d mem c t rest

/-- The entries of a pass in the order of their numbers: an abandoned one was started again later (R140, R146). -/
def Dev.passConvs (d : Dev) (c n : Nat) : List Conv := (List.range n).filterMap (fun e => (d.convs c (· == .entry e)).head?)

/-- SEQUENCE_PASS_END (R143 to R146): every entry of the length at which the pass started has been converted, with a raw code
each. -/
def effPassEnd (c : Nat) (codes : List Nat) (t : Nat) (mem : Mem) (d : Dev) : Dev × Mem :=
  match (d.bank c).pass with
  | none => (d, mem)
  | some n =>
    let l := d.passConvs c n
    if l.length < n ∨ d.ended l = false then (d, mem) else
    let (d, mem) := (d.dropConvs c Job.ofSequence).seqEntries mem c t (samplesOf l codes)
    ((d.modBank c (fun b => { b with pass := none })).ev (.adc c) 3, mem)

/-! ### The supervision scan (R126, R149) -/

/-- The channels of the scan of bank c (R149). -/
def scanChannels (c : Nat) : List Nat :=
  if c < 4 then [0x1C, 0x1D, 0x20, 0x21, 0x22, 0x23, 0x24] else [0x1C, 0x1D, 0x1E, 0x1F]

/-- In range under R126: with a hysteresis after the bus has been low. New value of "has been low", and in range. -/
def busJudge (low : Bool) (v uv hyst ov : Int) : Bool × Bool :=
  let low := if v < uv then true else if uv + hyst ≤ v then false else low
  (low, !low && decide (v ≤ ov))

/-- The bus of die c has a new measurement, Q16.16 V (R126). -/
def Dev.setBus (d : Dev) (c v : Nat) : Dev :=
  let (low, ok) := busJudge (d.bank c).busLow v (d.rd (pwdVbusUv c)) (d.rd (pwdVbusHyst c)) (d.rd (pwdVbusOv c))
  let wasLow := (d.bank c).busLow
  let wasOver := !wasLow && decide (d.rdS (pwdVbusOv c) < d.rdS (pwdVbus c))
  let d := ((d.wr (pwdVbus c) v).modBank c (fun b => { b with busLow := low })).wrB (pwdVbusOk c) ok
  let d := d.when_ (low && !wasLow) (fun d => d.ev (.pwd c) 0)
  d.when_ (!ok && !low && !wasOver) (fun d => d.ev (.pwd c) 1)

/-- The bus of axis n has a valid measurement (R108): it is the last valid value of every axis of that bus. -/
def Dev.noteBus (d : Dev) (n v : Nat) : Dev := d.modAx n (fun a => { a with busValid := some v })

/-- The bus of external axis n has a new measurement, Q16.16 V (R126, fixed hysteresis of 1.0 V). -/
def Dev.setExtBus (d : Dev) (n v : Nat) : Dev :=
  let (low, ok) := busJudge (d.ax n).busLow v (d.rd xstVbusUv) 65536 (d.rd xstVbusOv)
  let w := d.rd xstVbusOk
  (d.modAx n (fun a => { a with busLow := low })).wr xstVbusOk (if ok then setBit w (n - 16) else clearBit w (n - 16))

/-- The bus of die c (clusters 0 to 3) or of one external axis is measured: channel 0x1C + k (R134, R135). -/
def Dev.busMeasured (d : Dev) (c k : Nat) (code : Int) : Dev :=
  let code := code.toNat
  if c < 4 then
    let v := code * 576
    (d.setBus c v).each (List.range 4) (fun i d => d.noteBus (4 * c + i) v)
  else
    let n := 4 * c + k
    let v := (divRound (code * 12 * d.rd (xstVscale (n - 16))) 81920).toNat
    (d.setExtBus n v).noteBus n v

/-- The five temperature readings of die c, Q8.8 °C, and how many in a row lie above PWDc_TEMP_TRIP (R126). -/
def Dev.setTemps (d : Dev) (c : Nat) (temps : List Nat) : Dev :=
  let d := d.each (List.range 5) (fun j d => d.wr (pwdTemp c j) (temps.getD j 0))
  let above := fun (d : Dev) (j : Nat) (lim : Int) => decide (lim < d.rdS (pwdTemp c j))
  let d := d.modBank c (fun b => { b with hot := (List.range 5).map (fun j =>
    if above d j (d.rdS (pwdTempTrip c)) then b.hot.getD j 0 + 1 else 0) })
  let trip := (List.range 5).any (fun j => above d j (d.rdS (pwdTempTrip c)))
  let warn := (List.range 5).any (fun j => above d j (d.rdS (pwdTempWarn c)))
  let d := d.when_ (warn && !d.on (pwdStTempWarn c)) (fun d => d.ev (.pwd c) 2)
  let d := d.when_ (trip && !d.on (pwdStTempTrip c)) (fun d => d.ev (.pwd c) 3)
  (d.wrB (pwdStTempWarn c) warn).wrB (pwdStTempTrip c) trip

/-- SUPERVISION_SCAN_END (R149): every channel of the scan has been converted, with a raw code each, and the temperatures that
the sensors' trim constants give. -/
def effScanEnd (c : Nat) (codes temps : List Nat) (t : Nat) (mem : Mem) (d : Dev) : Dev × Mem :=
  let l := d.convs c Job.ofScan
  if (d.bank c).scan.isNone || decide (l.length < (scanChannels c).length) || !d.ended l then (d, mem)
  else
    let ys := samplesOf l codes
    let recs := ((scanChannels c).zip ys).map (fun q => (record true false false (d.xchk c) q.2.2.1 (0xC0 + q.1) (4 * d.corrected c q.2.2), q.2.1.start / 4))
    let code := fun (i : Nat) => ((ys[i]?).map (fun y => d.corrected c y.2)).getD 0
    let d := (d.modBank c (fun b => { b with scan := none, scanned := true })).dropConvs c Job.ofScan
    let d :=
      if c < 4 then
        let d := (d.busMeasured c 0 (code 0)).wr (pwdVgd c) ((code 1).toNat * 144)
        d.setTemps c temps
      else d.each (List.range 4) (fun k d => d.busMeasured c k (code k))
    d.logAll mem c 3 t recs

/-- SUPERVISION_SCAN_LATE (R149): a scan not complete 1 ms after it fell due. -/
def effScanLate (c : Nat) (t : Nat) (d : Dev) : Dev :=
  match (d.bank c).scan with
  | some t0 =>
    if t0 + 1000000 ≤ t ∧ !(d.bank c).scanLate then (d.modBank c (fun b => { b with scanLate := true })).raise 0x2304 c 6 0 t
    else d
  | none => d

/-- At a boundary the buses are judged on the bank's measurement (R126): consecutive ticks out of range. -/
def Dev.tickBus (d : Dev) : Dev :=
  let d := d.each (List.range 4) (fun c d =>
    let bad := (d.bank c).scanned && !d.on (pwdVbusOk c)
    d.modBank c (fun b => { b with busOut := if bad then b.busOut + 1 else 0 }))
  d.each (List.range 8) (fun j d =>
    let bad := (d.bank ((16 + j) / 4)).scanned && !bitAt (d.rd xstVbusOk) j
    d.modAx (16 + j) (fun a => { a with busOut := if bad then a.busOut + 1 else 0 }))

/-! ### Cross-check (R154, R155) -/

/-- The rotation of bank c starts the eight conversions of a cross-check; what an earlier one converted is dropped (R154). -/
def Dev.crossBegin (d : Dev) (c : Nat) : Dev := (d.dropConvs c Job.ofCross).modRot c (fun r => { r with cross := List.range 8 })

/-- The cross-check of pair p falls due at a boundary; one that is not complete is not evaluated (R154). While a cluster of the
pair is rechecked it is skipped (R489). -/
def Dev.crossDue (d : Dev) (p : Nat) : Dev :=
  if !d.on (xckXchkEn p) || d.rd timeTickCount % max (d.rd (xckXchkPeriod p)) 1 != 0 || decide (d.stepsDone < 6) then d
  else
    let barred := d.rd merRecheck / 4 ^ p % 4 != 0
    let d := d.when_ (bitAt d.xckDue p || barred) (fun d => (d.inc (xckSkip p)).ev (.xck p) 1)
    if barred then d else (({ d with xckDue := setBit d.xckDue p } : Dev).crossBegin (2 * p)).crossBegin (2 * p + 1)

/-- The mean of four results of a list from place k on, in quarters of a code. -/
def Dev.meanOf (d : Dev) (c : Nat) (l : List (Conv × Sample)) (k : Nat) : Int :=
  (((l.drop k).take 4).map (fun x => d.corrected c x.2)).foldl (· + ·) 0

/-- CROSS_CHECK_EVALUATE (R154): four conversions of channels 0x3F and 0x3E in each bank of pair p have ended, with a raw code
each. -/
def effCross (p : Nat) (codesE codesO : List Nat) (t : Nat) (mem : Mem) (d : Dev) : Dev × Mem :=
  let e := 2 * p
  let o := 2 * p + 1
  let ce := d.convs e Job.ofCross
  let co := d.convs o Job.ofCross
  if !bitAt d.xckDue p || decide (ce.length < 8) || decide (co.length < 8) || !d.ended (ce ++ co) then (d, mem)
  else
    let d := (({ d with xckDue := clearBit d.xckDue p } : Dev).dropConvs e Job.ofCross).dropConvs o Job.ofCross
    let (le, lo) := (samplesOf ce codesE, samplesOf co codesO)
    let (de, dn) := (d.meanOf e le 0, d.meanOf o lo 0)
    let (be, bo) := (d.meanOf e le 4, d.meanOf o lo 4)
    let tol := 4 * d.rd (xckXchkTol p)
    let badDac := decide (tol < (de - dn).natAbs)
    let badBus := decide (tol < (be - bo).natAbs)
    let d := (((d.wrS (xckDacEven p) de).wrS (xckDacOdd p) dn).wrS (xckBusEven p) be).wrS (xckBusOdd p) bo
    let d :=
      if badDac || badBus then
        let data := (if badBus then 1 else 0) + (if badDac then 2 else 0)
        let d := ((d.wr (xckMismatch p) 1).ev (.xck p) 0).inc (xckFails p)
        (d.raise 0x2301 e 6 data t).raise 0x2301 o 6 data t
      else d
    let rec' := fun (d : Dev) (c ch : Nat) (v : Int) (l : List Conv) (k : Nat) =>
      (record true false false (d.xchk c) 15 (0xC0 + ch) v, ((l[k]?).map Conv.start).getD 0 / 4)
    let (d, mem) := d.logAll mem e 3 t [rec' d e 0x3F de ce 0, rec' d e 0x3E be ce 4]
    d.logAll mem o 3 t [rec' d o 0x3F dn co 0, rec' d o 0x3E bo co 4]

/-- XCK_CLEAR (R155). -/
def effXckClear (p : Nat) (_t : Nat) (d : Dev) : Dev := d.wr (xckMismatch p) 0

/-! ### Slices and modes (R131 to R133, R150, R158) -/

/-- The slices that are not retired. -/
def Dev.working (d : Dev) (c : Nat) : List Nat := (List.range 5).filter (fun s => !bitAt (d.rd (adcRetired c)) s)

/-- The bank's mode changes (R133, R159, R160): the record, the event, and the faults of IMPAIRED and HALTED. -/
def Dev.setBankMode (d : Dev) (c new src t : Nat) : Dev :=
  let old := d.rd (adcMode c)
  if old = new then d
  else
    let axes := List.range 4
    let d := d.when_ (new == 3) (fun d => d.each axes (fun k d => d.noteOff (4 * c + k) t))
    let d := (d.wr (adcMode c) new).ev (.adc c) 5
    let d := d.note t 2 6 c 0x0900 (old * 16 + new + src * 256)
    let d := d.when_ (old == 2) (fun d => d.endFault 0x2303 c t)
    if new = 2 then d.raise 0x2303 c 6 0 t else if new = 3 then d.raise 0x2305 c 6 0 t else d

/-- The mode of R133 for a number of working slices. -/
def modeOf (working : Nat) : Nat := if 5 ≤ working then 0 else if working = 4 then 1 else if 2 ≤ working then 2 else 3

/-- Set the rotation of bank c: the active slices and the spare, 7 for none. -/
def Dev.setRotation (d : Dev) (c : Nat) (active : List Nat) (spare : Nat) : Dev :=
  let old := d
  let d := (d.wr (adcActive c) (maskOf active)).wr (adcSpare c) spare
  let d := d.each (List.range 5) (fun s d =>
    d.wr (adcSliceState c s) (if bitAt (d.rd (adcRetired c)) s then 2 else if active.contains s then 0 else if s = spare then 1 else 3))
  d.newRotation old c

/-! ### When the scan falls due (R149) -/

/-- In step 3 the slices are calibrated from the end of its phase 2 on: bank c runs with slice 4 as spare, at the nominal
coefficients until SELF_CALIBRATION brings those measured (log entry 28). -/
def Dev.slicesUp (d : Dev) (c : Nat) : Dev :=
  if d.stepsDone = 2 ∧ d.activeSlices c = [] then d.setRotation c [0, 1, 2, 3] 4 else d

/-- SUPERVISION_SCAN (R149): the scan falls due at the first tick boundary 100 µs or more after the last one, from the end of
phase 2 of start-up step 3 on; while step 3 runs the sender of the command knows its phase (log entry 28). -/
def effScan (c : Nat) (t : Nat) (d : Dev) : Dev :=
  let b := d.bank c
  let due := match b.scanLast with
    | none => true
    | some t0 => decide (t0 + 100000 ≤ t)
  if decide (2 ≤ d.stepsDone) && due && b.scan.isNone && t == d.tickStart then
    ((d.slicesUp c).modBank c (fun b => { b with scan := some t, scanLast := some t, scanLate := false })).modRot c (fun r =>
      { r with scan := List.range (scanChannels c).length })
  else d

/-- The rotation and the mode that follow from the working slices: with all five one of them is the spare, with fewer
all of them are active (R132, R133); in LOWPWR its two lowest working slices are, and the mode stays (R158). The
start-up faults of failed slices end when repeated calibrations have brought the slices back (R93). -/
def Dev.settleBank (d : Dev) (c spare src t : Nat) : Dev :=
  let w := d.working c
  let d := (d.when_ (decide (4 ≤ w.length)) (fun d => d.endFault 0x2121 c t)).when_ (w.length == 5) (fun d => d.endFault 0x2120 c t)
  if d.rd (adcMode c) = 4 then d.setRotation c (w.take 2) 7 else
  let d := if w.length = 5 then d.setRotation c (w.filter (· != spare)) spare else d.setRotation c w 7
  d.setBankMode c (modeOf w.length) src t

/-- The coefficients of a slice take effect (R130). -/
def Dev.setCoef (d : Dev) (c s : Nat) (k : Coef) : Dev :=
  ((d.wrS (adcSliceOffset c s) k.offset).wr (adcSliceGain c s) k.gain).wrS (adcSliceSkew c s) k.skew

/-- A slice fails its calibration and is retired (R132, R159, R160). -/
def Dev.retire (d : Dev) (c s t : Nat) (service : Bool) : Dev :=
  let d := (d.wr (adcRetired c) (setBit (d.rd (adcRetired c)) s)).ev (.adc c) 4
  let d := d.modBank c (fun b => { b with retryAt := b.retryAt.set s (t + 10000000000) })
  let d := d.note t 2 6 c 0x0800 (s * 16 + 1)
  if service then d.raise 0x2302 c 6 s t else d

/-- A calibration of one slice ends: its coefficients apply, or it is retired. -/
def Dev.calibrate (d : Dev) (c s t : Nat) (k : Coef) (service : Bool) : Dev :=
  if k.pass then d.setCoef c s k else d.retire c s t service

/-- FGCAL (R150): a write of 1 to ADC_CTRL.FGCAL asks for 64 steps of three references on every active slice, after the injected
conversions that are pending. -/
def effFgcal (c : Nat) (_t : Nat) (d : Dev) : Dev :=
  if d.on (adcFgcalBusy c) then d
  else
    (d.wr (adcFgcalBusy c) 1).modRot c (fun r =>
      { r with steps := (d.activeSlices c).map (fun s => (s, 192)),
               after := (List.range 8).filter (fun i => (tabGet (d.bank c).inj i).isSome) })

/-- FGCAL_END (R150): the last step of every slice has ended; the coefficients found for each, by slice number. A slice that has
left the rotation meanwhile is not among them (log entry 205). -/
def effFgcalEnd (c : Nat) (ks : List Coef) (t : Nat) (d : Dev) : Dev :=
  let r := d.rot c
  let fin := r.steps.all (fun x => x.2 == 0) && r.runs.all (fun v => v.2.job != .step || decide (v.2.stop ≤ 4 * d.now))
  if !d.on (adcFgcalBusy c) || !fin then d
  else
    let done := (d.activeSlices c).filter (fun s => (tabGet r.steps s).isSome)
    let spare := d.rd (adcSpare c)
    let d := d.each done (fun s d => d.calibrate c s t (ks.getD s ⟨0, 0, 0⟩) true)
    let d := (d.wr (adcFgcalBusy c) 0).modRot c (fun r => { r with steps := [] })
    if done.any (fun s => bitAt (d.rd (adcRetired c)) s) then d.settleBank c spare 6 t else d

/-- BACKGROUND_CALIBRATION_END (R131, R132): the spare of bank c passes and replaces the active slice that follows it,
or is retired. With BG_EN 0 its calibration still ends, and no swap follows. -/
def effBgEnd (c : Nat) (k : Coef) (t : Nat) (d : Dev) : Dev :=
  let s := d.rd (adcSpare c)
  let en := d.on (adcBgEn c)
  if d.rd (adcMode c) ≠ 0 ∨ 5 ≤ s ∨ !(en || (d.bank c).bgRun) ∨ d.stepsDone < 6 then d
  else
    let d := d.modBank c (fun b => { b with bgRun := en })
    if !k.pass then (d.retire c s t true).settleBank c 7 6 t
    else
      let d := d.setCoef c s k
      let next := (s + 1) % 5
      if en then (d.setRotation c ((List.range 5).filter (· != next)) next).inw (adcRotCount c) else d

/-- SLICE_RETRY (R132): a retired slice is retried; a pass returns it, as the spare when no slice is retired any more. -/
def effSliceRetry (c s : Nat) (k : Coef) (t : Nat) (d : Dev) : Dev :=
  let b := d.bank c
  if !bitAt (d.rd (adcRetired c)) s || !d.on (adcBgEn c) || decide (t < b.retryAt.getD s 0) || d.rd (adcMode c) == 4 || d.rd (adcMode c) == 5 then d
  else
    let d := d.modBank c (fun b => { b with retryAt := b.retryAt.set s (t + 10000000000) })
    if !k.pass then d
    else
      let d := (d.wr (adcRetired c) (clearBit (d.rd (adcRetired c)) s)).setCoef c s k
      (d.note t 2 6 c 0x0800 (s * 16)).settleBank c s 6 t

/-- A bank enters LOWPWR (R158): its two lowest working slices run, everything else is off. -/
def Dev.enterLowPower (d : Dev) (c src t : Nat) : Dev :=
  (d.setRotation c ((d.working c).take 2) 7).setBankMode c 4 src t

/-- A bank leaves LOWPWR for RESTORE (R158): all five slices are calibrated. -/
def Dev.enterRestore (d : Dev) (c src t : Nat) : Dev := (d.setRotation c (d.working c) 7).setBankMode c 5 src t

/-- RESTORE_END (R158): the coefficients found for all five slices; those that fail are retired, the others return. -/
def effRestoreEnd (c : Nat) (ks : List Coef) (t : Nat) (d : Dev) : Dev :=
  if d.rd (adcMode c) ≠ 5 then d
  else
    let d := d.each (List.range 5) (fun s d =>
      let k := ks.getD s ⟨0, 0, 0⟩
      if k.pass && bitAt (d.rd (adcRetired c)) s then
        ((d.wr (adcRetired c) (clearBit (d.rd (adcRetired c)) s)).setCoef c s k).note t 2 6 c 0x0800 (s * 16)
      else if !k.pass && bitAt (d.rd (adcRetired c)) s then d
      else d.calibrate c s t k true)
    d.settleBank c 4 6 t

/-- Start-up calibrates every slice of bank c (R84). -/
def Dev.calibrateBank (d : Dev) (c : Nat) (ks : List Coef) (t : Nat) : Dev :=
  let d := d.each (List.range 5) (fun s d => d.calibrate c s t (ks.getD s ⟨0, 0, 0⟩) false)
  d.settleBank c 4 6 t

/-! ### Changes that restart filters (R147, R148, R157) -/

/-- The records to be marked SETTLE after a change of an entry's filter: 2^K or 4 × 2^K. -/
def filterSettle (filt k : Nat) : Nat := match filt with
  | 1 => 2 ^ k | 2 => 4 * 2 ^ k
  | _ => 0

/-- The channel, gain and filter of an entry. -/
def Dev.entryCfg (d : Dev) (c e : Nat) : Nat × Nat × Nat × Nat :=
  (d.rd (adcSeqCfgChan c e), d.rd (adcSeqCfgGain c e), d.rd (adcSeqCfgFilt c e), d.rd (adcSeqCfgK c e))

/-- An entry's filter starts again empty, with a number of records to be marked (R147); a conversion of the entry that has begun
keeps the filter as it was (R145). -/
def Dev.restartEntry (d : Dev) (c e marks : Nat) : Dev :=
  let was := (tabGet (d.bank c).entries e).getD {}
  let d := d.modRot c (fun r => { r with given := r.given.map (fun v => if v.job = .entry e ∧ v.was.isNone then { v with was := some was } else v) })
  d.modBank c (fun b =>
    let s := (tabGet b.entries e).getD {}
    { b with entries := tabSet b.entries e { s with hist := [], iir := none, settle := max marks s.settle } })

/-- The comparator of an entry is unknown again (R148). -/
def Dev.forgetComparator (d : Dev) (c e : Nat) : Dev :=
  d.modBank c (fun b =>
    let s := (tabGet b.entries e).getD {}
    { b with entries := tabSet b.entries e { s with inside := none } })

/-- The marks that a commit of entry e calls for, from its settings before and after (R147). -/
def settleMarks (old new : Nat × Nat × Nat × Nat) : Nat :=
  let f := if (old.2.2.1, old.2.2.2) ≠ (new.2.2.1, new.2.2.2) then filterSettle new.2.2.1 new.2.2.2 else 0
  max (if old.1 ≠ new.1 then 1 else 0) (max (if old.2.1 ≠ new.2.1 then 2 else 0) f)

/-- A test-DAC substitution starts or ends on a channel of bank c (R147, R157): every entry that uses it starts again,
and the windows that use it mark one record. -/
def Dev.substitute (d : Dev) (c chan : Nat) : Dev :=
  let d := d.each (List.range 16) (fun e d => if d.rd (adcSeqCfgChan c e) == chan then d.restartEntry c e 1 else d)
  d.each (List.range 4) (fun k d =>
    if (d.ax (4 * c + k)).wins.any (fun w => w.chans.contains chan) then
      d.modAx (4 * c + k) (fun a => { a with winSettle := tabSet a.winSettle chan (max ((tabGet a.winSettle chan).getD 0) 1),
                                             planSettle := chan :: a.planSettle })
    else d)

/-! ### Edges of the event ports (R338, R349 to R351) -/

/-- An edge is delivered (R338): to the feedback latches, the injections and the sequences. -/
def Dev.deliverEdge (d : Dev) (k q : Nat) (rising : Bool) (t : Nat) : Dev :=
  ((d.latchPorts k q).injEvent k rising t).seqEvent k

/-- The input of event port k takes a level before INV. -/
def Dev.setEvPin (d : Dev) (k : Nat) (b : Bool) : Dev :=
  let w := (tabGet d.pins.ev k).getD 0
  { d with pins := { d.pins with ev := tabSet d.pins.ev k (if b then setBit w 0 else clearBit w 0) } }

/-- The time window of a latch port (R349). -/
def Dev.inLatWindow (d : Dev) (k t : Nat) : Bool :=
  !d.on (evpLatWinEn k) || (decide (d.rd (evpLatWinS k) ≤ t) && decide (t < d.rd (evpLatWinE k)))

/-- LATCH_INPUT_EDGE (R338, R349, R350): an accepted edge, after INV, at an edge time of t ns and a fraction. -/
def effLatchEdge (k fine : Nat) (rising : Bool) (t : Nat) (d : Dev) : Dev :=
  let d := d.setEvPin k (rising != d.on (evpInv k))
  if d.rd (evpMode k) ≠ 4 ∨ !bitAt (d.rd (evpLatEdge k)) (if rising then 0 else 1) then d
  else if !d.inLatWindow k t || (!d.on (evpLatCont k) && !d.on (evpLatArm k)) then d.inc (evpLatGated k)
  else
    let d := d.when_ (d.evBit (.evp k) 1) (fun d => d.sticky (.evp k) 1)
    let d := ((d.wr (evpLatTime k) t).wr (evpLatPos k) (d.rd (fbPos (d.rd (evpLatPort k))))).inw (evpLatCount k)
    let d := (d.evOnly (.evp k) 1).when_ (!d.on (evpLatCont k)) (fun d => d.wr (evpLatArm k) 0)
    d.deliverEdge k (4 * t + fine) rising t

/-- PWIDTH_EDGE (R338, R351): an accepted edge of a port in PWIDTH; the closing edge of a pulse writes width and period. -/
def effPwidthEdge (k fine : Nat) (rising : Bool) (t : Nat) (d : Dev) : Dev :=
  let d := d.setEvPin k (rising != d.on (evpInv k))
  if d.rd (evpMode k) ≠ 5 then d
  else
    let q := 4 * t + fine
    let d := d.deliverEdge k q rising t
    let e := d.evp k
    if rising != d.on (evpPwPol k) then d.modEvp k (fun e => { e with opened := some q, openedBefore := e.opened })
    else
      match e.opened with
      | none => d
      | some q0 =>
        let width := min ((q - q0) / 4) (2 ^ 32 - 1)
        let period := match e.openedBefore with
          | some q1 => min ((q0 - q1) / 4) (2 ^ 32 - 1)
          | none => 0
        let d := (((d.wr (evpPwWidth k) width).wr (evpPwPeriod k) period).inw (evpPwCount k)).ev (.evp k) 2
        d.each (List.range 24) (fun n d =>
          if d.mode n == 0 && d.rd (crvSrc n) == 2 && d.rd (crvEvp n) == k then d.curveInput n (signedOf 32 width) else d)

/-- RETICLE_PULSE_END (R343): the pulses of port k that have ended are over. -/
def effPulseEnd (k : Nat) (t : Nat) (d : Dev) : Dev :=
  d.modEvp k (fun e => { e with pulses := e.pulses.filter (fun p => decide (4 * t < p.2)) })

end Sys2Proof.Machine
end

