-- ==== Sys2Proof/Machine/Drive.lean ====
section
/-! DEFINITION. The duty load (R102 to R114): modulation, compensation, minimum pulse, the measurement plan with its
windows (R165 to R173, R182, R588) and the asymmetric shift. -/
namespace Sys2Proof.Machine

/-! ### Carriers (R36, R38, R40) -/

/-- w_late in effect for axis n, in steps (CUR_W_LATE_ACT). -/
def Dev.wLate (d : Dev) (n : Nat) : Nat := min (d.rd (curWLate n)) (d.tc (n / 4) / 4)

/-- The next axis tick of axis n after t, and the carrier period of its carrier (R36, R40): that of the present tick where
it is still to come (the peak of axes 2 and 3 can lie past the boundary), otherwise that of the next one, whose length the
next boundary sets. -/
def Dev.nextValley (d : Dev) (n t : Nat) : Nat × Nat :=
  let now := axisTick (d.tcNow (n / 4)) n d.tickStart
  if 4 * t < now then (now, d.tcNow (n / 4)) else (axisTick (d.tc (n / 4)) n d.nextTick, d.tc (n / 4))

/-! ### Modulation (R107) -/

/-- The duty of 1 in Q2.30. -/
def fullDuty : Int := 2 ^ 30

/-- The largest and the smallest member of a list of three. -/
def max3 (l : List Int) : Int := max (l.getD 0 0) (max (l.getD 1 0) (l.getD 2 0))
/-- The smallest member of a list of three. -/
def min3 (l : List Int) : Int := min (l.getD 0 0) (min (l.getD 1 0) (l.getD 2 0))

/-- The first phase of largest magnitude (R107). -/
def largestPhase (l : List Int) : Nat :=
  let a := (l.getD 0 0).natAbs
  let b := (l.getD 1 0).natAbs
  let c := (l.getD 2 0).natAbs
  if b ≤ a ∧ c ≤ a then 0 else if c ≤ b then 1 else 2

/-- What the SVM macro-operation gives: the duties in Q2.30, whether the limit acted, the modulation index in Q2.30. -/
structure Svm where
  /-- Duties. -/
  duty : List Int
  /-- The limit acted. -/
  lim : Bool
  /-- Modulation index of the demanded vector. -/
  index : Int
deriving DecidableEq, Repr

/-- The phase voltages of a vector in Q16.16 V, in Q32.32 V (R107 step 1). -/
def phaseVolts (va vb : Int) : List Int :=
  let s := divRound (vb * 65536 * root3) (2 * one60)
  [va * 65536, -(va * 32768) + s, -(va * 32768) - s]

/-- The SVM arithmetic of R107 for a bus voltage greater than 0, all in Q16.16 V. -/
def svmOf (va vb bus : Int) (overmod two : Bool) : Svm :=
  let full := bus * 65536
  let ph := phaseVolts va vb
  let len : Int := vecLen (va * 65536) (vb * 65536)
  let span := max3 ph - min3 ph
  let round := !overmod && decide (full * one60 < len * root3)
  let hexa := overmod && decide (full < span)
  let ph :=
    if round then ph.map (fun v => divRound (v * full * one60) (len * root3))
    else if hexa then ph.map (fun v => divRound (v * full) span) else ph
  let v0 :=
    if two then
      let v := ph.getD (largestPhase ph) 0
      if 0 ≤ v then full / 2 - v else -(full / 2) - v
    else divRound (-(max3 ph + min3 ph)) 2
  { duty := ph.map (fun v => clampInt 0 fullDuty (2 ^ 29 + divRound ((v + v0) * 2 ^ 30) full)),
    lim := round || hexa,
    index := divRound (len * root3 * 2 ^ 30) (full * one60) }

/-- The SVM of axis n for a bus voltage in Q16.16 V (R107, R367): a bus voltage that is not positive gives duties of 0.5;
the spec states no index there, so that is a free value (log entry 1). -/
def Dev.svm (d : Dev) (n : Nat) (va vb bus : Int) : Svm × Dev :=
  if 0 < bus then (svmOf va vb bus (d.drvSet n).overmod (d.drvSet n).twoPhase, d)
  else
    let (i, d) := d.free
    ({ duty := [2 ^ 29, 2 ^ 29, 2 ^ 29], lim := false, index := signedOf 32 i }, d)

/-- The vector's registers on the DRV page (R107). -/
def Dev.noteVector (d : Dev) (n : Nat) (va vb bus : Int) (r : Svm) : Dev :=
  let d := (((d.wrSat (drvVAlpha n) va).wrSat (drvVBeta n) vb).wrSat (drvModIndex n) r.index).wrSat (drvVbus n) bus
  (d.wrB (drvLim n) r.lim).when_ r.lim (fun d => d.ev (.drv n) 3)

/-! ### Edges (R103, R105, R109) -/

/-- The minimum pulse in effect (R105). -/
def Dev.pulseMin (d : Dev) (n : Nat) : Nat := max (d.drvSet n).pulse (d.drvSet n).dead

/-- Dead-time compensation of one duty (R109): a clamped phase receives none; the result is limited to [0, 1]. -/
def Dev.compensate (d : Dev) (n tc : Nat) (duty i : Int) : Int :=
  if !(d.drvSet n).dtComp || duty == 0 || duty == fullDuty then clampInt 0 fullDuty duty
  else
    let band := (d.drvSet n).band
    let sgn : Int := if band = 0 then (if i = 0 then 0 else signOf i * 2 ^ 30) else clampInt (-fullDuty) fullDuty (divRound (i * 2 ^ 30) band)
    clampInt 0 fullDuty (duty + divRound (((d.drvSet n).dead : Int) * sgn) tc)

/-- The low-pulse length of a duty in steps, rounding halves up (R103). -/
def lowLength (duty : Int) (tc : Nat) : Int := (2 * (fullDuty - duty) * tc + 2 ^ 30) / 2 ^ 31

/-- The minimum pulse (R105). -/
def minPulse (pm : Nat) (tc : Nat) (low : Int) : Int :=
  let low := if 0 < low ∧ low < pm then (if 2 * low < pm then 0 else (pm : Int)) else low
  let high := (tc : Int) - low
  if 0 < high ∧ high < pm then (if 2 * high < pm then (tc : Int) else (tc : Int) - pm) else low

/-- The low pulses of a compensated vector (R103, R105). -/
def edgesOf (tc pm : Nat) (duty : List Int) : Edges :=
  let low := duty.map (fun x => minPulse pm tc (lowLength x tc))
  { tc := tc, before := low.map (fun l => l / 2), after := low.map (fun l => l - l / 2), shift := [0, 0, 0] }

/-! ### Link windows (R169, R170) -/

/-- Insert into a rising list without repeats. -/
def insertUp (x : Int) : List Int → List Int
  | [] => [x]
  | y :: ys => if x < y then x :: y :: ys else if x = y then y :: ys else y :: insertUp x ys

/-- The bounds of the vector segments, in time order. -/
def Edges.bounds (e : Edges) : List Int :=
  let l := ((List.range 3).filter e.moves).foldl (fun acc x => insertUp (e.rise x) (insertUp (e.fall x) acc)) []
  insertUp (e.tc / 2) (insertUp (-(e.tc / 2)) l)

/-- Neighbouring bounds as segments. -/
def segments : List Int → List (Int × Int)
  | a :: b :: rest => (a, b) :: segments (b :: rest)
  | _ => []

/-- The link window of a segment when it is a usable candidate (R169). -/
def Edges.linkWin (e : Edges) (blank wmin wlate : Int) (link bus : Nat) (s : Int × Int) : Option Win :=
  let (a, b) := s
  let cand := (decide (a ≤ 0) && decide (0 < b)) || (List.range 3).any (fun x => e.moves x && e.rise x == a)
  let lo := max (a + blank) (-(e.tc / 4))
  let hi := min b wlate
  let highs := (List.range 3).filter (fun x => e.high x a)
  if !cand || decide (hi - lo < wmin) then none
  else
    match highs with
    | [x] => some { start := lo, stop := hi, chans := [link, bus], phase := x, neg := 0 }
    | [x, y] => some { start := lo, stop := hi, chans := [link, bus], phase := 3 - x - y, neg := 1 }
    | _ => none

/-- The two link windows of a plan, when they exist (R170). -/
def Edges.linkWins (e : Edges) (blank wmin wlate : Int) (link bus : Nat) : Option (List Win) :=
  match (segments e.bounds).filterMap (e.linkWin blank wmin wlate link bus) with
  | [] => none
  | k1 :: rest =>
    match rest.find? (fun w => w.phase != k1.phase) with
    | some k2 => some [k1, k2]
    | none => none

/-! ### The asymmetric shift (R112) -/

/-- The phases in order of decreasing duty, the lower letter first on a tie. -/
def dutyOrder (duty : List Int) : List Nat :=
  let ins := fun (acc : List Nat) (x : Nat) =>
    let front := acc.takeWhile (fun y => decide (duty.getD x 0 ≤ duty.getD y 0))
    front ++ x :: acc.drop front.length
  ins (ins (ins [] 0) 1) 2

/-- The shifts of R112 and whether SHIFT_SHORT is set. -/
def shiftOf (e : Edges) (duty : List Int) (dist anchor : Int) (pm : Nat) : List Int × Bool :=
  let one := fun (x : Nat) (want : Int) =>
    let s := min 0 (want - e.rise x)
    let lim := max 0 (e.tc / 2 - e.before.getD x 0 - pm)
    if lim < -s then (-lim, true) else (s, false)
  match (dutyOrder duty).filter e.moves with
  | [p, q, r] =>
    let l := min (e.rise r) anchor
    let m := min (e.rise q) (l - dist)
    let f := min (e.rise p) (m - dist)
    let sp := one p f
    let sq := one q m
    let sr := one r l
    ((([0, 0, 0].set p sp.1).set q sq.1).set r sr.1, sp.2 || sq.2 || sr.2)
  | [q, r] =>
    let l := min (e.rise r) anchor
    let m := min (e.rise q) (l - dist)
    let sq := one q m
    let sr := one r l
    (([0, 0, 0].set q sq.1).set r sr.1, sq.2 || sr.2)
  | _ => ([0, 0, 0], true)

/-! ### Plans (R165 to R173, R182) -/

/-- Plan kinds of CUR_STATE.PLAN. -/
abbrev planNone : Nat := 0
/-- Three legs. -/
abbrev planLegs3 : Nat := 1
/-- Two legs. -/
abbrev planLegs2 : Nat := 2
/-- Two link windows. -/
abbrev planLinks : Nat := 3
/-- The passive plan. -/
abbrev planPassive : Nat := 4

/-- The bus channel of axis n (R134, R138). -/
def busChan (n : Nat) : Nat := if n < 16 then 0x1C else 0x1C + n % 4
/-- The phase-voltage channel of axis n (R134). -/
def voltChan (n p : Nat) : Nat := 0x10 + 3 * (n % 4) + p

/-- A plan: its kind, its windows, the interval's edges, and what its selection asked for. -/
structure PlanOf where
  /-- Kind. -/
  kind : Nat
  /-- Windows. -/
  wins : List Win
  /-- Edges, with the shift. -/
  edges : Edges
  /-- A shift was requested. -/
  req : Bool := false
  /-- SHIFT_SHORT. -/
  short : Bool := false
  /-- LEG3 fell back to two legs. -/
  reduced : Bool := false
deriving DecidableEq, Repr

/-- The window of plan NONE (R173). -/
def noneWin (n : Nat) (wlate wmin : Int) : Win :=
  { start := wlate - wmin, stop := wlate, chans := [busChan n], phase := 3, neg := 0 }

/-- The window of the PASSIVE plan (R182). -/
def passiveWin (n : Nat) (wmin : Int) : Win :=
  { start := -(wmin / 2), stop := wmin - wmin / 2,
    chans := [legChan n 0, legChan n 1, legChan n 2, linkChan n, voltChan n 0, voltChan n 1, voltChan n 2, busChan n],
    phase := 3, neg := 0 }

/-- A leg window on a set of wide phases (R168). -/
def legWin (n : Nat) (h : Nat → Int) (s : List Nat) : Win :=
  let w := s.foldl (fun m x => min m (h x)) (h (s.headD 0))
  { start := -w, stop := w, chans := s.map (legChan n) ++ [busChan n], phase := 3, neg := 0 }

/-- LINKS under R170 with the shift, or NONE. With SHIFT_EN 0 the request is not met: SHIFT_SHORT is set (R113, R171). -/
def Dev.linkPlan (d : Dev) (n : Nat) (e : Edges) (duty : List Int) : PlanOf :=
  let blank : Int := d.rd (curTBlank n)
  let wmin : Int := d.rd (curWMin n)
  let wlate : Int := d.wLate n
  let pick := fun (e : Edges) => e.linkWins blank wmin wlate (linkChan n) (busChan n)
  match pick e with
  | some ws => { kind := planLinks, wins := ws, edges := e }
  | none =>
    if !(d.drvSet n).shiftEn then { kind := planNone, wins := [noneWin n wlate wmin], edges := e, short := true }
    else
      let (s, short) := shiftOf e duty (blank + wmin) wlate (d.pulseMin n)
      let e := { e with shift := s }
      match pick e with
      | some ws => { kind := planLinks, wins := ws, edges := e, req := true, short := short }
      | none => { kind := planNone, wins := [noneWin n wlate wmin], edges := e, req := true, short := short }

/-- The plan of axis n with its bridge in PWM (R172). -/
def Dev.pwmPlan (d : Dev) (n : Nat) (e : Edges) (duty : List Int) : PlanOf :=
  let wmin : Int := d.rd (curWMin n)
  let wlate : Int := d.wLate n
  let h := fun (x : Nat) => min (e.before.getD x 0 - d.rd (curTBlank n)) wlate
  let wide := (List.range 3).filter (fun x => decide (wmin ≤ 2 * h x))
  let legs := fun (k : Nat) (s : List Nat) (r : Bool) => ({ kind := k, wins := [legWin n h s], edges := e, reduced := r } : PlanOf)
  let nothing : PlanOf := { kind := planNone, wins := [noneWin n wlate wmin], edges := e }
  match d.rd (curMethod n) with
  | 0 => if wide.length = 3 then legs planLegs3 wide false else if wide.length = 2 then legs planLegs2 wide true else nothing
  | 1 =>
    let pair := match d.rd (curPair n) with
      | 0 => [0, 1]
      | 1 => [1, 2]
      | _ => [0, 2]
    if pair.all wide.contains then legs planLegs2 pair false else nothing
  | 2 => d.linkPlan n e duty
  | _ =>
    if wide.length = 3 then legs planLegs3 wide false else if wide.length = 2 then legs planLegs2 wide false
    else d.linkPlan n e duty

/-- The passive plan, without a window in SERVICE (R182). -/
def Dev.passivePlan (d : Dev) (n : Nat) (e : Edges) : PlanOf :=
  { kind := planPassive, edges := e, wins := if d.st n == stService then [] else [passiveWin n (d.rd (curWMin n))] }

/-- No window is opened for axis n (R161, R182, R188): its window registers read 0. The tick changes nothing else (log entry 209). -/
def Dev.noWindows (d : Dev) (n : Nat) : Dev :=
  let d := d.each [0, 1] (fun j d => (d.wr (curWinStart n j) 0).wr (curWinEnd n j) 0)
  let d := d.each (List.range 8) (fun j d => d.wr (adcWinCount (n / 4) (n % 4) j) 0)
  (((d.wr (adcWinChannels (n / 4) (n % 4)) 0).wr (adcWinLost (n / 4) (n % 4)) 0).wr (curPlan n) planPassive)

/-- A plan is fixed for the interval centred on tv (R165, R166). -/
def Dev.fixPlan (d : Dev) (n tv : Nat) (p : PlanOf) (free : Bool) : Dev :=
  let d := d.dropConvs (n / 4) (Job.ofAxis n)
  let d := d.modAx n (fun a =>
    { a with plan := p.kind, wins := p.wins, planFree := free, planLost := false, planTv := tv, planTc := p.edges.tc.toNat,
             planOpen := true, planSettle := a.winSettle.map Prod.fst, planGain := d.rd (adcWinGain (n / 4) (n % 4)), shift := p.edges.shift, planTol := d.rdS (curSumTol n),
             planStaleLim := d.rd (curStaleLimit n), planSumN := d.rd (curSumN n) })
  let d := d.when_ p.wins.isEmpty (fun d => d.noWindows n)
  let d := ((d.wrB (curReduced n) p.reduced).wrB (curShiftReq n) p.req).wrB (drvShiftShort n) p.short
  let d := d.when_ p.reduced (fun d => d.ev (.cur n) 2)
  let d := d.when_ p.req (fun d => d.inc (curShiftCount n))
  d.when_ p.short (fun d => d.ev (.drv n) 4)

/-- What the standing vector leaves behind at time q, in quarters of a ns, when another one is loaded. -/
def Dev.runOut (d : Dev) (n q : Nat) : Dev :=
  let l := (List.range 3).map (fun x => d.levelRun n x q)
  d.modAx n (fun a => { a with ran := l })

/-- The carriers of a cluster restart at boundary b (R33, R588): the first tick at the new settings. The duties in force stand
until the first peak of the new carriers. -/
def Dev.restartCarriers (d : Dev) (c b : Nat) : Dev :=
  d.each (List.range 4) (fun k d =>
    let n := 4 * c + k
    let d := d.runOut n (4 * b)
    let e := edgesOf (d.tc c) (d.pulseMin n) [d.rdS (drvDutyU n), d.rdS (drvDutyV n), d.rdS (drvDutyW n)]
    let d := d.modAx n (fun a => { a with before := e.before, after := e.after })
    if d.bridge n == 1 then
      d.fixPlan n (axisTick (d.tc c) n b) { kind := planNone, wins := [noneWin n (d.wLate n) (d.rd (curWMin n))], edges := e } true
    else d.fixPlan n (axisTick (d.tc c) n b) (d.passivePlan n e) false)

/-- The carriers that restart at boundary b do so once every commit of the boundary has been applied (R33, R106, R588). -/
def Dev.restartDue (d : Dev) (b : Nat) : Dev :=
  let mask := d.restart
  ({ d with restart := 0 } : Dev).each (bitList 6 mask) (fun c d => d.restartCarriers c b)

/-- The bridge switches again at a load in RUN and STOPPING: a short of an ended brake held until now (R110, R127, R267). -/
def Dev.takeOver (d : Dev) (n : Nat) : Dev :=
  d.when_ (d.moves n && decide (2 ≤ (d.ax n).bridge)) (fun d =>
    d.modAx n (fun a => { a with bridge := 1, regOpen := false, sideTo := none }))

/-- DUTY_LOAD (R110, R111): the vector of the program that ended, the vector of the expert test, or after an overrun the
previous one passes through compensation, minimum pulse, plan and shift, with the settings that are in force at the load. -/
def effDutyLoad (n : Nat) (t : Nat) (d : Dev) : Dev :=
  let d := d.runOut n (4 * t)
  let d := d.modAx n (fun a => { a with drvUse := d.drvSet n, drvHeld := d.drvFrozen n })
  let d := d.takeOver n
  let a := d.ax n
  let vec :=
    if d.on (drvTestEn n) then [d.rdS (drvTestDutyU n), d.rdS (drvTestDutyV n), d.rdS (drvTestDutyW n)].map (clampInt 0 fullDuty)
    else a.newVec.getD a.lastVec
  let (tv, tc) := d.nextValley n t
  let cur := [d.rdS (curIU n), d.rdS (curIV n), d.rdS (curIW n)]
  let duty := (List.range 3).map (fun x => d.compensate n tc (vec.getD x 0) (cur.getD x 0))
  let e := edgesOf tc (d.pulseMin n) duty
  let d := d.modAx n (fun a => { a with lastVec := vec, newVec := none, before := e.before, after := e.after })
  let d := ((d.wrS (drvDutyU n) (duty.getD 0 0)).wrS (drvDutyV n) (duty.getD 1 0)).wrS (drvDutyW n) (duty.getD 2 0)
  let p := if d.bridge n == 1 then d.pwmPlan n e duty else d.passivePlan n e
  d.fixPlan n tv p false

/-- A length in steps, scaled from a carrier period to another (R48). -/
def rescale (tc tc' : Nat) (x : Int) : Int := if tc = tc' ∨ tc = 0 then x else divRound (x * tc') tc

/-- At boundary b, which was due at `due`, the tick's length is known: the interval of axis n whose valley lies in the tick
is centred on its axis tick, and with a lengthened tick its edges and its windows scale with the carrier (R48, log entry
196). -/
def Dev.retime (d : Dev) (n b due : Nat) : Dev :=
  let a := d.ax n
  let tc := d.tcNow (n / 4)
  if a.planTc = 0 ∨ a.planTv < 4 * due ∨ (tc = a.planTc ∧ b = due) then d
  else
    let f := rescale a.planTc tc
    d.modAx n (fun a =>
      { a with planTv := axisTick tc n b, planTc := tc, before := a.before.map f, after := a.after.map f, shift := a.shift.map f,
               wins := a.wins.map (fun w => { w with start := f w.start, stop := f w.stop }) })

/-- The shift of phase x as DRV_SHIFT_x reads it at device time t: only while the shifted interval is in force (R114). -/
def Dev.shiftAt (d : Dev) (n x t : Nat) : Int :=
  let a := d.ax n
  if a.shift.any (· != 0) && decide (2 * a.planTv ≤ 8 * t + 5 * a.planTc) && decide (8 * t < 2 * a.planTv + 5 * a.planTc)
  then a.shift.getD x 0 else 0

end Sys2Proof.Machine
end

