-- ==== Sys2Proof/Machine/Current.lean ====
section
/-! DEFINITION. Phase current measurement (R138, R139, R163, R164, R177 to R187): window averaging, forming the currents,
the sum check, the bus value, the tick at rest and the offset measurement. -/
namespace Sys2Proof.Machine

/-- The mean of a channel of a window: its count, and the record (R139, R151). -/
structure WinRec where
  /-- Channel. -/
  chan : Nat
  /-- Samples taken. -/
  count : Nat
  /-- Record of R151. -/
  word : Nat
deriving DecidableEq, Repr

/-- The record may be used (R177). -/
def WinRec.ok (r : WinRec) : Bool := recValid r.word && !recSettle r.word
/-- Its result in quarters of a code. -/
def WinRec.result (r : WinRec) : Int := recResult r.word

/-- A bound of a window of axis n in quarters of a ns. -/
def Dev.winTime (d : Dev) (n : Nat) (x : Int) : Int := (d.ax n).planTv + 5 * x

/-- The records of window i of the plan of axis n from its conversions (R138, R139, R151). -/
def Dev.windowRecs (d : Dev) (n i : Nat) (w : Win) (l : List (Conv × Sample)) : List WinRec :=
  let c := n / 4
  (List.range w.chans.length).map (fun j =>
    let ch := w.chans.getD j 0
    let xs := (l.filter (fun x => x.1.job == .window n i j)).map Prod.snd
    let sum := (xs.map (d.corrected c)).foldl (· + ·) 0
    let settle := (d.ax n).planSettle.contains ch
    let slice := if xs.length = 1 then (xs.headD (0, 0)).1 else 15
    { chan := ch, count := xs.length,
      word := record (xs.length != 0) settle false (d.xchk c) slice (0x40 + n % 4 * 16 + j)
        (if xs.length = 0 then 0 else divRound (4 * sum) xs.length) : WinRec })

/-- The turns that window i of the plan of axis n lost (R129, R138). -/
def lostTurns (n i : Nat) (l : List Conv) : Nat := (l.filter (fun v => v.job == .lost n i)).length

/-- The first start of window i of axis n, in ns: the start of its first turn, or of the window where it has none (R153). -/
def Dev.firstStart (d : Dev) (n i : Nat) (w : Win) (l : List Conv) : Nat :=
  match l.find? (fun v => match v.job with | .window _ k _ => k == i | .lost _ k => k == i | _ => false) with
  | some v => v.start / 4
  | none => (d.winTime n w.start / 4).toNat

/-- The marks of R147 that the delivered records of a plan use up: those that stood when the plan was fixed. -/
def useMarks (l : List WinRec) (plan : List Nat) (m : Tab Nat Nat) : Tab Nat Nat :=
  l.foldl (fun m r => if !plan.contains r.chan then m else match tabGet m r.chan with
    | some (k + 2) => tabSet m r.chan (k + 1)
    | some _ => tabDel m r.chan
    | none => m) m

/-- A current record in amperes, Q16.16, without its offset (R163): channel x is 0 to 2 for the legs, 3 for the link. -/
def Dev.ampsOf (d : Dev) (n x : Nat) (result : Int) : Int :=
  let fs := d.rdS (match x with | 0 => curFsU n | 1 => curFsV n | 2 => curFsW n | _ => curFsLink n)
  divRound (result * fs) (32768 * 2 ^ (d.ax n).planGain)

/-- The offset in effect of a sense channel. -/
def Dev.offsetOf (d : Dev) (n x : Nat) : Int :=
  d.rdS (match x with | 0 => curOfsU n | 1 => curOfsV n | 2 => curOfsW n | _ => curOfsLink n)

/-- The usable record of a channel. -/
def recOf (l : List WinRec) (ch : Nat) : Option WinRec := l.find? (fun r => r.chan == ch && r.ok)

/-- The leg current of phase x in amperes (R163). -/
def Dev.legAmps (d : Dev) (n x : Nat) (l : List WinRec) : Option Int :=
  (recOf l (legChan n x)).map (fun r => d.ampsOf n x r.result - d.offsetOf n x)

/-- A voltage record in Q16.16 V (R99, R135): 72 V on the dies; 1.2 V times XST_VSCALE outside. -/
def Dev.voltsOf (d : Dev) (n : Nat) (result : Int) : Int :=
  if n < 16 then max 0 result * 144 else divRound (max 0 result * 12 * d.rd (xstVscale (n - 16))) 327680

/-- The determined phases of a tick, phase by phase (R169, R177). -/
def Dev.determined (d : Dev) (n : Nat) (ws : List (Win × List WinRec)) : List (Option Int) :=
  if (d.ax n).plan = planLinks then
    (List.range 3).map (fun x =>
      (ws.find? (fun p => p.1.phase == x)).bind (fun p =>
        (recOf p.2 (linkChan n)).map (fun r =>
          let i := d.ampsOf n 3 r.result - d.offsetOf n 3
          if p.1.neg = 1 then -i else i)))
  else (List.range 3).map (fun x => d.legAmps n x (ws.flatMap Prod.snd))

/-- The currents that the determined phases give, and the sum of three legs (R177). -/
def formCurrents : List (Option Int) → Option (List Int × Option Int)
  | [some u, some v, some w] =>
    let s := u + v + w
    some ([u - divRound s 3, v - divRound s 3, w - divRound s 3], some s)
  | [some u, some v, none] => some ([u, v, -(u + v)], none)
  | [some u, none, some w] => some ([u, -(u + w), w], none)
  | [none, some v, some w] => some ([-(v + w), v, w], none)
  | _ => none

/-- The fault code, source and data of the speed that the brake estimator reads (R267), Q16.16 rad/s. -/
def Dev.brakeSpeed (d : Dev) (n : Nat) (i : Int) : Int :=
  let x := i * d.rdS (focLq n)
  let psi := d.rdS (focPsi n) * 1000 * 65536
  if psi ≤ x then 2 ^ 31 - 1
  else
    let den : Int := isqrt (psi * psi - x * x).toNat
    if den = 0 then 2 ^ 31 - 1 else min (2 ^ 31 - 1) (divRound (i * d.rdS (focRs n) * 1000000 * 65536) den)

/-- The end count of a brake after a brake-measured tick (R267). -/
def Dev.brakeTick (d : Dev) (n : Nat) (i : Int) : Dev :=
  let w := d.brakeSpeed n i
  let d := d.wrS (obsScSpeed n) w
  let thr := if d.rd (obsPurpose n) = 2 then d.rdS (obsRevV n) else d.rdS (obsCatchVmin n)
  d.modAx n (fun a => { a with brakeRun := if w < thr then a.brakeRun + 1 else 0 })

/-- The bus value of the tick (R181): usable bus records weighted by their counts, in quarters of a code times the count. -/
def busMean (n : Nat) (l : List WinRec) : Option Int :=
  let bs := l.filter (fun r => r.chan == busChan n && r.ok)
  let k : Nat := bs.foldl (fun s r => s + r.count) 0
  if k = 0 then none else some (divRound (bs.foldl (fun s r => s + r.result * (r.count : Int)) (0 : Int)) k)

/-- The bus value is delivered (R108, R126, R181), or the tick has none; the registers of the bus wait for the first scan (R149). -/
def Dev.deliverBus (d : Dev) (n : Nat) (l : List WinRec) : Dev :=
  match busMean n l with
  | none => (d.modAx n (fun a => { a with busStale := a.busStale + 1 })).wr (drvVbusStale n) 1
  | some r =>
    let v := (d.voltsOf n r).toNat
    let d := (d.modAx n (fun a => { a with busStale := 0 })).wr (drvVbusStale n) 0
    let d := d.wr (curVbus n) v
    let judged := (d.bank (n / 4)).scanned
    if n < 16 then (d.when_ judged (fun d => d.setBus (n / 4) v)).each (List.range 4) (fun k d => d.noteBus (n / 4 * 4 + k) v)
    else (d.when_ judged (fun d => d.setExtBus n v)).noteBus n v

/-- The phase voltages of a passive window, each where its record is usable (R182). -/
def Dev.phaseVolts (d : Dev) (n : Nat) (l : List WinRec) : List (Option Int) :=
  (List.range 3).map (fun x => (recOf l (voltChan n x)).map (fun r => d.voltsOf n r.result))

/-- All three of them. -/
def allThree : List (Option Int) → Option (List Int)
  | [some u, some v, some w] => some [u, v, w]
  | _ => none

/-- A tick at rest (R183), from its phase voltages. -/
def Dev.restNow (d : Dev) (n t : Nat) (volts : Option (List Int)) : Bool :=
  let s := d.st n
  let b := d.bridge n
  (s == stOff || s == stArmed || s == stFault) && (b == 0 || b == 5 || b == 6)
    && decide ((d.ax n).offSince + 2000000 ≤ t) && (decide (16 ≤ n) || bitAt d.pins.vgd (n / 4)) && d.on devReady
    && (match volts with
        | some v => decide (max3 v - min3 v < 32768)
        | none => false)

/-- One tick of an offset measurement (R184): at rest its records are added, otherwise it is discarded, and the next tick at rest
starts another one. EN has no effect on a measurement in progress (log entry 208). -/
def Dev.offsetTick (d : Dev) (n : Nat) (rest : Option (List (Option Int))) : Dev :=
  let d := d.modAx n (fun a => { a with ofsTick := rest })
  if !d.on (curOfsBusy n) then d
  else
    match rest with
    | none => (d.wr (curOfsBusy n) 0).modAx n (fun a => { a with ofsCount := 0, ofsStart := none, ofsSum := [0, 0, 0, 0], ofsNum := [0, 0, 0, 0] })
    | some l => d.modAx n (fun a =>
        { a with ofsCount := a.ofsCount + 1,
                 ofsSum := (List.range 4).map (fun x => a.ofsSum.getD x 0 + (l.getD x none).getD 0),
                 ofsNum := (List.range 4).map (fun x => a.ofsNum.getD x 0 + (if (l.getD x none).isSome then 1 else 0)) })

/-- The currents of a measured tick are delivered (R177, R180); |i|² is kept for R196. -/
def Dev.deliverCurrents (d : Dev) (n : Nat) (i : List Int) (s : Option Int) (direct : Nat) : Dev :=
  let (u, v, w) := (i.getD 0 0, i.getD 1 0, i.getD 2 0)
  let (al, be) := clarke u v w
  let d := ((d.wrSat (curIU n) u).wrSat (curIV n) v).wrSat (curIW n) w
  let d := ((d.wr (curDirect n) direct).wr (curStale n) 0).modAx n (fun a => { a with staleRun := 0, idq2 := al * al + be * be })
  match s with
  | none => d
  | some s =>
    if (d.ax n).plan ≠ planLegs3 then d
    else
      let bad := decide ((d.ax n).planTol < s.natAbs)
      let d := (d.wrSat (curISum n) s).wrB (curSumErr n) bad
      if bad then ((d.inc (curSumErrTicks n)).ev (.cur n) 1).modAx n (fun a => { a with sumRun := a.sumRun + 1 })
      else d.modAx n (fun a => { a with sumRun := 0 })

/-- The tick is stale (R178, R179): the held currents stay, and DIRECT shows what the records determined (R177). `counted`: it
counts towards STALE_LIMIT. -/
def Dev.staleTick (d : Dev) (n direct : Nat) (counted : Bool) : Dev :=
  let d := (((d.wr (curStale n) 1).wr (curDirect n) direct).inc (curStaleTicks n)).ev (.cur n) 0
  d.when_ counted (fun d => d.modAx n (fun a => { a with staleRun := a.staleRun + 1 }))

/-- Window registers of the axis and of the bank (CUR_WINj, CUR_LINK_RDj, ADC_WIN_CNT, ADC_WIN_STAT). -/
def Dev.writeWins (d : Dev) (n : Nat) (ws : List (Win × List WinRec)) (lost : Nat) : Dev :=
  let c := n / 4
  let k := n % 4
  let d := d.each [0, 1] (fun j d =>
    match (ws[j]?) with
    | some p => (d.wrS (curWinStart n j) p.1.start).wrS (curWinEnd n j) p.1.stop
    | none => (d.wr (curWinStart n j) 0).wr (curWinEnd n j) 0)
  let d := d.when_ ((d.ax n).plan == planLinks) (fun d => d.each [0, 1] (fun j d =>
    match (ws[j]?).bind (fun p => recOf p.2 (linkChan n)) with
    | some r => d.wrSat (curLinkRd n j) (d.ampsOf n 3 r.result - d.offsetOf n 3)
    | none => d))
  let last := (ws.getLast?.map Prod.snd).getD []
  let d := d.each (List.range 8) (fun j d => d.wr (adcWinCount c k j) (min ((last[j]?.map WinRec.count).getD 0) 65535))
  (d.wr (adcWinChannels c k) last.length).wr (adcWinLost c k) (min lost 65535)

/-- A sample of the flying start (R259, R260): the phase voltages of a passive window with its centre late enough. -/
def Dev.catchSample (d : Dev) (n : Nat) (volts : Option (List Int)) : Dev :=
  let a := d.ax n
  let tv := a.planTv / 4
  match volts with
  | some v =>
    if d.st n == stCatch && d.phase n == 1 && decide (a.phaseAt + 250000 ≤ tv)
        && (decide (tv < a.phaseAt + 1000 * d.rd (obsCatchT n)) || decide (a.samples.length < 4)) then
      let (u, w, x) := (v.getD 0 0, v.getD 1 0, v.getD 2 0)
      let (ea, eb) := clarke u w x
      d.modAx n (fun a => { a with samples := a.samples ++ [(tv, ea, eb, max3 v - min3 v)] })
    else d
  | none => d

/-- A current program of axis n is due in this tick and waits for its currents: it becomes ready (R28, R39, R175). -/
def Dev.readyProgram (d : Dev) (n : Nat) : Dev :=
  let s := d.st n
  if s == stOff || s == stFault || s == stService || (d.ax n).curRun != 0 || (d.slot n 0).id == 0 then d
  else d.modLane (n / 4) (fun l => if l.queue.contains (n, 0) then l else { l with queue := l.queue ++ [(n, 0)] })

/-- CURRENT_WINDOW_END (R138, R177): the windows of the plan of axis n have closed; the raw codes of the conversions that the
rotation gave to them, in the order of their starts. -/
def effWindowEnd (n : Nat) (codes : List Nat) (t : Nat) (mem : Mem) (d : Dev) : Dev × Mem :=
  let a := d.ax n
  if !a.planOpen || a.wins.isEmpty || a.wins.any (fun w => decide ((4 * t : Int) < d.winTime n w.stop)) then (d, mem)
  else
    let c := n / 4
    let turns := d.convs c (Job.ofAxis n)
    let given := samplesOf (turns.filter (fun v => match v.job with | .window .. => true | _ => false)) codes
    let idx := List.range a.wins.length
    let ws := idx.filterMap (fun i => (a.wins[i]?).map (fun w => (w, d.windowRecs n i w given)))
    let lost := lostTurns n (a.wins.length - 1) turns
    let gone := a.plan != planPassive && (a.planLost || d.bridge n != 1)
    let all := ws.flatMap Prod.snd
    let used := if gone then [] else all
    let usedWs := if gone then [] else ws
    let d := (d.modAx n (fun a => { a with planOpen := false, winSettle := useMarks all a.planSettle a.winSettle })).dropConvs c (Job.ofAxis n)
    let entries := (idx.zip ws).flatMap (fun p => p.2.2.map (fun r => (r.word, d.firstStart n p.1 p.2.1 turns)))
    let (d, mem) := d.logAll mem c 0 t entries
    let d := d.writeWins n ws lost
    let d := (d.wr (curPlan n) a.plan).wrB (curXchk n) (used.any (fun r => r.ok && bitAt r.word 28))
    let d := d.deliverBus n used
    let each := if a.plan = planPassive then d.phaseVolts n used else [none, none, none]
    let put := fun (f : Fld) (x : Nat) (d : Dev) => match each.getD x none with
      | some v => d.wrS f v
      | none => d
    let d := put (curVphW n) 2 (put (curVphV n) 1 (put (curVphU n) 0 d))
    let volts := allThree each
    let sense := (List.range 4).map (fun x =>
      (recOf used (if x < 3 then legChan n x else linkChan n)).map (fun r => d.ampsOf n x r.result))
    let det := d.determined n usedWs
    let shortHi := a.plan == planPassive && (d.bridge n == 3 || (d.bridge n == 2 && a.bridge == 3))
    let formed := if shortHi then none else formCurrents det
    let direct := if shortHi then 0 else maskOf ((List.range 3).filter (fun x => (det.getD x none).isSome))
    let d := match formed with
      | some (i, s) => d.deliverCurrents n i s direct
      | none => d.staleTick n direct (d.bridge n == 1 && !a.planFree && !gone && !shortHi)
    let low := a.plan == planPassive && d.bridge n == 2 && !a.regSeen
      && decide ((4 * (d.axNow n).lowSince : Int) ≤ d.winTime n ((a.wins.headD (noneWin n 0 0)).start))
    let d := match formed with
      | some (i, _) => d.when_ (low && d.st n == stBrake) (fun d =>
          let (al, be) := clarke (i.getD 0 0) (i.getD 1 0) (i.getD 2 0)
          d.brakeTick n (vecLen al be))
      | none => d
    let d := d.catchSample n volts
    let d := d.offsetTick n (if d.restNow n t volts then some sense else none)
    (d.readyProgram n, mem)

/-- STALE_LIMIT (R166, R178, R186): STALE_LIMIT consecutive stale ticks in PWM; the limit is that of the plan. -/
def effStaleLimit (n : Nat) (t : Nat) (d : Dev) : Dev :=
  if (d.ax n).planStaleLim ≤ (d.ax n).staleRun then d.raise 0x1402 n 6 (d.rd (curPlan n)) t else d

/-- SUM_ERROR_LIMIT (R166, R180, R186): SUM_N consecutive error ticks; the limit is that of the plan. -/
def effSumLimit (n : Nat) (t : Nat) (d : Dev) : Dev :=
  if (d.ax n).planSumN ≤ (d.ax n).sumRun then d.raise 0x1401 n 6 (min ((d.rdS (curISum n)).natAbs / 256) 65535) t else d

/-- An offset measurement is due (R184): pending from start-up, for 0x1123, or a period after the previous start. -/
def Dev.offsetDue (d : Dev) (n : Nat) : Bool :=
  (d.ax n).ofsPending || d.isActive 0x1123 n ||
    (match (d.ax n).ofsStart with
     | none => true
     | some k => decide (k + d.rd (curOfsPeriod n) ≤ d.rd timeTickCount))

/-- OFFSET_MEASUREMENT_START (R184): the first tick at rest of a measurement that is due. -/
def effOffsetStart (n : Nat) (_t : Nat) (d : Dev) : Dev :=
  match (d.ax n).ofsTick with
  | some l =>
    if d.on (curOfsEn n) && d.on devReady && !d.on (curOfsBusy n) && d.offsetDue n then
      (d.wr (curOfsBusy n) 1).modAx n (fun a =>
        { a with ofsCount := 1, ofsStart := some (d.rd timeTickCount),
                 ofsSum := l.map (fun x => x.getD 0), ofsNum := l.map (fun x => if x.isSome then 1 else 0) })
    else d
  | none => d

/-- OFFSET_MEASUREMENT_END (R85, R93, R184, R186): N ticks at rest; the new offsets pass within ±2 % of the full scale. -/
def effOffsetEnd (n : Nat) (t : Nat) (d : Dev) : Dev :=
  let a := d.ax n
  if d.on (curOfsBusy n) && decide (d.rd (curOfsN n) ≤ a.ofsCount) then
    let mean := (List.range 4).map (fun x => divRound (a.ofsSum.getD x 0) (a.ofsNum.getD x 0))
    let fs := [d.rdS (curFsU n), d.rdS (curFsV n), d.rdS (curFsW n), d.rdS (curFsLink n)]
    let fails := (List.range 4).filter (fun x =>
      a.ofsNum.getD x 0 == 0 || decide ((fs.getD x 0).natAbs < 50 * (mean.getD x 0).natAbs))
    let d := (d.wr (curOfsBusy n) 0).modAx n (fun a => { a with ofsCount := 0 })
    if fails.isEmpty then
      let d := (d.inc (curOfsPasses n)).modAx n (fun a => { a with ofsNew := some mean, ofsPending := false })
      let d := (d.endFault 0x1123 n t).endFault 0x1403 n t
      if (List.range 4).any (fun k => (d.ax (n / 4 * 4 + k)).ofsPending) then d else d.endFault 0x4151 (n / 4) t
    else ((d.inc (curOfsFails n)).ev (.cur n) 4).raise 0x1403 n 6 (maskOf fails) t
  else d

/-- New offsets apply at a tick boundary (R184). -/
def Dev.applyOffsets (d : Dev) (n : Nat) : Dev :=
  match (d.ax n).ofsNew with
  | none => d
  | some l =>
    let d := ((d.wrSat (curOfsU n) (l.getD 0 0)).wrSat (curOfsV n) (l.getD 1 0)).wrSat (curOfsW n) (l.getD 2 0)
    let d := (d.wrSat (curOfsLink n) (l.getD 3 0)).wr (curOfsValid n) 1
    (d.ev (.cur n) 3).modAx n (fun a => { a with ofsNew := none })

end Sys2Proof.Machine
end

