-- ==== Sys2Proof/Machine/Foc.lean ====
section
/-! DEFINITION. The stock current program CUR_FOC (R189 to R207) with the observer (R248 to R251), the start sequence
(R252 to R258), and the current limit (R195 to R197). Intermediate results are rounded to the last bit of the field that
holds them, halves away from zero (R363). -/
namespace Sys2Proof.Machine

/-! ### Sticky flags (R365) -/

/-- SAT_ADD, SAT_MUL, SAT_ACC, LIM_HIT, DIV0. -/
abbrev flagAdd : Nat := 0
/-- SAT_MUL. -/
abbrev flagMul : Nat := 1
/-- SAT_ACC. -/
abbrev flagAcc : Nat := 2
/-- LIM_HIT. -/
abbrev flagLim : Nat := 3
/-- DIV0. -/
abbrev flagDiv : Nat := 4

/-- Set a sticky flag of slot s of axis n. -/
def Dev.flag (d : Dev) (n s bit : Nat) : Dev :=
  if bitAt (d.rd (prgFlags n s)) bit then d
  else (d.wr (prgFlags n s) (setBit (d.rd (prgFlags n s)) bit)).ev (.prg n) 2

/-- A stock value that leaves its 32-bit register saturates and sets SAT_ADD. -/
def Dev.satStore (d : Dev) (n s : Nat) (f : Fld) (v : Int) : Dev :=
  (d.wrSat f v).when_ (saturate 32 v != v) (fun d => d.flag n s flagAdd)

/-! ### The current limit (R195 to R197) -/

/-- T of R197: the larger of PWD_TEMPk and PWD_TEMP4. -/
def Dev.dieTemp (d : Dev) (n : Nat) : Int := max (d.rdS (pwdTemp (n / 4) (n % 4))) (d.rdS (pwdTemp (n / 4) 4))

/-- L_T (R197). -/
def Dev.thermLimit (d : Dev) (n : Nat) : Int :=
  let peak := d.rdS (focIPeak n)
  if !d.on (focTderEn n) then peak
  else
    let t := d.dieTemp n
    let trip := d.rdS (pwdTempTrip (n / 4))
    let lo := d.rdS (focTDerate n)
    if trip ≤ lo then (if t < trip then peak else 0)
    else divRound (peak * clampInt 0 (trip - lo) (trip - t)) (trip - lo)

/-- The CUR slot of axis n holds the stock current program: the rules of R189 to R207 apply to it (R189). -/
def Dev.curStock (d : Dev) (n : Nat) : Bool := (d.slot n 0).id == 1

/-- I_lim and its source are formed at a tick boundary (R195), on an axis with the stock current program (R189). -/
def Dev.formILim (d : Dev) (n : Nat) : Dev :=
  if !d.curStock n then d else
  let peak := d.rdS (focIPeak n)
  let l2 := if d.on (focI2tActive n) then d.rdS (focICont n) else peak
  let lt := d.thermLimit n
  let lim := min peak (min l2 lt)
  let src := if lim = peak then 0 else if lim = l2 then 1 else 2
  let d := d.modAx n (fun a => { a with thermZero := a.thermZero && lt == 0 })
  (d.wrSat (focILimAct n) lim).wr (focIlimSrc n) src

/-- I_CONT² in Q32.32 A². -/
def Dev.cont2 (d : Dev) (n : Nat) : Int := d.rdS (focICont n) * d.rdS (focICont n)

/-- The I²t state after one tick with a squared magnitude (R196). With y and I_CONT both 0 both conditions of R196 hold, and
the limit is active (log entry 23). -/
def Dev.i2tStep (d : Dev) (n : Nat) (sq : Int) : Dev :=
  let tau : Int := d.rd (focI2tTau n) * 1000000
  let en := d.on (focI2tEn n)
  let y0 := (d.ax n).i2t
  let y := if !en then 0 else if tau = 0 then sq else y0 + divRound ((sq - y0) * d.tickNs) tau
  let c := d.cont2 n
  let was := d.on (focI2tActive n)
  let now := en && (decide (c ≤ y) || (was && decide (81 * c < 100 * y)))
  let d := (d.modAx n (fun a => { a with i2t := y })).wrB (focI2tActive n) now
  let d := d.when_ (now && !was) (fun d => d.ev (.foc n) 2)
  d.when_ (was && !now) (fun d => d.ev (.foc n) 3)

/-- FOC_I2T_LEVEL: y / I_CONT², saturating. For I_CONT 0 the spec states no quotient: the level is a free value after a run, and
keeps its value in other ticks (log entries 1 and 23). -/
def Dev.i2tLevel (d : Dev) (n : Nat) (run : Bool) : Dev :=
  let c := d.cont2 n
  if 0 < c then d.wr (focI2tLevel n) (min (2 ^ 31 - 1) (divRound ((d.ax n).i2t * 2 ^ 30) c).toNat)
  else if run then
    let (v, d) := d.free
    d.wr (focI2tLevel n) v
  else d

/-- In a tick in which the program does not run, y decays at the boundary; with I2T_EN 0 it is 0 in every tick (R196). -/
def Dev.i2tIdle (d : Dev) (n : Nat) : Dev :=
  let s := d.st n
  if d.curStock n && (s == stOff || s == stFault || s == stService || !d.on (focI2tEn n)) then (d.i2tStep n 0).i2tLevel n false else d

/-! ### The observer (R248 to R251, R262) -/

/-- Synchronisation of the observer (R262) for a first run whose snapshot boundary is at ts. -/
def Dev.applySync (d : Dev) (n ts : Nat) : Dev :=
  match (d.ax n).sync with
  | none => d
  | some (th, w, tm, ea, eb) =>
    let d := d.wr (obsAngle n) (wrapTo 32 ((th : Int) + angleOver w ((ts : Int) - tm)))
    let d := ((d.wrSat (obsSpeed n) w).wrSat (obsEmfA n) ea).wrSat (obsEmfB n) eb
    let d := d.wrSat (obsSpeedCnt n) (countsOf w (d.rd (focEcounts n)))
    d.modAx n (fun a => { a with sync := none, iHat := [0, 0], wInt := w })

/-- One component of the current estimate: î + G1 r + (T / LQ)(v_prev − RS i − ê), in Q16.16 A. -/
def iHatNext (iHat g1 r tns lq v rs i e : Int) : Int :=
  iHat + divRound (g1 * r) (2 ^ 30) + divRound (tns * 65536 * (v - divRound (rs * i) 65536 - e)) (lq * 1000)

/-- One step of the observer (R248) on the currents of the tick; `stale` leaves r at 0. Without an inductance the spec
gives no quotient: î is then a free value (log entry 1). -/
def Dev.observe (d : Dev) (n : Nat) (ia ib : Int) (stale : Bool) : Dev :=
  let a := d.ax n
  let tns : Int := d.tickNs * a.sinceRun
  let h := (a.iHat.getD 0 0, a.iHat.getD 1 0)
  let (ra, rb) := if stale then (0, 0) else (ia - h.1, ib - h.2)
  let lq := d.rdS (focLq n)
  let g1 := d.rdS (obsG1 n)
  let rs := d.rdS (focRs n)
  let (ea, eb) := (d.rdS (obsEmfA n), d.rdS (obsEmfB n))
  let (ha, hb, d) :=
    if 0 < lq then
      (iHatNext h.1 g1 ra tns lq (a.vPrev.getD 0 0) rs ia ea, iHatNext h.2 g1 rb tns lq (a.vPrev.getD 1 0) rs ib eb, d)
    else
      let (x, d) := d.free
      let (y, d) := d.free
      (signedOf 32 x, signedOf 32 y, d)
  let g2 := d.rdS (obsG2 n)
  let ea := ea - divRound (g2 * ra) (2 ^ 24)
  let eb := eb - divRound (g2 * rb) (2 ^ 24)
  let th := d.rd (obsAngle n)
  let (s, c) := sinCos60 th
  let num := -(ea * c + eb * s) * signOf (d.rdS (obsSpeed n))
  let mag : Int := max (100 * vecLen ea eb) 65536
  let eps := divRound (num * 100 * 2 ^ 30) (mag * one60)
  let wi := a.wInt + divRound (d.rdS (obsPllKi n) * eps) (2 ^ 30)
  let w := wi + divRound (d.rdS (obsPllKp n) * eps) (2 ^ 30)
  let d := d.modAx n (fun a => { a with iHat := [saturate 32 ha, saturate 32 hb], wInt := saturate 32 wi })
  let d := ((d.satStore n 0 (obsEmfA n) ea).satStore n 0 (obsEmfB n) eb).satStore n 0 (obsSpeed n) w
  let d := d.wr (obsAngle n) (wrapTo 32 ((th : Int) + angleOver w tns))
  let d := d.wrSat (obsSpeedCnt n) (countsOf w (d.rd (focEcounts n)))
  if stale then d else d.wrSat (obsRes n) (vecLen ra rb)

/-- OBS_POS accumulates the change of the angle in use (R251). -/
def Dev.accumulate (d : Dev) (n th : Nat) : Dev :=
  let a := d.ax n
  let tot := a.obsFrac + angleDiff th a.angUse * d.rd (focEcounts n)
  (d.wrS (obsPos n) (d.rdS (obsPos n) + tot / 2 ^ 32)).modAx n (fun a => { a with angUse := th, obsFrac := tot % 2 ^ 32 })

/-! ### Angle, speed and references by phase (R191, R252 to R258) -/

/-- θ and ω_e of R191 as they stand for an axis, from a position and a speed of COMM_PORT and the port's angle. -/
def Dev.angleOf (d : Dev) (n : Nat) (pos speed : Int) (port : Nat) : Nat × Int :=
  let e : Int := d.rd (focEcounts n)
  let ofs : Int := d.rd (focAngleOfs n)
  match d.angleSrc n with
  | 1 => (d.rd (obsAngle n), d.rdS (obsSpeed n))
  | 2 => ((d.ax n).thF, divRound (d.rdS (obsFF n) * 2 * pi60) one60)
  | 3 => if e = 0 then (d.rd (focAngleOfs n), 0) else (port, radOf speed e)
  | _ => if e = 0 then (d.rd (focAngleOfs n), 0) else (wrapTo 32 (pos % e * 2 ^ 32 / e + ofs), radOf speed e)

/-- The weight w of BLEND at a boundary, in Q2.30 (R255, R272): the time since the boundary of the first run of the phase, over
OBS_HAND_T as it stands. -/
def Dev.blendW (d : Dev) (n b : Nat) : Int :=
  let len := d.rd (obsHandT n) * 1000000
  if len = 0 then 2 ^ 30 else min (2 ^ 30) (divRound ((b - (d.ax n).blendAt : Nat) * 2 ^ 30) len)

/-- The angle in use of a run (R252, R255): by phase, otherwise θ of R191. -/
def Dev.angleInUse (d : Dev) (n : Nat) (theta : Nat) : Nat :=
  let a := d.ax n
  match d.phase n with
  | 2 => 0
  | 3 | 8 => a.thF
  | 4 | 5 => a.thH
  | 6 =>
    let base := if a.blendHfi then a.thH else a.thF
    wrapTo 32 ((base : Int) + divRound (d.blendW n a.snap.time * angleDiff (d.rd (obsAngle n)) base) (2 ^ 30))
  | _ => theta

/-- i_src of R194. -/
def Dev.iSource (d : Dev) (n : Nat) : Int :=
  let s := (d.ax n).snap
  if d.mode n = 1 ∧ d.st n ≠ stStopping then s.iqCmd else s.iSrc

/-- The references that replace FOC_ID_CMD and i_src in a phase (R252 to R258). -/
def Dev.phaseRefs (d : Dev) (n : Nat) : Int × Int :=
  let a := d.ax n
  let s := a.snap
  let i0 := d.rdS (obsIStart n)
  let el : Int := s.time - a.phaseAt
  match d.phase n with
  | 2 =>
    let half : Int := d.rd (obsAlignT n) * 500000
    (if half = 0 then i0 else divRound (i0 * min el half) half, 0)
  | 3 => (0, a.sigma * i0)
  | 4 => (if el < 2000000 then d.rdS (obsHfiPolI n) else -(d.rdS (obsHfiPolI n)), 0)
  | 6 =>
    let w := d.blendW n s.time
    (s.idCmd, divRound ((2 ^ 30 - w) * a.sigma * i0 + w * d.iSource n) (2 ^ 30))
  | 8 => (0, signOf (d.rdS (obsFF n)) * i0)
  | _ => (s.idCmd, d.iSource n)

/-- The voltage injected on the d axis: ±OBS_HFI_V, alternating each tick, while HFI tracks θ_h (R258). -/
def Dev.hfiVolt (d : Dev) (n : Nat) : Int :=
  if d.phase n == 5 || (d.phase n == 6 && (d.ax n).blendHfi) then
    (if (d.ax n).snap.tick % 2 = 0 then 1 else -1) * d.rdS (obsHfiV n)
  else 0

/-- One step of f_f towards a target, by OBS_RAMP_ACC × T_tick at most (R254, R257), in Q16.16 Hz. -/
def Dev.stepFf (d : Dev) (n : Nat) (target : Int) : Dev :=
  let step := divRound (d.rdS (obsRampAcc n) * d.tickNs) 1000000000
  let f := d.rdS (obsFF n)
  let f := f + clampInt (-step) step (target - f)
  (d.wrSat (obsFF n) f).modAx n (fun a => { a with thF := wrapTo 32 ((a.thF : Int) + divRound (f * d.tickNs * 65536) 1000000000) })

/-- 2π f_f in Q16.16 rad/s. -/
def Dev.wForced (d : Dev) (n : Nat) : Int := divRound (d.rdS (obsFF n) * 2 * pi60) one60

/-- The agreement of a tick with a speed w0 (R254, R258). -/
def Dev.agrees (d : Dev) (n : Nat) (w0 sign : Int) (stale : Bool) : Bool :=
  let w := d.rdS (obsSpeed n)
  !stale && signOf w == sign && decide (4 * (w - w0).natAbs ≤ w0.natAbs) && decide (d.rd (obsRes n) ≤ d.rd (obsResLim n))

/-- The agreement test of a start phase once its speed has reached OBS_VMIN, and the time at which it first did. -/
def Dev.testAgree (d : Dev) (n : Nat) (w0 sign : Int) (stale : Bool) : Dev :=
  if decide (d.rdS (obsVmin n) ≤ w0.natAbs) then
    let ok := d.agrees n w0 sign stale
    (d.wrB (obsAgree n) ok).modAx n (fun a =>
      { a with agreeRun := if ok then a.agreeRun + 1 else 0, handAt := some (a.handAt.getD a.snap.time) })
  else (d.wr (obsAgree n) 0).modAx n (fun a => { a with agreeRun := 0 })

/-- The tracking loop of HFI (R258): the spec gives no scale of its error, which Config.hfiError stands for. -/
def Dev.hfiTrack (d : Dev) (n : Nat) (iq : Int) : Dev :=
  let a := d.ax n
  let eps := Config.hfiError (iq - a.hfiIq) (d.hfiVolt n)
  let wi := a.wHInt + divRound (d.rdS (obsHfiKi n) * eps) (2 ^ 30)
  let w := saturate 32 (wi + divRound (d.rdS (obsHfiKp n) * eps) (2 ^ 30))
  d.modAx n (fun a => { a with wHInt := saturate 32 wi, wH := w, hfiIq := iq, thH := wrapTo 32 ((a.thH : Int) + angleOver w d.tickNs) })

/-- The target of f_f in FORCED: the commanded speed divided by E, 0 in STOPPING (R257); without E a free value. -/
def Dev.forcedTarget (d : Dev) (n : Nat) : Int × Dev :=
  let e : Int := d.rd (focEcounts n)
  if d.st n == stStopping then (0, d)
  else if e = 0 then
    let (v, d) := d.free
    (signedOf 32 v, d)
  else (divRound (d.cmdSpeed n * 4096) e, d)

/-- What a run does for the start sequence after its currents and its observer step (R253 to R258, R264). -/
def Dev.phaseStep (d : Dev) (n : Nat) (id iq : Int) (stale : Bool) : Dev :=
  let a := d.ax n
  match d.phase n with
  | 3 =>
    let fh := divRound (a.sigma * 5 * d.rdS (obsVmin n) * one60) (8 * pi60)
    let d := d.stepFf n fh
    d.testAgree n (d.wForced n) a.sigma stale
  | 4 =>
    let k := if (a.snap.time : Int) - a.phaseAt < 2000000 then 0 else 1
    let rise := id.natAbs - a.polId.natAbs
    d.modAx n (fun a => { a with
      polId := id
      hfiIq := iq
      polRise := if rise = 0 then a.polRise else a.polRise.modify k (fun p => (p.1 + rise, p.2 + 1)) })
  | 5 =>
    let d := d.hfiTrack n iq
    let w := (d.ax n).wH
    d.testAgree n w a.sigma stale
  | 6 =>
    let hfi := a.blendHfi
    let d := if hfi then d.hfiTrack n iq else d.stepFf n (divRound (a.sigma * 5 * d.rdS (obsVmin n) * one60) (8 * pi60))
    let w0 := if hfi then (d.ax n).wH else d.wForced n
    let ok := d.agrees n w0 a.sigma stale
    let d := d.wrB (obsAgree n) ok
    let d := d.modAx n (fun a => { a with lossRun := if ok || stale then a.lossRun else a.lossRun + 1 })
    d.wrS (obsBlend n) (d.blendW n (a.snap.time + d.tickNs))
  | 7 =>
    let bad := decide (d.rd (obsResLim n) < d.rd (obsRes n))
    d.modAx n (fun a => { a with trackTicks := a.trackTicks + 1, lossRun := if stale then a.lossRun else if bad then a.lossRun + 1 else 0 })
  | 8 =>
    let (target, d) := d.forcedTarget n
    d.stepFf n target
  | _ => d

/-! ### The regulators (R193, R198 to R203) -/

/-- Both numbers are positive or both negative. -/
def sameSign (a b : Int) : Bool := (decide (0 < a) && decide (0 < b)) || (decide (a < 0) && decide (b < 0))

/-- The limited references (R198): i_d_ref, i_q_ref, and whether a clamp acted. -/
def limitRefs (id0 iq0 lim : Int) : Int × Int × Bool :=
  let id := clampInt (-lim) lim id0
  let q : Int := isqrt (lim * lim - id * id).toNat
  let iq := clampInt (-q) q iq0
  (id, iq, id != id0 || iq != iq0)

/-- The circle limit (R202). -/
def circle (ud uq r : Int) : Int × Int :=
  let vd := clampInt (-r) r ud
  let q : Int := isqrt (r * r - vd * vd).toNat
  (vd, clampInt (-q) q uq)

/-- V_max in Q16.16 V (R202); 0 for a bus voltage that is not positive. -/
def Dev.vMax (d : Dev) (n : Nat) (bus : Int) : Int :=
  let f : Int := if (d.drvSet n).overmod then d.rd (focVlimFrac n) else min (2 ^ 30) (d.rd (focVlimFrac n))
  divRound (f * max 0 bus * one60) (2 ^ 30 * root3)

/-- The decoupling voltages of R201, in Q16.16 V. -/
def Dev.decouple (d : Dev) (n : Nat) (w id iq : Int) : Int × Int :=
  if !d.on (focDecEn n) then (0, 0)
  else
    let psi := d.rdS (focPsi n) * 1000 * 65536
    (-(divRound (w * d.rdS (focLq n) * iq) (1000000 * 2 ^ 32)),
     divRound (w * (d.rdS (focLd n) * id + psi)) (1000000 * 2 ^ 32))

/-- The integrator of one component (R199): held, or updated; the new value and INT_HOLD. -/
def intStep (int ki e u v vmax : Int) (lim : Bool) : Int × Bool :=
  if (v != u || lim) && sameSign e u then (int, true)
  else (clampInt (-vmax) vmax (int + divRound (ki * e) (2 ^ 24)), false)

/-- The excitation value of a point, 0 when none runs there (R291). -/
def Dev.excAt (d : Dev) (n point : Nat) : Int :=
  if d.on (motExcRun n) && !(d.ax n).excStart && d.rd (motExcPoint n) == point then (d.ax n).snap.exc else 0

/-- A capture entry of the excited point (R292). -/
def Dev.captureRun (d : Dev) (mem : Mem) (n point : Nat) (inp resp : Int) (t : Nat) : Dev × Mem :=
  let s := (d.ax n).snap
  if !d.on (motExcRun n) || (d.ax n).excStart || !d.on (motExcCap n) || d.rd (motExcPoint n) != point then (d, mem)
  else
    let a := 16 * d.rd (motCapBase n) + 16 * (d.rd (motCapWr n) % max (d.rd (motCapSize n)) 1)
    let (ok, d, mem) := d.bankWrite mem 6 a (s.tick % 2 ^ 32) t
    if !ok then (d.ev (.mot n) 2, mem)
    else
      let (_, d, mem) := d.bankWrite mem 6 (a + 4) (wrapTo 32 s.exc) t
      let (_, d, mem) := d.bankWrite mem 6 (a + 8) (wrapTo 32 inp) t
      let (_, d, mem) := d.bankWrite mem 6 (a + 12) (wrapTo 32 resp) t
      (d.inw (motCapWr n), mem)

/-- The advance times of R192 in ns: to the axis tick, and to the centre of the span of the new duties. -/
def Dev.advance (d : Dev) (n : Nat) : Int × Int :=
  if !d.on (focAdvEn n) then (0, 0)
  else
    let tc : Int := d.tc (n / 4)
    let k : Int := n % 4
    let ti := divRound (k * tc * 5) 16
    (ti, divRound ((k * tc + 2 * tc) * 5) 16 + divRound d.tickNs 2 + d.rdS (focAdvTrim n))

/-- The tracking count of R206. -/
def Dev.trackTick (d : Dev) (n : Nat) (tracked : Bool) (err : Nat) : Dev :=
  if !tracked then d
  else d.modAx n (fun a => { a with trackRun := if d.rd (focErrLim n) < err then a.trackRun + 1 else 0 })

/-- 0x1502 (R207): the thermal limit reached 0 with a q demand. -/
def Dev.thermFault (d : Dev) (n t : Nat) (iq0 : Int) : Dev :=
  if d.on (focTderEn n) && d.thermLimit n == 0 && iq0 != 0 && !(d.ax n).thermZero then
    (d.modAx n (fun a => { a with thermZero := true })).raise 0x1502 n 4 (wrapTo 16 (d.dieTemp n)) t
  else d

/-- What the regulators of a run find: voltages, index, and what acted. -/
structure Reg where
  /-- u_d. -/
  ud : Int
  /-- u_q. -/
  uq : Int
  /-- v_d. -/
  vd : Int
  /-- v_q. -/
  vq : Int
  /-- V_max. -/
  vmax : Int
deriving DecidableEq, Repr

/-- The regulators, the decoupling, the injection and the circle (R193, R201, R202). -/
def Dev.regulate (d : Dev) (n : Nat) (w ed eq idr iqr bus : Int) : Reg :=
  let g := fun (k : Fld) (e : Int) => divRound (d.rdS k * e) (2 ^ 24)
  let (dd, dq) := d.decouple n w idr iqr
  let ud := g (focKpD n) ed + d.rdS (focIntD n) + g (focKiD n) ed + dd + d.hfiVolt n
  let uq := g (focKpQ n) eq + d.rdS (focIntQ n) + g (focKiQ n) eq + dq
  let vmax := d.vMax n bus
  let (vd, vq) := circle ud uq vmax
  { ud := ud, uq := uq, vd := vd, vq := vq, vmax := vmax }

/-- The field-weakening current after a run (R203); without a circle the ratio m is a free value (log entry 1). -/
def Dev.weaken (d : Dev) (n : Nat) (r : Reg) : Dev :=
  if !d.on (focFwEn n) then d.wr (focIdFw n) 0
  else
    let (m, d) : Int × Dev :=
      if 0 < r.vmax then (divRound ((vecLen r.ud r.uq : Int) * 2 ^ 30) r.vmax, d)
      else
        let (v, d) := d.free
        (((v % 2 ^ 32 : Nat) : Int), d)
    let fw := d.rdS (focIdFw n) - divRound (d.rdS (focFwKi n) * (m - d.rd (focFwStart n))) (2 ^ 30)
    d.wrS (focIdFw n) (clampInt (-(d.rd (focFwMax n) : Int)) 0 fw)

/-- FOC_STATUS.FW_ACTIVE follows i_d_fw (R203). -/
def Dev.syncFw (d : Dev) (n : Nat) : Dev :=
  let now := decide (d.rdS (focIdFw n) < 0)
  let was := d.on (focFwActive n)
  (d.wrB (focFwActive n) now).when_ (now && !was) (fun d => d.ev (.foc n) 4)

/-- Status bits, counts, events and LIM_HIT of a run (R198, R199, R202, R365). -/
def Dev.focStatus (d : Dev) (n : Nat) (ilim vlim svm holdD holdQ stale : Bool) : Dev :=
  let d := ((((d.wrB (focIlim n) ilim).wrB (focVlim n) vlim).wrB (focIntHoldD n) holdD).wrB (focIntHoldQ n) holdQ).wrB (focStaleHold n) stale
  let d := d.when_ ilim (fun d => (d.inc (focIlimTicks n)).ev (.foc n) 1)
  let d := d.when_ vlim (fun d => (d.inc (focVlimTicks n)).ev (.foc n) 0)
  d.when_ (ilim || vlim || svm) (fun d => d.flag n 0 flagLim)

/-- The duties of a current run (R362). -/
def Dev.setDuty (d : Dev) (n : Nat) (duty : List Int) : Dev :=
  d.modAx n (fun a => { a with newVec := some duty, comDuty := duty })

/-- The stock current program (R193) as one committed run. -/
def Dev.runFoc (d : Dev) (n t : Nat) (mem : Mem) : Dev × Mem :=
  let d := d.applySync n (d.ax n).snap.time
  let pwm := d.bridge n == 1
  let stale := d.on (curStale n)
  let d := d.when_ ((d.ax n).focResetRun || !pwm) (fun d =>
    (((d.wr (focIntD n) 0).wr (focIntQ n) 0).wr (focIdFw n) 0).modAx n (fun a => { a with focResetRun := false }))
  let d := d.when_ (!d.on (focFwEn n)) (fun d => d.wr (focIdFw n) 0)
  let s := (d.ax n).snap
  let (ia, ib) := (d.rdS (curIU n), divRound ((d.rdS (curIV n) - d.rdS (curIW n)) * one60) root3)
  let (th0, w) := d.angleOf n s.posComm s.speed s.portAngle
  let th := d.angleInUse n th0
  let d := d.when_ (d.angleSrc n == 1) (fun d => (d.observe n ia ib stale).accumulate n th)
  let (ti, tv) := d.advance n
  let (si, ci) := sinCos60 (wrapTo 32 ((th : Int) + angleOver w ti))
  let (sv, cv) := sinCos60 (wrapTo 32 ((th : Int) + angleOver w tv))
  let id := divRound (ia * ci + ib * si) one60
  let iq := divRound (ib * ci - ia * si) one60
  let (idc, src) := d.phaseRefs n
  let iff := if d.on (focAffEn n) then divRound (s.aCmd * d.rdS (focKa n)) (2 ^ 24) else 0
  let iq0 := src + iff + d.excAt n 0
  let (idr, iqr, ilim) := limitRefs (idc + d.rdS (focIdFw n)) iq0 s.iLim
  let (ed, eq) := (idr - id, iqr - iq)
  let d := (((d.satStore n 0 (focId n) id).satStore n 0 (focIq n) iq).wrSat (focIdRef n) idr).wrSat (focIqRef n) iqr
  let d := ((d.wr (focTheta n) th).wrSat (focWE n) w)
  let bus : Int := signedOf 32 (d.vBus n)
  let d := d.phaseStep n id iq stale
  let (d, mem) := d.captureRun mem n 0 iqr iq t
  let d :=
    if !pwm then
      let (v, d) := d.svm n 0 0 bus
      let d := (d.setDuty n v.duty).noteVector n 0 0 bus v
      let d := ((d.wr (focVd n) 0).wr (focVq n) 0).modAx n (fun a => { a with vPrev := [0, 0] })
      ((d.focStatus n ilim false false false false stale).syncFw n).i2tStep n 0
    else
      let r := d.regulate n w ed eq idr iqr bus
      let vlim := r.vd != r.ud || r.vq != r.uq
      let va := divRound (r.vd * cv - r.vq * sv) one60
      let vb := divRound (r.vd * sv + r.vq * cv) one60
      let (v, d) := d.svm n va vb bus
      let d := (d.setDuty n v.duty).noteVector n va vb bus v
      let d := ((d.satStore n 0 (focVd n) r.vd).satStore n 0 (focVq n) r.vq).modAx n (fun a => { a with vPrev := [va, vb] })
      let d := d.when_ (decide (bus ≤ 0)) (fun d => d.flag n 0 flagDiv)
      let (ind, hd) := intStep (d.rdS (focIntD n)) (d.rdS (focKiD n)) ed r.ud r.vd r.vmax v.lim
      let (inq, hq) := intStep (d.rdS (focIntQ n)) (d.rdS (focKiQ n)) eq r.uq r.vq r.vmax v.lim
      let d := if stale then d else ((d.wrSat (focIntD n) ind).wrSat (focIntQ n) inq).weaken n r
      let d := (d.focStatus n ilim vlim v.lim (hd && !stale) (hq && !stale) stale).syncFw n
      let d := d.trackTick n (!stale && !vlim) (vecLen ed eq)
      d.i2tStep n (d.ax n).idq2
  let d := (d.i2tLevel n true).modAx n (fun a => { a with sinceRun := 0 })
  (d.thermFault n t iq0, mem)

/-- TRACKING_ERROR (R206, R207): FOC_ERR_N consecutive error ticks. -/
def effTracking (n : Nat) (t : Nat) (d : Dev) : Dev :=
  if d.rd (focErrN n) ≤ (d.ax n).trackRun then
    let err := vecLen (d.rdS (focIdRef n) - d.rdS (focId n)) (d.rdS (focIqRef n) - d.rdS (focIq n))
    (d.ev (.foc n) 6).raise 0x1501 n 4 (min (err / 256) 65535) t
  else d

end Sys2Proof.Machine
end

