-- ==== Sys2Proof/Machine/Loops.lean ====
section
/-! DEFINITION. The stock velocity and position programs VEL_PI and POS_PI (R277 to R283, R297), the speed floor (R256),
reversals and the low-speed exit (R268). -/
namespace Sys2Proof.Machine

/-- v_fl of R256, Q28.4 counts/s: 1.1 × OBS_VMIN × E / 2π. -/
def Dev.vFloor (d : Dev) (n : Nat) : Int := divRound (11 * countsOf (d.rdS (obsVmin n)) (d.rd (focEcounts n))) 10

/-- The floor applies: the observer is the angle source, in TRACK or STOPPING (R256). -/
def Dev.floored (d : Dev) (n : Nat) : Bool := d.angleSrc n == 1 && (d.phase n == 7 || d.st n == stStopping)

/-- The speed that reaches the velocity loop (R256, R268): at least the floor, with the sign of ω̂; a command of opposite
sign at or beyond the floor is held at the floor when reversals are off. -/
def Dev.floorSpeed (d : Dev) (n : Nat) (v : Int) : Int × Dev :=
  if !d.floored n then (v, (d.wr (obsFloor n) 0).wr (obsRevBlock n) 0)
  else
    let fl := d.vFloor n
    let dir := signOf (d.rdS (obsSpeed n))
    let against := decide (v * dir < 0) && decide (fl ≤ v.natAbs)
    let low := decide ((v.natAbs : Int) < fl)
    let held := against && !d.on (obsRevEn n) && d.phase n == 7
    let d := (d.wrB (obsFloor n) (low || held)).wrB (obsRevBlock n) held
    (if low || held then dir * fl else v, d)

/-- The source of v_ref of a velocity run (R277, R279, R297). -/
def Dev.velSource (d : Dev) (n : Nat) : Int :=
  let s := (d.ax n).snap
  match d.mode n with
  | 3 | 4 | 5 => s.vRef
  | _ => if d.st n == stStopping then s.vStop else s.vGen

/-- A velocity run with MOT_INT_RESET or without a switching bridge starts from zero (R283). -/
def Dev.velReset_ (d : Dev) (n : Nat) : Dev :=
  if (d.ax n).velReset || d.bridge n != 1 then
    ((d.wr (motIntV n) 0).wr (motVFb n) 0).modAx n (fun a => { a with velReset := false })
  else d

/-- The filtered speed of R278. -/
def Dev.vFilter (d : Dev) (n : Nat) : Int :=
  let v := d.vFb n
  let k := d.rd (motVfiltK n)
  let f := d.rdS (motVFb n)
  if k = 0 then v else f + divRound (v - f) (2 ^ k)

/-- VEL_PI (R278 to R280) as one committed run. -/
def Dev.runVel (d : Dev) (n t : Nat) (mem : Mem) : Dev × Mem :=
  let d := d.velReset_ n
  let pwm := d.bridge n == 1
  let top := d.rdS (motVMax n)
  let raw := d.velSource n + d.excAt n 1
  let (v, d) := d.floorSpeed n (clampInt (-top) top raw)
  let vlim := clampInt (-top) top raw != raw
  let vf := d.vFilter n
  let e := v - vf
  let lim := (d.ax n).snap.iLim
  let g := fun (k : Fld) => divRound (d.rdS k * e) (1000 * 2 ^ 12)
  let u := g (motKpV n) + d.rdS (motIntV n) + g (motKiV n)
  let out := clampInt (-lim) lim u
  let held := out != u && sameSign e u
  let int := if held then d.rdS (motIntV n) else clampInt (-lim) lim (d.rdS (motIntV n) + g (motKiV n))
  let d := if pwm then (d.satStore n 1 (motIntV n) int).satStore n 1 (motVFb n) vf else d
  let d := ((d.wrSat (motVRef n) v).wrB (motVlim n) vlim).wrB (motFbSrc n) (d.angleSrc n == 1)
  let d := (d.wrB (motIlim n) (out != u)).wrB (motIntHoldV n) held
  let d := d.when_ (out != u) (fun d => d.flag n 1 flagLim)
  let d := d.when_ (saturate 32 u != u) (fun d => d.flag n 1 flagAdd)
  let d := d.modAx n (fun a => { a with velOut := some out, lastVref := some v })
  d.captureRun mem n 1 v vf t

/-- e_p of R281 in the snapshot, Q48.16 counts. -/
def Dev.posError (d : Dev) (n : Nat) : Int := (d.ax n).snap.pCmd - d.pFb n * 65536

/-- POS_PI (R281, R282) as one committed run. -/
def Dev.runPos (d : Dev) (n t : Nat) (mem : Mem) : Dev × Mem :=
  let pwm := d.bridge n == 1
  let d := if (d.ax n).posReset || !pwm then (d.wr (motIntP n) 0).modAx n (fun a => { a with posReset := false }) else d
  let s := (d.ax n).snap
  let ratio := d.rdS (motPvRatio n)
  let top := if ratio = 0 then 0 else (divRound (d.rdS (motVMax n) * 65536) ratio.natAbs)
  let e := d.posError n
  let g := fun (k : Fld) => divRound (d.rdS k * e) (2 ^ 28)
  let w := g (motKpP n) + d.rdS (motIntP n) + g (motKiP n) + divRound (d.rdS (motKvff n) * s.vFf) (2 ^ 30)
  let held := decide (top < w.natAbs) && sameSign e w
  let int := if held then d.rdS (motIntP n) else clampInt (-top) top (d.rdS (motIntP n) + g (motKiP n))
  let d := if pwm then d.satStore n 2 (motIntP n) int else d
  let out := divRound (w * ratio) 65536
  let d := (d.wrB (motIntHoldP n) held).when_ (decide (top < w.natAbs)) (fun d => d.flag n 2 flagLim)
  let d := d.when_ (saturate 32 out != out) (fun d => d.flag n 2 flagAdd)
  let d := d.modAx n (fun a => { a with posOut := some (saturate 32 out) })
  let rel := fun (p : Int) => p - (d.ax n).excBase
  d.captureRun mem n 2 (rel (divRound s.pCmd 65536)) (rel (d.pFb n)) t

/-- Step 2 of R29: the outputs of the programs that ended in the previous tick apply (R277, R283). -/
def Dev.applyOutputs (d : Dev) (n : Nat) : Dev :=
  let a := d.ax n
  if d.moves n then
    let d := match a.velOut with
      | some v => d.wrSat (motIOut n) v
      | none => d
    d.modAx n (fun a => { a with vRefApp := (a.posOut.getD a.vRefApp), velOut := none, posOut := none })
  else (d.wr (motIOut n) 0).modAx n (fun a => { a with vRefApp := 0, velOut := none, posOut := none })

/-- A command of the opposite sign in TRACK sends the axis to BRAKE with reversal purpose at the next boundary (R268). -/
def Dev.evalReversal (d : Dev) (n : Nat) : Dev :=
  let v := (d.ax n).snap.vRef
  let dir := signOf (d.rdS (obsSpeed n))
  if d.st n == stRun && d.phase n == 7 && d.angleSrc n == 1 && d.on (obsRevEn n) && (d.ax n).nextState == none
      && decide (v * dir < 0) && decide (d.vFloor n ≤ v.natAbs) then
    d.modAx n (fun a => { a with nextState := some (stBrake, 9, 2), sigma := signOf v })
  else d

/-- The low-speed exit (R268): in STOPPING with the observer, once the commanded speed has reached the floor. -/
def Dev.evalLowSpeed (d : Dev) (n b : Nat) : Dev :=
  let a := d.ax n
  if d.st n == stStopping && d.angleSrc n == 1 && !a.stopInit && decide ((a.stopRef.natAbs : Int) ≤ d.vFloor n) && a.nextState == none then
    if d.on (obsLowAct n) then
      if a.toFault then d.toFaultOff n causeInternal 9 b else (d.bridgeOff n b).setState n stArmed causeInternal 9 b
    else d.enterBrake n purposeStop causeInternal 9 b false a.toFault
  else d

end Sys2Proof.Machine
end

