-- ==== Sys2Proof/Machine/Olrus.lean ====
section
/-! DEFINITION. Olrus loop code (R357 to R369): the encoding, the checks of an install, and one run of a program. -/
namespace Sys2Proof.Machine

/-! ### Encoding (R366) -/

/-- Opcode field. -/
def olOp (w : Nat) : Nat := bitsAt w 26 6
/-- Field D. -/
def olD (w : Nat) : Nat := bitsAt w 21 5
/-- Field A. -/
def olA (w : Nat) : Nat := bitsAt w 16 5
/-- Field B. -/
def olB (w : Nat) : Nat := bitsAt w 0 16
/-- Register b of field B. -/
def olRb (w : Nat) : Nat := bitsAt w 0 5
/-- Shift s of field B. -/
def olS (w : Nat) : Nat := bitsAt w 5 6
/-- Condition code of field B. -/
def olC (w : Nat) : Nat := bitsAt w 13 3
/-- The immediate, sign-extended. -/
def olSext (w : Nat) : Int := signedOf 16 (olB w)

/-- Shape of an instruction: which fields it uses (R366, R367). For each field, the bits of field B that are used. -/
structure OlShape where
  /-- Field D is used. -/
  d : Bool
  /-- Field A is used. -/
  a : Bool
  /-- Mask of the used bits of field B. -/
  b : Nat
  /-- Cost in lane cycles (END: without its STB words). -/
  cost : Nat
deriving DecidableEq, Repr

/-- Register b. -/
abbrev bReg : Nat := 0x1F
/-- Shift s. -/
abbrev bShift : Nat := 0x7E0
/-- Condition code. -/
abbrev bCond : Nat := 0xE000
/-- Immediate. -/
abbrev bImm : Nat := 0xFFFF

/-- The instruction table of R367; none for a reserved opcode. -/
def olShape (op : Nat) : Option OlShape :=
  match op with
  | 0x00 => some ⟨false, false, 0, 1⟩
  | 0x01 | 0x07 | 0x08 => some ⟨true, true, 0, 1⟩
  | 0x02 | 0x03 => some ⟨true, false, bImm, 1⟩
  | 0x04 | 0x05 | 0x0D | 0x0E | 0x0F | 0x10 | 0x11 | 0x12 | 0x1C | 0x1D => some ⟨true, true, bReg, 1⟩
  | 0x06 => some ⟨true, true, bImm, 1⟩
  | 0x09 => some ⟨true, true, bReg + bShift, 2⟩
  | 0x0A => some ⟨true, true, bImm, 2⟩
  | 0x0B | 0x0C => some ⟨true, true, bShift, 1⟩
  | 0x13 => some ⟨false, true, bReg, 1⟩
  | 0x14 => some ⟨false, true, bImm, 1⟩
  | 0x15 => some ⟨false, true, bShift, 1⟩
  | 0x16 => some ⟨true, true, bReg + bCond, 1⟩
  | 0x17 => some ⟨false, false, 0xE0FF, 1⟩
  | 0x18 | 0x19 => some ⟨true, true, bReg, 2⟩
  | 0x1A | 0x1B => some ⟨true, true, bShift, 1⟩
  | 0x1E | 0x1F => some ⟨true, true, 0, 17⟩
  | 0x20 => some ⟨true, true, bShift, 21⟩
  | 0x21 => some ⟨true, true, bImm, 8⟩
  | 0x22 => some ⟨true, true, 0, 3⟩
  | 0x23 | 0x24 => some ⟨true, true, bReg, 24⟩
  | 0x25 => some ⟨true, true, bReg, 30⟩
  | 0x26 => some ⟨true, true, bReg, 40⟩
  | 0x28 | 0x29 | 0x2A => some ⟨true, false, bImm, 1⟩
  | 0x2B => some ⟨true, true, bImm, 2⟩
  | 0x2C | 0x2D => some ⟨false, true, bImm, 1⟩
  | 0x2E => some ⟨true, true, bImm, 1⟩
  | 0x2F => some ⟨false, false, bImm, 1⟩
  | 0x30 => some ⟨false, false, 0, 2⟩
  | _ => none

/-- A register number is even. -/
def evenReg (r : Nat) : Bool := r % 2 == 0

/-- The register and operand rules of an opcode (R366, R367). A pair must not extend past w31. -/
def olRegsOk (w : Nat) : Bool :=
  let d := olD w
  let a := olA w
  match olOp w with
  | 0x09 => decide (olS w ≤ 62)
  | 0x0B | 0x0C | 0x15 => decide (olS w ≤ 31)
  | 0x1A => decide (olS w ≤ 32)
  | 0x1E => evenReg d
  | 0x1F => evenReg d && evenReg a
  | 0x20 => decide (olS w ≤ 62)
  | 0x21 => evenReg d && decide (olB w ≤ 125)
  | 0x22 => evenReg d && decide (a ≤ 29)
  | 0x23 => evenReg d && evenReg a
  | 0x24 | 0x25 => decide (d ≤ 30) && decide (a ≤ 30)
  | 0x26 => decide (d ≤ 29) && decide (a ≤ 30)
  | _ => true

/-- An input port that R361 lists. -/
def inPortOk (p : Nat) : Bool := decide (p ≤ 0x16) || (decide (0x20 ≤ p) && decide (p ≤ 0x3F))

/-- An output port allowed in a slot (R362). -/
def outPortOk (slot p : Nat) : Bool :=
  (decide (p ≤ 2) && slot == 0) || (p == 3 && slot == 1) || (p == 4 && slot == 2) || p == 5 || (decide (8 ≤ p) && decide (p ≤ 0xF))

/-- The operand ranges of R369. -/
def olPortsOk (slot w : Nat) : Bool :=
  match olOp w with
  | 0x28 | 0x2C => decide (olB w ≤ 255)
  | 0x29 => decide (olB w ≤ 127)
  | 0x2A => inPortOk (olB w)
  | 0x2D => outPortOk slot (olB w)
  | 0x17 => decide (1 ≤ olB w % 256)
  | _ => true

/-- STP, STO, STB and REQ take a place in the store buffer (R358). -/
def olStores (w : Nat) : Bool := decide (0x2C ≤ olOp w) && decide (olOp w ≤ 0x2F)

/-- One word stands as R366 to R369 allow at a place with `left` words after it. -/
def olWordOk (slot w left : Nat) : Bool :=
  match olShape (olOp w) with
  | none => false
  | some sh =>
    (sh.d || olD w == 0) && (sh.a || olA w == 0) && (olB w &&& sh.b) == olB w && olRegsOk w && olPortsOk slot w
      && (if olOp w = 0x30 then left == 0 else left != 0)
      && (if olOp w = 0x17 then decide (olB w % 256 < left) else true)

/-- The first failing word of a program (R369), counting the store words so far. -/
def olFirstBad (slot : Nat) : Nat → Nat → List Nat → Option Nat
  | _, _, [] => none
  | i, stores, w :: ws =>
    let stores := if olStores w then stores + 1 else stores
    if !olWordOk slot w ws.length || decide (64 < stores) then some i else olFirstBad slot (i + 1) stores ws

/-- The checks of R369: none when the program is accepted. -/
def olCheck (slot : Nat) (code : List Nat) : Option Nat :=
  if 4096 < code.length then some 4096 else if code.isEmpty then some 0 else olFirstBad slot 0 0 code

/-- The STB words of a program. -/
def olStbs (code : List Nat) : Nat := (code.filter (fun w => olOp w == 0x2E)).length

/-- The cost of one word in a program with a number of STB words (R367). -/
def olCost (stbs w : Nat) : Nat := ((olShape (olOp w)).map (·.cost)).getD 1 + (if olOp w = 0x30 then stbs else 0)

/-- The issue cost of a program (R370). -/
def olIssue (code : List Nat) : Nat := code.foldl (fun s w => s + olCost (olStbs code) w) 0

/-! ### A run (R357 to R365) -/

/-- A held store of a run (R358). -/
inductive OlStore where
  /-- Parameter word and value. -/
  | param (w v : Nat)
  /-- Output port and value. -/
  | out (p : Nat) (v : Int)
  /-- Bank address and value. -/
  | bank (a : Int) (v : Nat)
  /-- Request code. -/
  | req (c : Nat)
deriving DecidableEq, Repr

/-- The context of a run. -/
structure OlRun where
  /-- w0 to w31. -/
  regs : List Int := List.replicate 32 0
  /-- acc0 and acc1. -/
  acc : List Int := [0, 0]
  /-- The order found by the last compare: LT, EQ or GT. -/
  ord : Ordering := .eq
  /-- A sticky flag was set during this run. -/
  sat : Bool := false
  /-- Sticky flags set. -/
  flags : Nat := 0
  /-- Held stores, oldest first. -/
  stores : List OlStore := []
  /-- Cycles taken. -/
  cycles : Nat := 0
  /-- Instructions still to be skipped. -/
  skip : Nat := 0
  /-- Vector, bus voltage and result of the last SVM. -/
  svm : Option (Int × Int × Int × Svm) := none
deriving DecidableEq, Repr

/-- Register r. -/
def OlRun.w (r : OlRun) (i : Nat) : Int := r.regs.getD i 0
/-- Write a register. -/
def OlRun.set (r : OlRun) (i : Nat) (v : Int) : OlRun := { r with regs := r.regs.set i v }
/-- Set a sticky flag. -/
def OlRun.flag (r : OlRun) (bit : Nat) : OlRun := { r with flags := setBit r.flags bit, sat := true }
/-- Set a sticky flag when b holds. -/
def OlRun.flagIf (r : OlRun) (b : Bool) (bit : Nat) : OlRun := if b then r.flag bit else r
/-- Write the nearest 32-bit value, and set a flag when it differs (R363). -/
def OlRun.put (r : OlRun) (i : Nat) (v : Int) (bit : Nat) : OlRun := (r.set i (saturate 32 v)).flagIf (saturate 32 v != v) bit
/-- Write an accumulator (R363). -/
def OlRun.putAcc (r : OlRun) (i : Nat) (v : Int) : OlRun :=
  { r with acc := r.acc.set i (saturate 64 v) }.flagIf (saturate 64 v != v) flagAcc

/-- A condition code holds (R360). -/
def OlRun.holds (r : OlRun) (c : Nat) : Bool :=
  match c with
  | 0 => r.ord == .eq
  | 1 => r.ord != .eq
  | 2 => r.ord == .lt
  | 3 => r.ord != .lt
  | 4 => r.ord == .gt
  | 5 => r.ord != .gt
  | 6 => r.sat
  | _ => true

/-- The order of two integers. -/
def orderOf (a b : Int) : Ordering := if a < b then .lt else if a = b then .eq else .gt

/-- The bit pattern of a register value. -/
def bits32 (v : Int) : Nat := wrapTo 32 v
/-- The register value of a bit pattern. -/
def ofBits (v : Nat) : Int := signedOf 32 v

/-- SINCOS within its bound (R367): cosine or sine in Q2.30 and an error of at most 2^-15. -/
def macroTrig (op : Nat) (exact a : Int) : Int := exact + clampInt (-(2 ^ 15)) (2 ^ 15) (Config.macroError op a 0)

/-- ATAN2 within its bounds (R367): the angle within 2^15 units, the magnitude within a relative 2^-15. -/
def macroAtan (x y : Int) : Int × Int :=
  if x = 0 ∧ y = 0 then (0, 0)
  else
    let m : Int := vecLen x y
    let rel := m / 2 ^ 15
    (ofBits (wrapTo 32 ((atan2 y x : Int) + clampInt (-(2 ^ 15)) (2 ^ 15) (Config.macroError 0x1F x y))),
     m + clampInt (-rel) rel (Config.macroError 0x20 x y))

/-- Low and high halves of a 64-bit number. -/
def lowHalf (v : Int) : Int := ofBits (wrapTo 32 v)
/-- The high half. -/
def highHalf (v : Int) : Int := ofBits (wrapTo 64 v / 2 ^ 32)

/-- The input ports (R361). -/
def Dev.inPort (d : Dev) (n slot p : Nat) : Int :=
  let s := (d.ax n).snap
  if p < 3 then (if slot = 0 then d.rdS (match p with | 0 => curIU n | 1 => curIV n | _ => curIW n) else s.iPh.getD p 0)
  else if 0x20 ≤ p ∧ p < 0x30 then ofBits (s.adcRes.getD (p - 0x20) 0)
  else if 0x30 ≤ p ∧ p < 0x38 then ofBits (s.hostIn.getD (p - 0x30) 0)
  else if 0x38 ≤ p ∧ p < 0x40 then ofBits (s.outs.getD (p - 0x38) 0)
  else
    match p with
    | 0x03 => if slot = 0 then ofBits (d.vBus n) else s.vBus
    | 0x04 => ofBits s.theta
    | 0x05 => s.wE
    | 0x06 => s.speed
    | 0x07 => s.obsSpeed
    | 0x08 => lowHalf s.posPos
    | 0x09 => highHalf s.posPos
    | 0x0A => ofBits s.obsAngle
    | 0x0B => ofBits s.fbStatus
    | 0x0C => lowHalf s.pCmd
    | 0x0D => highHalf s.pCmd
    | 0x0E => if s.axisWord % 16 = stStopping then s.vStop else s.vGen
    | 0x0F => saturate 32 s.aCmd
    | 0x10 => s.iSrc
    | 0x11 => s.vApp
    | 0x12 => s.idCmd
    | 0x13 => s.iqCmd
    | 0x14 => ofBits s.axisWord
    | 0x15 => ofBits s.tick
    | 0x16 => s.iLim
    | _ => 0

/-- The lane that runs a slot of axis n (R355): 0 to 5 for a current program, 6 or 7 for the others. -/
def laneOf (n slot : Nat) : Nat := if slot = 0 then n / 4 else 6 + regionOf (n / 4)
/-- The memory master of a lane (R395). -/
def laneMaster (l : Nat) : Nat := 8 + l
/-- A bad bank access of a lane sets BANK_REF of its page (R368). -/
def Dev.bankRef (d : Dev) (l : Nat) : Dev := d.ev (if l < 6 then .clu l else .gln (l - 6)) 4

/-- A bank address a lane may use at all: a bad address is refused under the bank rules, with its own low 22 bits. -/
def laneAddr (a : Int) : Nat := if 0 ≤ a ∧ a < memSize then a.toNat else memSize + wrapTo 22 a

/-- LDB (R367, R368): the word, 0 for a bad access or an uncorrectable word. -/
def Dev.laneLoad (d : Dev) (mem : Mem) (l : Nat) (a : Int) (t : Nat) : Int × Dev :=
  let a := laneAddr a
  let bad := decide (memSize ≤ a) || a % 4 != 0 || (d.bankBar (bankOf a) (laneMaster l) false).isSome
  let (v, d) := d.bankRead mem (laneMaster l) a t
  (ofBits (v.getD 0), d.when_ bad (fun d => d.bankRef l))

/-- The parameter word of a slot. -/
def Dev.paramWord (d : Dev) (n slot w : Nat) : Nat := (tabGet (d.slot n slot).params w).getD 0
/-- The coefficient word of the active bank of a slot. -/
def Dev.coefWord (d : Dev) (n slot w : Nat) : Nat :=
  let s := d.slot n slot
  (tabGet (if s.active then s.bankB else s.bankA) w).getD 0

/-- PI (R368) on an error and an integrator with the coefficient words from c on; the spec gives no result for a negative
limit, where both results are free values (log entry 1). -/
def olPi (d : Dev) (n slot dst c : Nat) (e i : Int) (r : OlRun) : OlRun × Dev :=
  let k := fun (j : Nat) => ofBits (d.coefWord n slot (c + j))
  let p0 := divRound (k 0 * e) (2 ^ 24)
  let k0 := divRound (k 1 * e) (2 ^ 24)
  let p := saturate 32 p0
  let kk := saturate 32 k0
  let u0 := p + i + kk
  let u := saturate 32 u0
  let lim := k 2
  let r := (r.flagIf (p != p0 || kk != k0) flagMul).flagIf (u != u0) flagAdd
  if lim < 0 then
    let (x, d) := d.free
    let (y, d) := d.free
    ((r.set dst (ofBits (x % 2 ^ 32))).set (dst + 1) (ofBits (y % 2 ^ 32)), d)
  else
    let out := clampInt (-lim) lim u
    if out ≠ u ∧ sameSign e u then (((r.set dst out).set (dst + 1) i).flag flagLim, d)
    else ((r.set dst out).set (dst + 1) (clampInt (-lim) lim (i + kk)), d)

/-- One instruction (R367); its cost is counted by the caller. -/
def olExec (n slot w t : Nat) (mem : Mem) (r : OlRun) (d : Dev) : OlRun × Dev :=
  let dst := olD w
  let a := r.w (olA w)
  let a1 := r.w (olA w + 1)
  let b := r.w (olRb w)
  let s := olS w
  match olOp w with
  | 0x01 => (r.set dst a, d)
  | 0x02 => (r.set dst (olSext w), d)
  | 0x03 => (r.set dst (ofBits (olB w * 65536 + bits32 (r.w dst) % 65536)), d)
  | 0x04 => (r.put dst (a + b) flagAdd, d)
  | 0x05 => (r.put dst (a - b) flagAdd, d)
  | 0x06 => (r.put dst (a + olSext w) flagAdd, d)
  | 0x07 => (r.put dst (-a) flagAdd, d)
  | 0x08 => (r.put dst a.natAbs flagAdd, d)
  | 0x09 => (r.put dst (divRound (a * b) (2 ^ s)) flagMul, d)
  | 0x0A => (r.put dst (a * olSext w) flagMul, d)
  | 0x0B => (r.put dst (a * 2 ^ s) flagMul, d)
  | 0x0C => (r.set dst (divRound a (2 ^ s)), d)
  | 0x0D => (r.set dst (min a b), d)
  | 0x0E => (r.set dst (max a b), d)
  | 0x0F =>
    let lim := min (2 ^ 31 - 1) (b.natAbs : Int)
    ((r.set dst (clampInt (-lim) lim a)).flagIf (clampInt (-lim) lim a != a) flagLim, d)
  | 0x10 => (r.set dst (ofBits (bits32 a &&& bits32 b)), d)
  | 0x11 => (r.set dst (ofBits (bits32 a ||| bits32 b)), d)
  | 0x12 => (r.set dst (ofBits (bits32 a ^^^ bits32 b)), d)
  | 0x13 => ({ r with ord := orderOf a b }, d)
  | 0x14 => ({ r with ord := orderOf a (olSext w) }, d)
  | 0x15 => ({ r with ord := if bitAt (bits32 a) s then .gt else .eq }, d)
  | 0x16 => (r.set dst (if r.holds (olC w) then a else b), d)
  | 0x17 => ({ r with skip := if r.holds (olC w) then olB w % 256 else 0 }, d)
  | 0x18 => (r.putAcc (dst % 2) (r.acc.getD (dst % 2) 0 + a * b), d)
  | 0x19 => (r.putAcc (dst % 2) (r.acc.getD (dst % 2) 0 - a * b), d)
  | 0x1A => (r.putAcc (dst % 2) (a * 2 ^ s), d)
  | 0x1B => (r.put dst (divRound (r.acc.getD (olA w % 2) 0) (2 ^ s)) flagAcc, d)
  | 0x1C => (r.set dst (ofBits (wrapTo 32 (a + b))), d)
  | 0x1D => (r.set dst (ofBits (wrapTo 32 (a - b))), d)
  | 0x1E =>
    let th := bits32 a
    ((r.set dst (macroTrig 0x1D (cosQ30 th) a)).set (dst + 1) (macroTrig 0x1E (sinQ30 th) a), d)
  | 0x1F =>
    let (th, m) := macroAtan a a1
    ((r.set dst th).put (dst + 1) m flagMul, d)
  | 0x20 =>
    if a = 0 then ((r.set dst (2 ^ 31 - 1)).flag flagDiv, d) else (r.put dst (divRound (2 ^ (62 - s)) a) flagMul, d)
  | 0x21 => olPi d n slot dst (olB w) a (r.w (dst + 1)) r
  | 0x22 => ((r.set dst a).put (dst + 1) (divRound ((a1 - r.w (olA w + 2)) * one60) root3) flagAdd, d)
  | 0x23 =>
    let (sn, cs) := sinCos60 (bits32 b)
    ((r.put dst (divRound (a * cs + a1 * sn) one60) flagAdd).put (dst + 1) (divRound (a1 * cs - a * sn) one60) flagAdd, d)
  | 0x24 =>
    let (sn, cs) := sinCos60 (bits32 b)
    ((r.put dst (divRound (a * cs - a1 * sn) one60) flagAdd).put (dst + 1) (divRound (a * sn + a1 * cs) one60) flagAdd, d)
  | 0x25 =>
    let (x, y) := circle a a1 b.natAbs
    (((r.set dst x).set (dst + 1) y).flagIf (x != a || y != a1) flagLim, d)
  | 0x26 =>
    let (v, d) := d.svm n a a1 b
    let r := ((r.set dst (v.duty.getD 0 0)).set (dst + 1) (v.duty.getD 1 0)).set (dst + 2) (v.duty.getD 2 0)
    (({ r with svm := some (a, a1, b, v) }.flagIf v.lim flagLim).flagIf (decide (b ≤ 0)) flagDiv, d)
  | 0x28 => (r.set dst (ofBits (d.paramWord n slot (olB w))), d)
  | 0x29 => (r.set dst (ofBits (d.coefWord n slot (olB w))), d)
  | 0x2A => (r.set dst (d.inPort n slot (olB w)), d)
  | 0x2B =>
    let (v, d) := d.laneLoad mem (laneOf n slot) (a + olSext w) t
    (r.set dst v, d)
  | 0x2C => ({ r with stores := r.stores ++ [.param (olB w) (bits32 a)] }, d)
  | 0x2D => ({ r with stores := r.stores ++ [.out (olB w) a] }, d)
  | 0x2E => ({ r with stores := r.stores ++ [.bank (r.w dst + olSext w) (bits32 a)] }, d)
  | 0x2F => ({ r with stores := r.stores ++ [.req (olB w)] }, d)
  | _ => (r, d)

/-- Issue one word within a budget of cycles: skipped words cost nothing; a word that does not complete within the budget
has no effect, and nothing after it is issued (R357, R360, R377). -/
def olIssueWord (n slot stbs t budget : Nat) (mem : Mem) (x : OlRun × Dev) (w : Nat) : OlRun × Dev :=
  let (r, d) := x
  if r.skip ≠ 0 then ({ r with skip := r.skip - 1 }, d)
  else
    let cost := olCost stbs w
    if budget < r.cycles + cost then ({ r with cycles := budget + 1 }, d)
    else olExec n slot w t mem { r with cycles := r.cycles + cost } d

/-- Run the words of a program within a budget of cycles. -/
def Dev.olRun (d : Dev) (n slot t budget : Nat) (mem : Mem) (code : List Nat) : OlRun × Dev :=
  code.foldl (olIssueWord n slot (olStbs code) t budget mem) ({}, d)

/-- The sticky flags of a run reach PRG_FLAGS (R365). -/
def Dev.runFlags (d : Dev) (n slot : Nat) (flags : Nat) : Dev := d.each (bitList 5 flags) (fun b d => d.flag n slot b)

/-- An output port takes its value at END (R362). -/
def Dev.outPort (d : Dev) (n slot p : Nat) (v : Int) : Dev :=
  if p < 3 then d.modAx n (fun a => { a with comDuty := a.comDuty.set p v })
  else if 8 ≤ p ∧ p < 16 then d.wr (prgOut n (p - 8)) (bits32 v)
  else
    match p with
    | 3 => d.modAx n (fun a => { a with velOut := some v })
    | 4 => d.modAx n (fun a => { a with posOut := some v })
    | 5 => d.modSlot n slot (fun s => { s with gp := bits32 v % 2 == 1 })
    | _ => d

/-- A request fires at END (R362): an injection slot with TRIG 2, or a sequence pass with TRIG 2. -/
def Dev.laneReq (d : Dev) (n code t : Nat) : Dev :=
  let c := n / 4
  if bitAt code 4 then (if d.rd (adcSeqTrig c) = 2 then d.startPass c else d)
  else
    let i := code % 8
    if d.rd (adcInjCfgTrig c i) = 2 then d.injTrigger c i (d.injLinkChan c i) t else d

/-- One held store commits (R359). -/
def Dev.commitStore (d : Dev) (mem : Mem) (n slot t : Nat) : OlStore → Dev × Mem
  | .param w v => (d.modSlot n slot (fun s => { s with params := tabSet s.params w v }), mem)
  | .out p v => (d.outPort n slot p v, mem)
  | .bank a v =>
    let a := laneAddr a
    let l := laneOf n slot
    let bad := decide (memSize ≤ a) || a % 4 != 0 || (d.bankBar (bankOf a) (laneMaster l) true).isSome
    let (_, d, mem) := d.bankWrite mem (laneMaster l) a v t
    (d.when_ bad (fun d => d.bankRef l), mem)
  | .req c => (d.laneReq n c t, mem)

/-- END commits every held store in program order (R359). -/
def Dev.commitStores (d : Dev) (mem : Mem) (n slot t : Nat) : List OlStore → Dev × Mem
  | [] => (d, mem)
  | s :: rest =>
    let (d, mem) := d.commitStore mem n slot t s
    Dev.commitStores d mem n slot t rest

/-- A custom program as one committed run: the cycles it took, flags, stores and duties. -/
def Dev.runCustom (d : Dev) (n slot t : Nat) (mem : Mem) : Nat × Dev × Mem :=
  let code := (d.slot n slot).code
  let (r, d) := d.olRun n slot t (2 ^ 32) mem code
  let d := d.runFlags n slot r.flags
  let (d, mem) := d.commitStores mem n slot t r.stores
  let d := match r.svm with
    | some (va, vb, bus, v) => d.noteVector n va vb bus v
    | none => d
  let d := d.when_ (slot == 0) (fun d => d.modAx n (fun a => { a with newVec := some a.comDuty, sinceRun := 0 }))
  (r.cycles, d, mem)

end Sys2Proof.Machine
end

