-- ==== Sys2Proof/Machine/Lanes.lean ====
section
/-! DEFINITION. The lanes (R354 to R359, R377 to R379, R387): which programs are due, their start, their end, their
deadlines and overruns, and program-memory errors. -/
namespace Sys2Proof.Machine

/-- The axes of a lane in ascending order (R354). -/
def laneAxes (l : Nat) : List Nat := if l < 6 then (List.range 4).map (fun k => 4 * l + k) else bitList 24 (regionAxes (l - 6))

/-- The page of a lane. -/
def lanePage (l : Nat) : Page := if l < 6 then .clu l else .gln (l - 6)

/-- The axis is in a state in which its programs run (R28). -/
def Dev.runsPrograms (d : Dev) (n : Nat) : Bool := let s := d.st n; !(s == stOff || s == stFault || s == stService)

/-- The divider NA of the AUX slot (R355). -/
def Dev.na_ (d : Dev) (n : Nat) : Nat := d.rd (prgNa n) + 1

/-- A slot of axis n is due in tick j, whatever the state and mode of the axis (R276, R355). -/
def Dev.slotDue (d : Dev) (n slot j : Nat) : Bool :=
  match slot with
  | 0 => true
  | 1 => d.velDue n j
  | 2 => d.posDue n j
  | _ => ((j : Int) - d.rd (prgPhaseA n)) % (d.na_ n : Int) == 0

/-- A slot of axis n runs in tick j (R277, R355). -/
def Dev.slotRuns (d : Dev) (n slot j : Nat) : Bool :=
  d.runsPrograms n && (d.slot n slot).id != 0 && d.slotDue n slot j
    && !(slot == 2 && d.mode n == 1) && !(slot == 1 && d.mode n == 1 && d.st n != stStopping)

/-- The deadline of the current program of the tick that is in progress, in quarters of a ns (R40). -/
def Dev.curDeadline (d : Dev) (n : Nat) : Nat :=
  axisTick (d.tcNow (n / 4)) n d.tickStart + 5 * d.tcNow (n / 4) / 2 - 4000

/-- The deadline of a run in quarters of a ns (R31, R40): a current program of the tick before keeps its own. -/
def Dev.deadline (d : Dev) (n slot : Nat) : Nat :=
  if slot = 0 then (match (d.ax n).curKeep with
    | some k => k.2.1
    | none => d.curDeadline n)
  else 4 * (d.nextTick - 1000)

/-- The current program of axis n is done with: after one of the tick before, that of the present tick is awaited (R40). -/
def Dev.curDone (d : Dev) (n : Nat) : Dev :=
  let next := if (d.ax n).curKeep.isSome && d.runsPrograms n then 0 else 2
  d.modAx n (fun a => { a with curRun := next, curKeep := none })

/-- At boundary b the current program of the tick that ends goes on while its deadline is still to come: with one carrier
per tick, that of axes 2 and 3 lies past the boundary. It keeps the snapshot of its tick (R29, R40), and the settings: a run that
follows the boundary is the first to use those of its commits (R204). -/
def Dev.keepCurrent (d : Dev) (n b : Nat) : Dev :=
  let a := d.ax n
  let q := d.curDeadline n
  let going := a.curKeep.isNone && a.curRun != 2 && d.runsPrograms n && (d.slot n 0).id != 0 && decide (4 * b < q)
  let settings := (focFields n ++ obsFields n ++ [axbMode n]).filter (fun f => f.acc == .rwt)
  d.modAx n (fun a => { a with curKeep := if going then some (a.snap, q, settings.map (fun f => (f, d.rd f))) else none })

/-- The observer of a current program is counted (R252, R356). -/
def Dev.observerCounted (d : Dev) (n : Nat) : Bool :=
  d.rd (focAngleSrc n) == 1 || d.rd (focAngleSrc n) == 2 || d.rd (supFbLoss n) == 2

/-- The issue cost of a stock program (R356). -/
def Dev.stockCost (d : Dev) (n id : Nat) : Nat :=
  match id with
  | 1 => if d.observerCounted n then (if d.on (obsHfiEn n) then 660 else 600) else 360
  | 2 => 92
  | 3 => 104
  | _ => 0

/-- The issue cost of the program in a slot (R370). -/
def Dev.issueCost (d : Dev) (n slot : Nat) : Nat :=
  let s := d.slot n slot
  if s.id = 0x8000 then olIssue s.code else d.stockCost n s.id

/-! ### Overruns (R377 to R379) -/

/-- The cycles a run has had by an instant in quarters of a ns; a lane cycle is 2.5 ns. -/
def runCycles (start q : Nat) : Nat := (q - 4 * start) / 10

/-- An aborted custom run leaves the sticky flags of the instructions it completed (R365, R379). -/
def Dev.abortFlags (d : Dev) (n slot start q t : Nat) (mem : Mem) : Dev :=
  let s := d.slot n slot
  if s.id ≠ 0x8000 then d
  else
    let (r, d) := d.olRun n slot t (runCycles start q) mem s.code
    d.runFlags n slot r.flags

/-- An overrun of a slot: its counts, and the OVERRUN event of the lane page (R289, R379). -/
def Dev.laneOverrun (d : Dev) (n slot : Nat) : Dev :=
  let d := (d.overrun n slot).ev (lanePage (laneOf n slot)) 1
  if slot = 0 then d.curDone n else d

/-- The head of a lane leaves it; a global lane starts the next program at once (R378). -/
def Dev.popLane (d : Dev) (l t : Nat) : Dev :=
  d.modLane l (fun x => { x with queue := x.queue.tail, started := if 6 ≤ l ∧ 2 ≤ x.queue.length then some t else none })

/-! ### Program memory (R387) -/

/-- The words of program memory that a slot's custom program holds. -/
def Dev.slotRange (d : Dev) (n slot : Nat) : Nat × Nat :=
  let s := d.slot n slot
  if s.id = 0x8000 then (s.base, s.base + s.code.length) else (0, 0)

/-- An error of a program-memory word is found: corrected and counted, or left as uncorrectable (R387). -/
def Dev.wordError (d : Dev) (l a : Nat) (unc : Bool) : Dev :=
  let d := if l < 6 then d.wr (cluLastAddr l) a else d.wr (glnLastAddr (l - 6)) a
  if unc then
    (d.ev (lanePage l) 3).modLane l (fun x => if x.bad.contains (a, true) then x else { x with bad := x.bad ++ [(a, true)] })
  else (if l < 6 then d.inc (cluCorrected l) else d.inc (glnCorrected (l - 6))).ev (lanePage l) 2

/-- An uncorrectable word raises the fault of its lane, which stands while a program holds the word (R387, R388). -/
def Dev.wordFault (d : Dev) (l a t : Nat) : Dev :=
  let holders := (laneAxes l).flatMap (fun n => ((List.range 4).filter (fun s => laneOf n s == l)).filterMap (fun s =>
    let (lo, hi) := d.slotRange n s
    if lo ≤ a ∧ a < hi then some (n, s) else none))
  let d := d.modLane l (fun x => { x with faulty := x.faulty ++ holders.filter (fun h => !x.faulty.contains h) })
  if l < 6 then d.raise 0x2A01 l 4 a t else d.raise 0x3A01 (l - 6) 4 a t

/-- SCRUB_READ (R387): the idle-cycle read of a word of lane l, unless SCRUB_EN is 0; the error it finds there. -/
def effScrub (l a : Nat) (err : Option Bool) (t : Nat) (d : Dev) : Dev :=
  if !(if l < 6 then d.on (cluScrubEn l) else d.on (glnScrubEn (l - 6))) then d
  else
    match err with
    | some false => d.wordError l a false
    | some true => (d.wordError l a true).wordFault l a t
    | none => if (d.lane l).bad.contains (a, true) then (d.wordError l a true).wordFault l a t else d

/-- Walk a program to the first uncorrectable word that it would fetch (R387): the run up to there, and its address. -/
def olToBad (n slot stbs t : Nat) (mem : Mem) (bad : Nat → Bool) : Nat → List Nat → OlRun × Dev → Option Nat × OlRun × Dev
  | _, [], x => (none, x)
  | a, w :: ws, x =>
    if x.1.skip = 0 ∧ bad a then (some a, x) else olToBad n slot stbs t mem bad (a + 1) ws (olIssueWord n slot stbs t (2 ^ 32) mem x w)

/-- The head of lane l fetches an uncorrectable word: the run is aborted there as an overrun, and the fault is raised. -/
def Dev.fetchFault (d : Dev) (l t : Nat) (mem : Mem) : Option Dev :=
  match (d.lane l).queue with
  | [] => none
  | (n, slot) :: _ =>
    let s := d.slot n slot
    if s.id ≠ 0x8000 then none
    else
      let bad := fun a => (d.lane l).bad.contains (a, true)
      match olToBad n slot (olStbs s.code) t mem bad s.base s.code ({}, d) with
      | (some a, r, d) => some ((((d.runFlags n slot r.flags).laneOverrun n slot).wordFault l a t).popLane l t)
      | (none, _, _) => none

/-- The programs at the head of a global lane that fetch an uncorrectable word are aborted one after another. -/
def Dev.dropFaulty (d : Dev) (l t : Nat) (mem : Mem) : Nat → Dev
  | 0 => d
  | k + 1 => match d.fetchFault l t mem with
    | some d => Dev.dropFaulty d l t mem k
    | none => d

/-! ### Starts (R39, R378) -/

/-- The errors that the fetches of a run meet: word and whether it is uncorrectable. -/
def Dev.wordErrors (d : Dev) (l : Nat) (errs : List (Nat × Bool)) : Dev := errs.foldl (fun d e => d.wordError l e.1 e.2) d

/-- CUR_PROGRAM_START (R39, R377): the lane is free and starts the program that became ready first, before its deadline. -/
def effCurStart (c : Nat) (errs : List (Nat × Bool)) (t : Nat) (mem : Mem) (d : Dev) : Dev :=
  let l := d.lane c
  match l.queue, l.started with
  | (n, _) :: _, none =>
    if d.deadline n 0 ≤ 4 * t then d
    else
      let d := (d.modLane c (fun x => { x with started := some t })).modAx n (fun a =>
        { a with curRun := 1, focReset := false, focResetRun := a.focResetRun || a.focReset })
      let d := d.wordErrors c errs
      match d.fetchFault c t mem with
      | some d => d
      | none => d
  | _, _ => d

/-- GLOBAL_LANE_START (R378): the due programs of the tick, axis by axis in the order VEL, POS, AUX. -/
def effGlobalStart (g : Nat) (errs : List (Nat × Bool)) (t : Nat) (mem : Mem) (d : Dev) : Dev :=
  let l := 6 + g
  let j := d.rd timeTickCount
  let due := (laneAxes l).flatMap (fun n => [1, 2, 3].filterMap (fun s => if d.slotRuns n s j then some (n, s) else none))
  let d := d.modLane l (fun x => { x with queue := due, started := if due.isEmpty then none else some t })
  (d.wordErrors l errs).dropFaulty l t mem due.length

/-! ### Ends (R359) -/

/-- Run a slot's program as one committed run: its cycles without stalls. -/
def Dev.runSlot (d : Dev) (n slot t : Nat) (mem : Mem) : Nat × Dev × Mem :=
  match (d.slot n slot).id with
  | 0x8000 => d.runCustom n slot t mem
  | 1 => let (e, mem) := d.runFoc n t mem
         (d.stockCost n 1, e, mem)
  | 2 => let (e, mem) := d.runVel n t mem
         (d.stockCost n 2, e, mem)
  | 3 => let (e, mem) := d.runPos n t mem
         (d.stockCost n 3, e, mem)
  | _ => (0, d, mem)

/-- Fields take values for a while. -/
def Dev.put (d : Dev) (l : List (Fld × Nat)) : Dev := l.foldl (fun d p => d.wr p.1 p.2) d

/-- As `runSlot`, a current program of the tick before on the snapshot and with the settings of its tick (R29, R204). -/
def Dev.runDue (d : Dev) (n slot t : Nat) (mem : Mem) : Nat × Dev × Mem :=
  match slot, (d.ax n).curKeep with
  | 0, some k =>
    let s := (d.ax n).snap
    let now := k.2.2.map (fun p => (p.1, d.rd p.1))
    let (cycles, d, mem) := ((d.put k.2.2).modAx n (fun a => { a with snap := k.1 })).runSlot n 0 t mem
    (cycles, (d.put now).modAx n (fun a => { a with snap := s }), mem)
  | _, _ => d.runSlot n slot t mem

/-- The lane page takes the cycles and the stalls of a run (R370, R390, R391). -/
def Dev.laneStats (d : Dev) (n slot cycles stalls : Nat) : Dev :=
  let l := laneOf n slot
  let cap := fun (x : Nat) => min x 65535
  if l < 6 then
    let d := (d.wr (cluLast l (n % 4)) (cap cycles)).wr (cluMax l (n % 4)) (cap (max cycles (d.rd (cluMax l (n % 4)))))
    let d := (d.wr (cluStallLast l) (cap stalls)).wr (cluStallMax l) (cap (max stalls (d.rd (cluStallMax l))))
    d.incBy (cluStallTotal l) stalls
  else
    let g := l - 6
    let d := (d.wr (glnStallLast g) (cap stalls)).wr (glnStallMax g) (cap (max stalls (d.rd (glnStallMax g))))
    (d.incBy (glnStallTotal g) stalls).modLane l (fun x => { x with busy := x.busy + cycles })

/-- PROGRAM_END (R359): the running program of lane l completes END with a number of stall cycles, or, past its deadline,
is aborted as an overrun. -/
def effProgramEnd (l stalls : Nat) (t : Nat) (mem : Mem) (d : Dev) : Dev × Mem :=
  match (d.lane l).queue, (d.lane l).started with
  | (n, slot) :: _, some t0 =>
    let q := d.deadline n slot
    if q < 4 * t then (((d.abortFlags n slot t0 q t mem).laneOverrun n slot).popLane l t, mem)
    else
      let (cycles, d, mem) := d.runDue n slot t mem
      let d := (d.laneStats n slot (cycles + stalls) stalls).ranSlot n slot
      let d := if slot = 0 then d.curDone n else d
      (((d.popLane l t).dropFaulty l t mem (d.lane l).queue.length), mem)
  | _, _ => (d, mem)

/-- CUR_DEADLINE (R377): the current program of axis n has not completed END. -/
def effCurDeadline (n : Nat) (t : Nat) (mem : Mem) (d : Dev) : Dev :=
  if (d.ax n).curRun == 2 || !d.runsPrograms n || (d.slot n 0).id == 0 then d
  else
    let c := n / 4
    let l := d.lane c
    let d :=
      match l.queue, l.started with
      | (m, _) :: _, some t0 => if m = n then (d.abortFlags n 0 t0 (4 * t) t mem).popLane c t else d
      | _, _ => d
    let d := d.modLane c (fun x => { x with queue := x.queue.filter (fun p => p.1 != n) })
    d.laneOverrun n 0

/-- GLOBAL_LANE_DEADLINE (R378): the program still running is aborted, the others are not started. -/
def effGlobalDeadline (g : Nat) (t : Nat) (mem : Mem) (d : Dev) : Dev :=
  let l := 6 + g
  let q := (d.lane l).queue
  let d := match q, (d.lane l).started with
    | (n, s) :: _, some t0 =>
      (d.abortFlags n s t0 (4 * t) t mem).modLane l (fun x => { x with busy := x.busy + runCycles t0 (4 * t) })
    | _, _ => d
  let d := d.modLane l (fun x => { x with queue := [], started := none })
  q.foldl (fun d p => d.laneOverrun p.1 p.2) d

/-- CLU_CLEAR (R390). -/
def effCluClear (c : Nat) (_t : Nat) (d : Dev) : Dev :=
  (d.each (List.range 4) (fun k d => d.wr (cluMax c k) 0)).wr (cluStallMax c) 0

/-- GLN_CLEAR (R391). -/
def effGlnClear (g : Nat) (_t : Nat) (d : Dev) : Dev := (d.wr (glnBusyMax g) 0).wr (glnStallMax g) 0

/-- At a boundary the busy cycles of the tick that ended are shown (R391). -/
def Dev.tickLanes (d : Dev) : Dev :=
  d.each [0, 1] (fun g d =>
    let b := min (d.lane (6 + g)).busy 65535
    let d := (d.wr (glnBusyLast g) b).wr (glnBusyMax g) (max b (d.rd (glnBusyMax g)))
    d.modLane (6 + g) (fun x => { x with busy := 0 }))

end Sys2Proof.Machine
end

