-- ==== Sys2Proof/Machine/Admission.lean ====
section
/-! DEFINITION. Admission (R174, R371 to R376): the judgement of a lane for a configuration, the phases, and the readback
of the lane pages. A configuration is a state in which the candidate values stand in effect. -/
namespace Sys2Proof.Machine

/-- The admitted cost of an issue cost (R371). -/
def admitted (w : Nat) : Nat := (w * 50 + 46) / 47

/-- The configuration that admission counts: accepted installs stand in their slots (R376). -/
def Dev.counted (d : Dev) : Dev :=
  d.each (List.range 24) (fun n d =>
    match d.install n with
    | some i =>
      if i.judgedAt.isNone then d
      else d.modSlot n i.slot (fun s => { s with id := if i.action = 1 then 0x8000 else if i.action = 2 then i.stock else 0, code := i.code })
    | none => d)

/-- The current program of an axis is counted (R372). -/
def Dev.curCounted (d : Dev) (n : Nat) : Bool := d.st n != stService && (d.slot n 0).id != 0

/-! ### Cluster lanes (R372), in 1.25 ns steps -/

/-- The ready time of axis k of cluster c. -/
def Dev.readyAt (d : Dev) (c k : Nat) : Int := k * d.tc c / 4 + d.wLate (4 * c + k) + 48
/-- The deadline of axis k of cluster c. -/
def Dev.dueAt (d : Dev) (c k : Nat) : Int := k * d.tc c / 4 + (d.tc c / 2 : Nat) - 800
/-- The cost of axis k of cluster c; a lane cycle is two steps. -/
def Dev.costOf (d : Dev) (c k : Nat) : Int := 2 * admitted (d.issueCost (4 * c + k) 0)

/-- Insert an axis into the order of its ready time, the lower k first on a tie. -/
def insertReady (key : Nat → Int) (k : Nat) : List Nat → List Nat
  | [] => [k]
  | x :: xs => if key k < key x then k :: x :: xs else x :: insertReady key k xs

/-- The counted axes of a cluster in the order in which the lane takes them. -/
def Dev.laneOrder (d : Dev) (c : Nat) : List Nat :=
  ((List.range 4).filter (fun k => d.curCounted (4 * c + k))).foldl (fun l k => insertReady (d.readyAt c) k l) []

/-- The finish times of one tick after a lane that is free from `f` on. -/
def finishes (ready cost : Nat → Int) : Int → List Nat → List (Nat × Int)
  | _, [] => []
  | f, k :: ks =>
    let g := max (ready k) f + cost k
    (k, g) :: finishes ready cost g ks

/-- Repeat tick after tick until two consecutive ticks give the same finish times, at most `fuel` times. -/
def settleFinish (ready cost : Nat → Int) (order : List Nat) (tick : Int) : Nat → List (Nat × Int) → List (Nat × Int)
  | 0, l => l
  | fuel + 1, l =>
    let l' := finishes ready cost ((l.getLast?.map Prod.snd).getD 0 - tick) order
    if l' = l then l else settleFinish ready cost order tick fuel l'

/-- The finish times of cluster lane c. -/
def Dev.finishTimes (d : Dev) (c : Nat) : List (Nat × Int) :=
  let ready := d.readyAt c
  let cost := d.costOf c
  let order := d.laneOrder c
  settleFinish ready cost order (4 * d.rd timeTickPeriod) 256 (finishes ready cost (-(4 * d.rd timeTickPeriod : Int)) order)

/-- Half steps as lane cycles, rounded up. -/
def cyclesUp (steps : Int) : Nat := ((steps + 1) / 2).toNat

/-- Why cluster lane c is not admitted: cause and excess in lane cycles (R174, R372, R389). A load above T_tick is named first: its
finish times never settle. -/
def Dev.clusterBar (d : Dev) (c : Nat) : Option (Nat × Nat) :=
  let excess := (d.finishTimes c).foldl (fun m p => max m (p.2 - d.dueAt c p.1)) 0
  let sum := (d.laneOrder c).foldl (fun s k => s + d.costOf c k) 0
  let tick : Int := 4 * d.rd timeTickPeriod
  let need := (List.range 4).foldl (fun (m : Int) k => max m ((d.rd (curWMin (4 * c + k)) : Int) - 2 * d.wLate (4 * c + k))) 0
  if tick < sum then some (2, cyclesUp (sum - tick))
  else if 0 < excess then some (1, cyclesUp excess)
  else if 0 < need then some (3, cyclesUp need)
  else none

/-! ### Global lanes (R373) -/

/-- L_G in lane cycles. -/
def Dev.laneBudget (d : Dev) : Nat := (d.tickNs - 1200) * 2 / 5

/-- The largest power of two that divides a period of at most 256. -/
def pow2Part (p : Nat) : Nat := ([256, 128, 64, 32, 16, 8, 4, 2].find? (fun g => p % g == 0)).getD 1

/-- The programs that load a global lane: cost, g and ψ. -/
def Dev.binPrograms (d : Dev) (g : Nat) : List (Nat × Nat × Int) :=
  (laneAxes (6 + g)).flatMap (fun n =>
    if d.st n == stService then []
    else
      let one := fun (s p : Nat) (psi : Int) => if (d.slot n s).id = 0 then [] else [(admitted (d.issueCost n s), pow2Part p, psi)]
      one 1 (d.nv_ n) (d.rd (motPhase n)) ++ one 2 (d.nv_ n * d.np_ n) ((d.rd (motPhase n) : Int) - 1) ++ one 3 (d.na_ n) (d.rd (prgPhaseA n)))

/-- The load of bin j. -/
def binLoad (progs : List (Nat × Nat × Int)) (j : Nat) : Nat :=
  progs.foldl (fun s p => if ((j : Int) - p.2.2) % (p.2.1 : Int) = 0 then s + p.1 else s) 0

/-- The largest bin load of a global lane. -/
def peakLoad (progs : List (Nat × Nat × Int)) : Nat := (List.range 256).foldl (fun m j => max m (binLoad progs j)) 0

/-- Why global lane g is not admitted (R373, R389). -/
def Dev.globalBar (d : Dev) (g : Nat) : Option (Nat × Nat) :=
  let p := peakLoad (d.binPrograms g)
  if d.laneBudget < p then some (2, p - d.laneBudget) else none

/-- Why lane l is not admitted. -/
def Dev.laneBar (d : Dev) (l : Nat) : Option (Nat × Nat) := if l < 6 then d.counted.clusterBar l else d.counted.globalBar (l - 6)

/-- Admission refuses a change on lane l (R376, R389): record 0x0040 and the event. -/
def Dev.admRefused (d : Dev) (l : Nat) (why : Nat × Nat) (t : Nat) : Dev :=
  let d := d.ev (lanePage l) 0
  d.note t (if l < 6 then 2 else 3) 4 (if l < 6 then l else l - 6) 0x0040 (min why.2 65535 * 2 ^ 16 + why.1 * 2 ^ 8 + l)

/-- The first of a list of lanes that a configuration fails. -/
def Dev.firstBar (trial : Dev) (lanes : List Nat) : Option (Nat × Nat × Nat) :=
  lanes.findSome? (fun l => (trial.laneBar l).map (fun w => (l, w)))

/-! ### Phases (R374) -/

/-- The phase below p that gives the lowest peak bin, the lowest on a tie. -/
def Dev.bestPhase (d : Dev) (g p : Nat) (set : Dev → Nat → Dev) : Nat :=
  ((List.range p).foldl (fun (best : Option (Nat × Nat)) x =>
    let k := peakLoad ((set d x).counted.binPrograms g)
    match best with
    | some (y, m) => if k < m then some (x, k) else some (y, m)
    | none => some (x, k)) none |>.map Prod.fst).getD 0

/-- Assign the phase of the VEL and POS pair of axis n. -/
def Dev.assignPair (d : Dev) (n : Nat) : Dev :=
  d.wr (motPhase n) (d.bestPhase (regionOf (n / 4)) (d.nv_ n * d.np_ n) (fun d x => d.wr (motPhase n) x))

/-- Assign the phase of the AUX program of axis n. -/
def Dev.assignAux (d : Dev) (n : Nat) : Dev :=
  d.wr (prgPhaseA n) (d.bestPhase (regionOf (n / 4)) (d.na_ n) (fun d x => d.wr (prgPhaseA n) x))

/-! ### Evaluation (R375, R390, R391) -/

/-- An input of admission on a set of lanes changes at time t. -/
def Dev.admChange (d : Dev) (lanes : List Nat) (t : Nat) : Dev := { d with admWait := d.admWait ++ lanes.map (fun l => (l, t, none)) }

/-- The lanes of an axis's current program, or of its outer loops. -/
def axisLanes (n : Nat) : List Nat := [n / 4, 6 + regionOf (n / 4)]

/-- An evaluation of lane l is in progress (ADM_BUSY). -/
def Dev.admBusy (d : Dev) (l : Nat) : Bool := d.admWait.any (fun w => w.1 == l && w.2.2.isNone)

/-- A commit that depends on lanes is judged at boundary b only if the shadows that stood at the cut-off were evaluated by
then (R375). -/
def Dev.evaluated (d : Dev) (lanes : List Nat) (b : Nat) : Bool :=
  !d.admWait.any (fun w => lanes.contains w.1 && decide (w.2.1 + 100 ≤ b) &&
    (match w.2.2 with
     | none => true
     | some e => decide (b < e + 100)))

/-- Evaluated changes that no boundary asks about any more. -/
def Dev.admTidy (d : Dev) (b : Nat) : Dev :=
  { d with admWait := d.admWait.filter (fun w => match w.2.2 with | none => true | some e => decide (b < e + 100)) }

/-- The readback of lane l follows the configuration in effect. -/
def Dev.admReadback (d : Dev) (l : Nat) : Dev :=
  if l < 6 then
    let ord := d.laneOrder l
    let fin := d.finishTimes l
    let d := (d.wr (cluLaneCycles l) (2 * d.rd timeTickPeriod)).wr (cluAdmCycles l) ((ord.foldl (fun s k => s + d.costOf l k) 0 / 2).toNat)
    let d := (d.wr (cluCounted l) (maskOf ord)).wrB (cluAdmOk l) (d.clusterBar l).isNone
    d.each (List.range 4) (fun k d =>
      let d := d.wr (cluCost l k) (admitted (d.issueCost (4 * l + k) 0))
      match fin.find? (fun p => p.1 == k) with
      | some p => d.wrSat (cluSlack l k) ((d.dueAt l k - p.2) / 2)
      | none => d.wr (cluSlack l k) 0)
  else
    let g := l - 6
    ((d.wr (glnLaneCycles g) d.laneBudget).wr (glnPeakBin g) (peakLoad (d.binPrograms g))).wrB (glnAdmOk g) (d.globalBar g).isNone

/-- ADMISSION_EVALUATION (R375): the evaluation of lane l completes. -/
def effAdmEval (l : Nat) (t : Nat) (d : Dev) : Dev :=
  let done (w : Nat × Nat × Option Nat) : Nat × Nat × Option Nat :=
    if w.1 = l ∧ w.2.2 = none ∧ w.2.1 ≤ t then (w.1, w.2.1, some t) else w
  let d := { d with admWait := d.admWait.map done }
  d.admReadback l

/-- What admission says about arming an axis: its slots (R383). -/
def Dev.slotsMissing (d : Dev) (n : Nat) : Bool :=
  let empty := fun s => (d.slot n s).id == 0
  empty 0 ||
    (match d.mode n with
     | 0 | 2 => empty 1
     | 3 | 4 => empty 1 || empty 2
     | _ => false)

end Sys2Proof.Machine
end

