-- ==== Sys2Proof/Machine/Install.lean ====
section
/-! DEFINITION. Installing and removing programs, parameter blocks and bank swaps (R380 to R386). -/
namespace Sys2Proof.Machine

/-! Results of PRG_INST_RESULT (R392). -/

/-- applied. -/
abbrev instApplied : Nat := 1
/-- STATE. -/
abbrev instState : Nat := 2
/-- BUSY. -/
abbrev instBusy : Nat := 3
/-- ADMISSION. -/
abbrev instAdmission : Nat := 9
/-- ENCODING. -/
abbrev instEncoding : Nat := 14
/-- MEMORY. -/
abbrev instMemory : Nat := 15
/-- OWNER. -/
abbrev instOwner : Nat := 16
/-- SLOT. -/
abbrev instSlot : Nat := 17

/-- The loop of a slot is open (R380). -/
def Dev.loopOpen (d : Dev) (n : Nat) : Bool := let s := d.st n; s == stOff || s == stArmed || s == stFault || s == stService

/-- A slot may be changed now (R380). -/
def Dev.slotOpen (d : Dev) (n slot : Nat) : Bool := slot == 3 || d.loopOpen n

/-- An install or removal is refused. -/
def Dev.instRefuse (d : Dev) (n code : Nat) : Dev := (d.wr (prgInstResult n) code).ev (.prg n) 1

/-- The range [a, a + 4 len) lies in one bank that master m owns, with power (R381). -/
def Dev.sourceOk (d : Dev) (m a len : Nat) : Bool :=
  let b := bankOf a
  decide (a + 4 * len ≤ memSize) && decide (bankOf (a + 4 * len - 1) = b) && d.owner b == m && d.rd (bnkPstate b) == 0

/-- Take up a request on axis n (R380, R381). -/
def Dev.request (d : Dev) (n : Nat) (i : Install) : Dev :=
  if (d.install n).isSome then d.instRefuse n instBusy
  else if !d.slotOpen n i.slot then d.instRefuse n instState
  else if i.action = 2 ∧ (i.slot = 3 ∨ i.stock ≠ i.slot + 1) then d.instRefuse n instSlot
  else if i.action = 1 ∧ !d.sourceOk i.master (4 * d.rd (prgInstSrc n)) (d.rd (prgInstLen n)) then d.instRefuse n instOwner
  else (d.wr (prgInstResult n) 0).setInstall n (some i)

/-- INSTALL_CUSTOM (R380, R381). -/
def effInstallCustom (r : Req) (n slot : Nat) (keep : Bool) (_t : Nat) (d : Dev) : Dev :=
  d.request n { slot := slot, action := 1, keep := keep, stock := 0, code := [], base := 0, src := r.src, master := r.master, judgedAt := none }

/-- INSTALL_STOCK (R380). -/
def effInstallStock (r : Req) (n slot stock : Nat) (_t : Nat) (d : Dev) : Dev :=
  d.request n { slot := slot, action := 2, keep := false, stock := stock, code := [], base := 0, src := r.src, master := r.master, judgedAt := none }

/-- REMOVE (R380). -/
def effRemove (r : Req) (n slot : Nat) (_t : Nat) (d : Dev) : Dev :=
  d.request n { slot := slot, action := 3, keep := false, stock := 0, code := [], base := 0, src := r.src, master := r.master, judgedAt := none }

/-- The ranges of program memory of lane l in use: installed programs and those loaded beside them (R381). -/
def Dev.usedRanges (d : Dev) (l : Nat) : List (Nat × Nat) :=
  (laneAxes l).flatMap (fun n =>
    ((List.range 4).filter (fun s => laneOf n s == l)).filterMap (fun s =>
      let (lo, hi) := d.slotRange n s
      if lo < hi then some (lo, hi) else none) ++
    (match d.install n with
     | some i => if i.judgedAt.isSome && i.action == 1 && laneOf n i.slot == l then [(i.base, i.base + i.code.length)] else []
     | none => []))

/-- The lowest free range of a length, among 8,192 words. -/
def freeRange (used : List (Nat × Nat)) (len : Nat) : Option Nat :=
  let ok := fun (p : Nat) => decide (p + len ≤ 8192) && used.all (fun r => decide (p + len ≤ r.1) || decide (r.2 ≤ p))
  ((0 :: used.map Prod.snd).filter ok).foldl (fun (m : Option Nat) p => match m with
    | none => some p
    | some q => some (min p q)) none

/-- Read a program under the ownership of a master: the words, or the index of the first that cannot be read. -/
def Dev.loadCode (d : Dev) (mem : Mem) (m t : Nat) : Nat → Nat → List Nat → (List Nat × Option Nat) × Dev
  | _, 0, acc => ((acc.reverse, none), d)
  | a, k + 1, acc =>
    match d.bulkRead mem m a t with
    | (some w, d) => Dev.loadCode d mem m t (a + 4) k (w :: acc)
    | (none, d) => ((acc.reverse, some acc.length), d)

/-- A slot with the program that a request puts into it (R382): parameter words and banks are zeroed unless KEEP. -/
def newSlot (s : Slot) (i : Install) : Slot :=
  match i.action with
  | 1 => if i.keep then { s with id := 0x8000, code := i.code, base := i.base }
         else { id := 0x8000, code := i.code, base := i.base, gp := s.gp }
  | 2 => { id := i.stock, gp := s.gp }
  | _ => { id := 0, gp := s.gp }

/-- A pair or an AUX program that was not counted gets its phase (R374). -/
def Dev.firstCounted (d old : Dev) (n slot : Nat) : Dev :=
  let had := fun (s : Nat) => (old.slot n s).id != 0
  let has := fun (s : Nat) => (d.slot n s).id != 0
  if slot = 3 then (if has 3 && !had 3 then d.assignAux n else d)
  else if slot = 1 ∨ slot = 2 then (if (has 1 || has 2) && !(had 1 || had 2) then d.assignPair n else d)
  else d

/-- End a request that is refused after it was taken up. -/
def Dev.dropInstall (d : Dev) (n code : Nat) : Dev := (d.instRefuse n code).setInstall n none

/-- Admission judges a request whose code is loaded (R376, R381). An accepted program is counted from here on, at the phase under which
it was judged (R374). -/
def Dev.judgeInstall (d : Dev) (n : Nat) (i : Install) (t : Nat) : Dev :=
  let trial := (d.modSlot n i.slot (fun s => newSlot s i)).firstCounted d n i.slot
  match trial.firstBar [laneOf n i.slot] with
  | some (l, why) => (d.admRefused l why t).dropInstall n instAdmission
  | none =>
    let d := (d.wr (motPhase n) (trial.rd (motPhase n))).wr (prgPhaseA n) (trial.rd (prgPhaseA n))
    d.setInstall n (some { i with judgedAt := some t })

/-- INSTALL_JUDGED (R381): the loader has read and validated the code, and admission judges it. -/
def effInstallJudged (n : Nat) (t : Nat) (mem : Mem) (d : Dev) : Dev :=
  match d.install n with
  | none => d
  | some i =>
    if i.judgedAt.isSome then d
    else if i.action ≠ 1 then d.judgeInstall n i t
    else
      let a := 4 * d.rd (prgInstSrc n)
      let len := d.rd (prgInstLen n)
      if !d.sourceOk i.master a len then d.dropInstall n instOwner
      else
        match freeRange (d.usedRanges (laneOf n i.slot)) len with
        | none => d.dropInstall n instMemory
        | some base =>
          let ((code, unread), d) := d.loadCode mem i.master t a len []
          let bad := match unread with
            | some k => some k
            | none => if len < 2 then some 0 else olCheck i.slot code
          match bad with
          | some k => (d.dropInstall n instEncoding).wr (prgInstWord n) k
          | none => d.judgeInstall n { i with code := code, base := base } t

/-- The programs of lane l that hold an uncorrectable word are forgotten with the program that leaves a slot (R387). -/
def Dev.forgetFaulty (d : Dev) (n slot : Nat) : Dev :=
  let (lo, hi) := d.slotRange n slot
  d.modLane (laneOf n slot) (fun x => { x with faulty := x.faulty.filter (· != (n, slot)), bad := x.bad.filter (fun e => !(decide (lo ≤ e.1) && decide (e.1 < hi))) })

/-- k words that the spec gives no value: free values (log entry 1). -/
def Dev.freeWords (d : Dev) (k : Nat) : Tab Nat Nat × Dev :=
  (List.range k).foldl (fun x w => let (v, d) := x.2.free; (x.1 ++ [(w, v % 2 ^ 32)], d)) ([], d)

/-- With KEEP a custom program takes over the parameter block of the program before it (R382); the layout of a stock
program's block is not given. -/
def Dev.keepBlock (d : Dev) (n : Nat) (i : Install) : Dev :=
  let id := (d.slot n i.slot).id
  if i.action = 1 ∧ i.keep ∧ id ≠ 0 ∧ id ≠ 0x8000 then
    let (p, d) := d.freeWords 256
    let (a, d) := d.freeWords 128
    let (b, d) := d.freeWords 128
    d.modSlot n i.slot (fun s => { s with params := p, bankA := a, bankB := b })
  else d

/-- DEV_COMMIT_HOLD does not hold what takes effect at boundary b (R69): it was 0 at the cut-off and after it. -/
def Dev.unheld (d : Dev) (b : Nat) : Bool := !d.on devCommitHold && decide (d.holdEnd + 100 ≤ b)

/-- An accepted request takes effect at boundary b, unless DEV_COMMIT_HOLD holds it (R69, R382). -/
def Dev.applyInstall (d : Dev) (n b : Nat) : Dev :=
  match d.install n with
  | none => d
  | some i =>
    match i.judgedAt with
    | none => d
    | some t =>
      if b < t + 100 ∨ !d.unheld b then d
      else if !d.slotOpen n i.slot then d.dropInstall n instState
      else
        let d := (d.forgetFaulty n i.slot).keepBlock n i
        let d := d.modSlot n i.slot (fun s => newSlot s i)
        let d := d.setInstall n none
        let pending := d.commits.any (fun q => q.page == .prg n && bitAt q.swap i.slot)
        let drop (q : CommitReq) : Option CommitReq :=
          if q.page = .prg n ∧ q.swap ≠ 0 then
            (if clearBit q.swap i.slot = 0 then none else some { q with swap := clearBit q.swap i.slot })
          else some q
        let d : Dev := { d with commits := d.commits.filterMap drop }
        let d := d.when_ pending (fun d => d.ev (.prg n) 5)
        let d := d.when_ (i.slot == 0) (fun d => d.wrB (focStock n) ((d.slot n 0).id == 1))
        let d := ((d.wr (prgInstResult n) instApplied).ev (.prg n) 0).admChange [laneOf n i.slot] b
        d.note b 1 i.src n 0x0020 ((d.slot n i.slot).id * 2 ^ 16 + i.action * 4 + i.slot)

/-! ### Parameter blocks (R384, R385) -/

/-- A word of the window of axis n (R384): committed values; for a stock program the spec gives no layout, a free value
(log entry 1). -/
def Dev.windowWord (d : Dev) (n w : Nat) : Nat × Dev :=
  let s := d.slot n (d.rd (prgWinSlot n))
  let r := d.rd (prgRegion n)
  if r = 3 ∨ (r ≠ 0 ∧ 128 ≤ w) ∨ s.id = 0 then (0, d)
  else if s.id ≠ 0x8000 then
    let (v, d) := d.free
    (v % 2 ^ 32, d)
  else ((tabGet (if r = 0 then s.params else if r = 1 then s.bankA else s.bankB) w).getD 0, d)

/-- PB_WRITE (R385): word w of the region that PRG_WIN selects. -/
def effPbWrite (r : Req) (n w v : Nat) (t : Nat) (d : Dev) : Dev :=
  let slot := d.rd (prgWinSlot n)
  let s := d.slot n slot
  let reg := d.rd (prgRegion n)
  if reg = 3 ∨ (reg ≠ 0 ∧ 128 ≤ w) ∨ s.id = 0 then d
  else
    let inactive := (reg == 1 && s.active) || (reg == 2 && !s.active)
    if s.id ≠ 0x8000 ∨ !(inactive || d.loopOpen n) then
      (d.ev (.prg n) 3).note t 1 r.src n 0x0030 (w % 256 * 2 ^ 8 + reg * 2 ^ 4 + slot)
    else d.modSlot n slot (fun s =>
      match reg with
      | 0 => { s with params := tabSet s.params w (v % 2 ^ 32) }
      | 1 => { s with bankA := tabSet s.bankA w (v % 2 ^ 32) }
      | _ => { s with bankB := tabSet s.bankB w (v % 2 ^ 32) })

/-- PRG_SWAP (R386): a swap of the custom programs named waits for its boundary; others are refused. -/
def effPrgSwap (r : Req) (n mask : Nat) (t : Nat) (d : Dev) : Dev :=
  let ok := (bitList 4 mask).filter (fun s => (d.slot n s).id == 0x8000)
  let d := d.when_ ((bitList 4 mask).any (fun s => (d.slot n s).id != 0x8000)) (fun d => d.ev (.prg n) 5)
  if ok.isEmpty then d
  else { d with commits := d.commits ++ [{ page := .prg n, at_ := t, src := r.src, inst := r.inst, stn := r.stn, swap := maskOf ok }] }

/-- The banks of a slot swap, with the event SWAPPED (R386, R392). -/
def Dev.swapSlot (d : Dev) (n slot : Nat) : Dev := (d.modSlot n slot (fun s => { s with active := !s.active })).evOnly (.prg n) 4

end Sys2Proof.Machine
end

