-- ==== Sys2Proof/Machine/Period.lean ====
section
/-! DEFINITION. Changing the tick period (R32, R33), system time (R44, R47) and the capacity of the head (R466). -/
namespace Sys2Proof.Machine

/-! ### System time -/

/-- TIME_OFFSET as a signed number; a head with no upstream segment has 0 (R44, R45). -/
def Dev.timeOfs (d : Dev) : Int := d.rdS timeTimeOffset

/-- The words of a 64-bit value, low word first. -/
def words64 (v : Nat) : List Nat := [v % 2 ^ 32, v / 2 ^ 32 % 2 ^ 32]

/-- Change the network state. -/
def Dev.modNet (d : Dev) (f : Net → Net) : Dev := { d with net := f d.net }

/-! ### Capacity (R466) -/

/-- Bytes of the data area that the slices of a set of stations need. -/
def Dev.dataLen (d : Dev) (stns : List Nat) : Nat :=
  stns.foldl (fun m s => max m (max (d.rd (netSliceOutOff s) + d.rd (netSliceOutLen s)) (d.rd (netSliceInOff s) + d.rd (netSliceInLen s)))) 0

/-- T_round in fortieths of a ns: 3.2 ns per symbol of the frame, and Δ_0 in units of 0.125 ns. -/
def roundTime (dataLen nsta delta0 : Nat) : Nat := 128 * (48 + dataLen + 4 * nsta + 4 + 4) + 5 * delta0

/-- Ticks per cycle of an NCYC code. -/
def ncycTicks (code : Nat) : Nat := 2 ^ code

/-- The remaining time of a cycle, in fortieths of a ns (R466). -/
def capacityOf (period sendOfs dres ncyc dataLen nsta delta0 : Nat) : Int :=
  (ncycTicks ncyc * period * 200 : Nat) - ((sendOfs * 200 + roundTime dataLen nsta delta0 + dres * 40000 : Nat) : Int)

/-- The stations of the segment and the joins granted. -/
def Dev.stns (d : Dev) : List Nat := d.net.members.map (·.stn) ++ d.net.joins.map (·.stn)

/-- NSTA of a set of stations: the highest STN in use (R459). -/
def nstaOf (stns : List Nat) : Nat := stns.foldl max 0

/-- Δ_0 with 80 ns of forwarding and 150 ns of cable for each of k stations that join. -/
def Dev.deltaJoins (d : Dev) (k : Nat) : Nat := d.net.delta0 + 8 * 230 * k

/-- The head's capacity with a tick period, as the segment stands. -/
def Dev.capacityAt (d : Dev) (period : Nat) : Int :=
  capacityOf period (d.rd netSendOfs) (d.rd netDres) (d.rd netNcyc) (d.dataLen d.stns) (nstaOf d.stns) (d.deltaJoins d.net.joins.length)

/-- A change is refused with CAPACITY (R466). -/
def Dev.noCapacity (d : Dev) : Dev := (d.wr netResult 21).ev .net 7

/-! ### The tick period (R32 to R34) -/

/-- The largest carrier count per tick set in any cluster. -/
def Dev.maxCarriers (d : Dev) : Nat := (List.range 6).foldl (fun m c => max m (d.carriers c)) 1

/-- The first condition of R32 that a period fails: 1 range, 2 granularity, 3 carrier limit, 4 admission, 5 not announced;
0 when all hold. -/
def Dev.periodBar (d : Dev) (p : Nat) (announced : Bool) : Nat :=
  let trial := d.wr timeTickPeriod p
  if p < 2000 ∨ 25000 < p then 1
  else if p % d.maxCarriers ≠ 0 then 2
  else if (List.range 6).any (fun c => decide (trial.tc c < if c < 4 then 8000 else 4000)) then 3
  else if (trial.firstBar (List.range 8)).isSome then 4
  else if d.on timeSegTick && !announced then 5
  else 0

/-- A new tick period takes effect at boundary b (R33, R47, R52): the carriers of every cluster restart with the boundary's
commits applied. -/
def Dev.takePeriod (d : Dev) (p b : Nat) : Dev :=
  let d := { (d.wr timeTickPeriod p).ev .time 0 with restart := 63 }
  let d := d.each (List.range 8) (fun l d => d.admReadback l)
  d.wrS timeTickOrigin (d.sysTime b)

/-- A tick period is refused at boundary b (R32): the record states it and the first failing condition. -/
def Dev.refusePeriod (d : Dev) (p why src b : Nat) : Dev :=
  (d.ev .time 4).sticky .time 0 |>.note b 5 src 0 0x0180 (why * 2 ^ 16 + p % 2 ^ 15)

end Sys2Proof.Machine
end

