-- ==== Sys2Proof/Machine/Access.lean ====
section
/-! DEFINITION. The expert areas of the pages (R63 to R65, R70) and the recording of refused accesses (R58, R71). -/
namespace Sys2Proof.Machine

/-- The expert area of a page is open for a requester (R63, R64). -/
def Dev.expertOpen (d : Dev) (r : Req) (p : Page) : Bool := d.expert.any (fun x => x.1.same r && decide (x.2.1 = p))

/-- The record of an opening (kind 3) or a closing (kind 4) of an expert area. -/
def Dev.expertNote (d : Dev) (r : Req) (p : Page) (kind t : Nat) : Dev :=
  d.pageNote t r (pageLevel p) (pageIndex p) (if kind = 1 then 0 else 0x01C) kind

/-- The expert areas that satisfy q close, each with its record (R65). -/
def Dev.closeExpert (d : Dev) (q : Req → Page → Bool) (t : Nat) : Dev :=
  let gone := d.expert.filter (fun x => q x.1 x.2.1)
  gone.foldl (fun d x => d.expertNote x.1 x.2.1 4 t) { d with expert := d.expert.filter (fun x => !q x.1 x.2.1) }

/-- PAGE_EXPERT_KEY (R65): 0xE5 opens the area for the writing requester, any other value closes it. -/
def Dev.writeKey (d : Dev) (r : Req) (p : Page) (key t : Nat) : Dev :=
  if key = 0xE5 then
    if d.expertOpen r p then d else
    ({ d with expert := d.expert ++ [(r, p, d.rd timeTickCount)] } : Dev).expertNote r p 3 t
  else d.closeExpert (fun r' p' => r'.same r && decide (p' = p)) t

/-- EXPERT_AREA_TIMEOUT (R65): 65,536 ticks without an expert write close the area. -/
def effExpertTimeout (r : Req) (p : Page) (t : Nat) (d : Dev) : Dev :=
  let late := d.expert.any (fun x => x.1.same r && decide (x.2.1 = p) && decide (x.2.2 + 65536 ≤ d.rd timeTickCount))
  if late then d.closeExpert (fun r' p' => r'.same r && decide (p' = p)) t else d

/-- An expert-area write of a requester is applied: the record of kind 1, and its 65,536 ticks start again (R65, R70). -/
def Dev.expertWritten (d : Dev) (r : Req) (p : Page) (off t : Nat) : Dev :=
  let now := d.rd timeTickCount
  let touch (x : Req × Page × Nat) : Req × Page × Nat := if x.1.same r && decide (x.2.1 = p) then (x.1, x.2.1, now) else x
  let d := { d with expert := d.expert.map touch }
  d.pageNote t r (pageLevel p) (pageIndex p) off 1

/-- A page access is refused (R58, R70, R71): DEV_ACCESS_ERR, the event, and at most one record per requester, page and
tick. -/
def Dev.accessRefused (d : Dev) (r : Req) (page off result : Nat) (write : Bool) (t : Nat) : Dev :=
  let d := ((((d.wr devErrPage page).wr devErrOffset off).wr devErrResult result).wrB devErrWrite write).wr devErrSource r.src
  let d := d.ev .dev 3
  if d.refused5.any (fun x => x.1.same r && x.2 == page) then d
  else
    let level := if result = 1 then 5 else match pageAt page with | some p => pageLevel p | none => 5
    ({ d with refused5 := d.refused5 ++ [(r, page)] } : Dev).pageNote t r level page off 5

end Sys2Proof.Machine
end

