-- ==== Sys2Proof/Machine/Frame.lean ====
section
/-! DEFINITION. Frames of Llyntal on the wire: code groups and ordered sets (R444, R446), the frame check sequence and what it
says of a frame (R450, R451), and the words and symbols of a dispatch, an acknowledge and a pennant (R452, R454). -/
namespace Sys2Proof.Machine

/-! ### Symbols (R444, R446) -/

/-- A symbol of the 8b/10b code: a data byte Dx.y or a control code Kx.y, the byte being y·32 + x (R444). -/
structure Symbol where
  /-- A control code. -/
  control : Bool
  /-- Its byte. -/
  byte : Nat
deriving DecidableEq, Repr

/-- Kx.y. -/
def symK (x y : Nat) : Symbol := ⟨true, y * 32 + x⟩
/-- Dx.y. -/
def symD (x y : Nat) : Symbol := ⟨false, y * 32 + x⟩

/-- The ordered sets of R446. -/
inductive OrderedSet
  | idle | standby | sop | sod | eof
deriving DecidableEq, Repr

/-- The two symbols of an ordered set (R446). -/
def OrderedSet.symbols : OrderedSet → List Symbol
  | .idle => [symK 28 5, symD 16 2]
  | .standby => [symK 28 5, symD 21 5]
  | .sop => [symK 27 7, symD 21 5]
  | .sod => [symK 27 7, symD 10 2]
  | .eof => [symK 29 7, symD 21 5]

/-- The bytes of a word, least significant first (R450). -/
def octets (w : Nat) : List Nat := [w % 256, w / 256 % 256, w / 65536 % 256, w / 16777216 % 256]

/-! ### The frame check sequence (R450, R451) -/

/-- One byte of the CRC of R450, least significant bit first. -/
def fcsByte (c v : Nat) : Nat := (List.range 8).foldl (fun c i => crcBit c (bitAt v i)) c

/-- c of R450 over the words between the start set and the FCS. -/
def fcsCrc (ws : List Nat) : Nat := (ws.flatMap octets).foldl fcsByte 0xFFFFFFFF

/-- The FCS of a frame as a device sends it: a good one, or a marked one (R450, R451). -/
def fcsOf (ws : List Nat) (marked : Bool) : Nat := if marked then fcsCrc ws else fcsCrc ws ^^^ 0xFFFFFFFF

/-- What the FCS says of a frame: 0 good, 1 marked, 2 damaged (R450). -/
def fcsClass (ws : List Nat) (fcs : Nat) : Nat := if fcs = fcsOf ws false then 0 else if fcs = fcsOf ws true then 1 else 2

/-- The outbound pass of a pennant: 0 good, 1 marked, 2 damaged. -/
def PennantIn.q (p : PennantIn) : Nat := fcsClass p.frame p.fcs
/-- Its return pass. -/
def PennantIn.qBack (p : PennantIn) : Nat := fcsClass p.back p.fcsBack

/-! ### Dispatch and acknowledge (R454) -/

/-- The words of a dispatch (KIND 3) or an acknowledge (KIND 4) with a header, a channel, a result and its payload (R454). -/
def DispHdr.frame (h : DispHdr) (ack : Bool) (chan result : Nat) (words : List Nat) : List Nat :=
  [(if ack then 4 else 3) * 2 ^ 24 + chan % 256 * 2 ^ 16 + h.seq % 65536,
   (if h.unaddr then 2 ^ 31 else 0) + (if h.sync then 2 ^ 30 else 0) + h.ttl % 256 * 2 ^ 18 + h.dst % 2 ^ 18,
   h.src % 2 ^ 18, result % 256 * 2 ^ 24 + h.len % 512] ++ words

/-- What its FCS says of it: 0 good, 1 marked, 2 damaged. -/
def DispHdr.q (h : DispHdr) (ack : Bool) (chan result : Nat) (words : List Nat) : Nat := fcsClass (h.frame ack chan result words) h.fcs

/-- The name under which a source has its contexts. -/
def DispHdr.key (h : DispHdr) : Nat := h.src % 2 ^ 18 + if h.unaddr then 2 ^ 18 else 0

/-- The frame is a broadcast. -/
def DispHdr.bcast (h : DispHdr) : Bool := h.dst % 256 == 255

/-- The requester of a dispatch (R475). -/
def DispHdr.req (h : DispHdr) : Req := .net h.link.val h.key

/-! ### A frame that the device sends -/

/-- The words between its start set and its FCS: of a pennant as they stand, of a dispatch its header and payload. -/
def TxFrame.frame (f : TxFrame) : List Nat :=
  if f.kind < 3 then f.words
  else ({ link := 0, src := f.src, dst := f.dst, seq := f.seq, sync := f.sync, unaddr := f.unaddr, ttl := f.ttl,
          len := 4 * f.words.length - f.pad } : DispHdr).frame (f.kind == 4) f.chan f.result f.words

/-- Its FCS: that with which it arrived, of one that is forwarded as it is; else recomputed (R451). -/
def TxFrame.sentFcs (f : TxFrame) : Nat := f.fcs.getD (fcsOf f.frame f.marked)

/-- Its symbols, from the start set to EOF (R446, R450, R452, R454). -/
def TxFrame.symbols (f : TxFrame) : List Symbol :=
  (if f.kind < 3 then OrderedSet.sop else OrderedSet.sod).symbols
    ++ (f.frame.flatMap octets ++ octets f.sentFcs).map (fun b => ⟨false, b⟩) ++ OrderedSet.eof.symbols

end Sys2Proof.Machine
end

