-- ==== Sys2Proof/Machine/NetCore.lean ====
section
/-! DEFINITION. The Llyntal station and head: roles, addresses, transmission, contexts, the state of the station, links
(R444 to R449), the time state machine (R45, R463), notices, departures, and the commands of NET_CMD. -/
namespace Sys2Proof.Machine

/-! ### Roles and addresses (R447, R448) -/

/-- A bridge: ROLE 2. -/
def Dev.isBridge (d : Dev) : Bool := d.rd netCfgRole == 2

/-- The pair whose segment the device heads. -/
def Dev.headPair (d : Dev) : Nat := if d.isBridge || d.on netCfgPair then 1 else 0

/-- The pair on which the device is a station. -/
def Dev.stationPair (d : Dev) : Nat := if !d.isBridge && d.on netCfgPair then 1 else 0

/-- Link m belongs to the segment that the device heads. -/
def Dev.headLink (d : Dev) (m : Nat) : Bool := d.on netHeadSide && m / 2 == d.headPair

/-- The other link of the pair. -/
def mate (m : Nat) : Nat := if m % 2 = 0 then m + 1 else m - 1

/-- Link m is UP. -/
def Dev.linkUp (d : Dev) (m : Nat) : Bool := d.rd (lnkState m) == 2

/-- The station's link towards the head: that of role upstream. -/
def Dev.upLink (d : Dev) : Option Nat := (List.range 4).find? (fun m => d.rd (lnkRole m) == 1)

/-- The station turns frames that arrive on link m around: its other link is not UP, or is the closing link (R449), or
the turnaround of a break goes on (R477, R478). -/
def Dev.turns (d : Dev) (m : Nat) : Bool := !d.linkUp (mate m) || d.on (lnkStandbyRx (mate m)) || d.on (lnkTurn m)

/-- The address (SEG, STN). -/
def netAddress (seg stn : Nat) : Nat := seg % 1024 * 256 + stn % 256

/-- STN of an address. -/
def stnOf (a : Nat) : Nat := a % 256

/-- SEG of an address. -/
def segOf (a : Nat) : Nat := a / 256 % 1024

/-- The device's own address on the side of link m: the head's STN is 0. -/
def Dev.ownAddress (d : Dev) (m : Nat) : Nat := if d.headLink m then netAddress (d.rd netSeg) 0 else d.rd netAddr

/-- A frame that arrived on link m is addressed to the device, or broadcast (R454, R467). -/
def Dev.addressed (d : Dev) (m dst : Nat) : Bool :=
  let seg := if d.headLink m then d.rd netSeg else if d.on netAddrValid then segOf (d.rd netAddr) else d.net.seg
  dst == netAddress 1023 255 || dst == netAddress seg 255 ||
    (if d.headLink m then dst == netAddress seg 0 else d.on netAddrValid && dst == d.rd netAddr)

/-- The device executes dispatches that arrive on link m: a head, or a station in ACTIVE (R448). -/
def Dev.executes (d : Dev) (m : Nat) : Bool := d.headLink m || d.rd netState == 4

/-! ### Transmission (R467) -/

/-- Transmit a frame; dispatches are counted (R483). A link that is not enabled transmits nothing (R445). -/
def Dev.transmit (d : Dev) (f : TxFrame) : Dev :=
  if !d.on (lnkEn f.link) then d
  else
    let d := d.modNet (fun n => { n with tx := n.tx ++ [f] })
    d.when_ (f.kind == 3) (fun d => d.inw (lnkDispTx f.link))

/-- The ordered set that link m transmits between frames: STANDBY on the closing link of a ring (R445, R446, R449). -/
def Dev.between (d : Dev) (m : Nat) : Option OrderedSet :=
  if !d.on (lnkEn m) then none else if d.rd (lnkRole m) = 5 then some .standby else some .idle

/-- Line Y of a fold carries the stations beyond the last one of line X, by their positions in the ring (R477, R481). -/
def Dev.onLineY (d : Dev) (stn : Nat) : Bool := d.on netFolded && d.net.members.any (fun x => x.stn == stn && decide (d.net.foldPos < x.pos))

/-- The link of a line of the head (Y only in a fold). -/
def Dev.lineLink (d : Dev) (y : Bool) : Option Nat :=
  (List.range 2).map (fun i => 2 * d.headPair + i) |>.find? (fun m => d.rd (lnkRole m) == if y then 4 else 3)

/-- The link on which the device originates frames for a side: the head its line link, a station its outbound link, the
turnaround station its return link (R467). -/
def Dev.originLink (d : Dev) (head : Bool) : Nat :=
  if head then (d.lineLink false).getD (2 * d.headPair)
  else
    let u := d.upLink.getD (2 * d.stationPair)
    if d.turns u then u else mate u

/-- The links on which the device sends a frame to a destination: in a fold the head chooses the line of the station, and
sends a broadcast on both lines (R467, R477). -/
def Dev.linksTo (d : Dev) (head : Bool) (dst : Nat) : List Nat :=
  let x := d.originLink head
  if !head then [x]
  else
    match d.lineLink true with
    | none => [x]
    | some y => if stnOf dst = 255 ∨ segOf dst ≠ d.rd netSeg then [x, y] else if d.onLineY (stnOf dst) then [y] else [x]

/-- A command of the network begins: frames are listed afresh. -/
def Dev.netBegin (d : Dev) : Dev := d.modNet (fun n => { n with tx := [] })

/-- Send a dispatch to a destination on a channel at once (R472, R473): SEQ + 1, and SYNC where R472 asks for it. The SEQ of a
first dispatch is a free value. -/
def Dev.sendNow (d : Dev) (head unaddr : Bool) (dst chan : Nat) (words : List Nat) (t : Nat) : Dev :=
  let links := d.linksTo head dst
  let link := links.headD 0
  let (seq, sync, d) :=
    match d.net.seqs.find? (fun s => s.dst == dst && s.chan == chan) with
    | some s => ((s.last + 1) % 65536, s.sync, d)
    | none =>
      let (v, d) := d.free
      (v % 65536, true, d)
  let src := if unaddr then netAddress (if head then d.rd netSeg else d.net.seg) (d.rd netPos) else d.ownAddress link
  let d := d.modNet (fun n =>
    { n with seqs := n.seqs.filter (fun s => !(s.dst == dst && s.chan == chan)) ++ [{ dst := dst, chan := chan, last := seq, sync := false }],
             out := n.out.filter (fun o => !(o.dst == dst && o.chan == chan)) ++
               [{ dst := dst, chan := chan, seq := seq, sync := sync, src := src, unaddr := unaddr, words := words, link := link, tries := 0, at_ := t }] })
  d.each links (fun m d =>
    d.transmit { link := m, kind := 3, chan := chan, seq := seq, sync := sync, dst := dst, src := src, unaddr := unaddr, words := words })

/-- A dispatch to that destination on that channel is outstanding (R472). -/
def Dev.awaiting (d : Dev) (dst chan : Nat) : Bool := d.net.out.any (fun o => o.dst == dst && o.chan == chan)

/-- Send a dispatch (R472): it waits while one to its destination on its channel is outstanding. -/
def Dev.sendDispatch (d : Dev) (head unaddr : Bool) (dst chan : Nat) (words : List Nat) (t : Nat) : Dev :=
  if d.awaiting dst chan then
    d.modNet (fun n => { n with waiting := n.waiting ++ [{ head := head, unaddr := unaddr, dst := dst, chan := chan, words := words }] })
  else d.sendNow head unaddr dst chan words t

/-- The first of a list that q holds of, and the list without it. -/
def takeFirst {α : Type} (q : α → Bool) : List α → Option (α × List α)
  | [] => none
  | x :: xs => if q x then some (x, xs) else (takeFirst q xs).map (fun y => (y.1, x :: y.2))

/-- The dispatch to a destination on a channel has ended: the next one that waits is sent (R472). -/
def Dev.sendNext (d : Dev) (dst chan t : Nat) : Dev :=
  if d.awaiting dst chan then d
  else
    match takeFirst (fun w => w.dst == dst && w.chan == chan) d.net.waiting with
    | some (w, l) => (d.modNet (fun n => { n with waiting := l })).sendNow w.head w.unaddr w.dst w.chan w.words t
    | none => d

/-- Send an acknowledge: CHAN and SEQ of its dispatch, the two addresses swapped (R454). -/
def Dev.sendAck (d : Dev) (link src chan seq : Nat) (a : Answer) : Dev :=
  let d := { d with answer := some a }
  d.transmit { link := link, kind := 4, chan := chan, seq := seq, dst := src % 2 ^ 18, src := d.ownAddress link, unaddr := decide (2 ^ 18 ≤ src),
               result := a.result, words := a.data }

/-- The payload of a JOIN (R479): DEV_SERIAL and the STN requested. -/
def joinWords (serial stn : Nat) : List Nat := words64 serial ++ [stn]

/-- The two words of a slice entry (R460). -/
def Slice.words (x : Slice) : List Nat := [x.outOff * 2 ^ 16 + x.outLen, x.inOff * 2 ^ 16 + x.inLen]

/-- The payload of a GRANT (R479): the serial number, the STN, the slice entry and the first cycle; STN 0 stands for CAPACITY
(log entry 160). -/
def grantWords (serial stn : Nat) (sl : Slice) (cg : Nat) : List Nat := words64 serial ++ [stn] ++ sl.words ++ [cg]

/-- The payload of a SLICE (R460): the entry and the cycle from which it is used. -/
def sliceWords (sl : Slice) (cycle : Nat) : List Nat := sl.words ++ [cycle]

/-- The payload of a NOTICE (R480): the address, and joined or left. -/
def noticeWords (addr : Nat) (joined : Bool) : List Nat := [addr, if joined then 1 else 0]

/-! ### Contexts (R471) -/

/-- Contexts in use (NET_CTX.CTX_USED). -/
def Dev.ctxUsed (d : Dev) : Nat := d.net.ctxs.length

/-- The context of a source and a channel. -/
def Dev.ctx (d : Dev) (src chan : Nat) : Option NetCtx := d.net.ctxs.find? (fun c => c.src == src && c.chan == chan)

/-- Set the context of a source and a channel. -/
def Dev.setCtx (d : Dev) (c : NetCtx) : Dev :=
  d.modNet (fun n =>
    if n.ctxs.any (fun x => x.src == c.src && x.chan == c.chan) then
      { n with ctxs := n.ctxs.map (fun x => if x.src = c.src ∧ x.chan = c.chan then c else x) }
    else { n with ctxs := n.ctxs ++ [c] })

/-- The answer of an executed dispatch is known: it becomes the stored acknowledge and is sent (R471). -/
def Dev.giveAnswer (d : Dev) (link src chan seq : Nat) (a : Answer) : Dev :=
  let d :=
    match d.ctx src chan with
    | some c => if c.seq = seq then d.setCtx { c with ack := some a } else d
    | none => d
  d.sendAck link src chan seq a

/-- Contexts are freed CTX_HOLD ms after their last use (R471). -/
def Dev.dropExpired (d : Dev) (t : Nat) : Dev :=
  d.modNet (fun n => { n with ctxs := n.ctxs.filter (fun c => decide (t < c.used + d.rd netCtxHold * 1000000)) })

/-- CONTEXT_EXPIRY (R471): CTX_HOLD ms after its last use a context is freed. -/
def effContextExpiry (src chan : Nat) (t : Nat) (d : Dev) : Dev :=
  d.modNet (fun n => { n with ctxs := n.ctxs.filter (fun c => !(c.src == src && c.chan == chan && decide (c.used + d.rd netCtxHold * 1000000 ≤ t))) })

/-- A NOTICE names an address: its contexts are freed, its expert areas close, and the next dispatch to it carries SYNC
(R65, R471, R472, R480). -/
def Dev.freeSource (d : Dev) (addr t : Nat) : Dev :=
  let d := d.modNet (fun n =>
    { n with ctxs := n.ctxs.filter (fun c => c.src != addr), bcast := n.bcast.filter (fun b => b.1 != addr),
             seqs := n.seqs.map (fun s => if s.dst = addr then { s with sync := true } else s) })
  d.closeExpert (fun r _ => match r with | .net _ a => a == addr | _ => false) t

/-! ### Station state and time state -/

/-- The state of the station changes (R448, R482); the first dispatch after it became ACTIVE carries SYNC (R472). -/
def Dev.setNetState (d : Dev) (new t : Nat) : Dev :=
  let old := d.rd netState
  if old = new then d
  else
    let d := d.wr netState new
    let d := d.when_ (new == 4) (fun d => (d.ev .net 0).modNet (fun n => { n with seqs := n.seqs.map (fun s => { s with sync := true }) }))
    d.note t 6 3 0 0x00C0 (old * 2 ^ 28 + new * 2 ^ 24 + (if d.on netAddrValid then d.rd netAddr else 0))

/-- The time state machine enters FREE (R45, R46). -/
def Dev.timeFree (d : Dev) : Dev :=
  (d.wr timeState 0).modNet (fun n => { n with offset := none, aligned := false })

/-- The station begins to take time (R45): FREE becomes ACQUIRE. -/
def Dev.timeAcquire (d : Dev) : Dev :=
  if d.rd timeState = 0 then ({ d.wr timeState 1 with agree := 0 } : Dev).modNet (fun n => { n with offset := none, aligned := false }) else d

/-- The station leaves its segment: RELAY, without an address. -/
def Dev.toRelay (d : Dev) (t : Nat) : Dev :=
  let d := d.setNetState 1 t
  (d.wr netAddrValid 0).modNet (fun n => { n with grant := none, slices := [], good := 0, enumStn := 0 })

/-- HOLDOVER_ENTRY (R45, R46): HOLD_LIMIT ticks without a time correction. -/
def effHoldover (t : Nat) (d : Dev) : Dev :=
  if d.rd timeState = 2 ∧ d.rd timeHoldLimit ≤ d.noTime ∧ d.rd netState ≠ 5 then ((d.wr timeState 3).ev .time 2).raise 0x6D04 0 3 0 t
  else d

/-- STEER_LIMIT (R52): in LOCKED the error exceeded 10 ns for 16 consecutive ticks. -/
def effSteerLimit (_t : Nat) (d : Dev) : Dev :=
  if d.rd timeState = 2 ∧ 16 ≤ d.errRun then d.sticky .time 1 else d

/-- The nearest whole number of ns of a time in units of 0.125 ns. -/
def nsOf (x : Int) : Int := divRound x 8

/-- The lengthening, in ns, that brings the next boundary onto the grid of R47 for an offset in ns: a boundary on the first
system-cycle edge after its grid point is on the grid (R47). -/
def Dev.gridGap (d : Dev) (origin ofs : Int) : Nat :=
  let period : Int := if d.net.period = 0 then 1 else 5 * d.net.period
  let gap := (origin - ((d.nextTick : Int) + ofs)) % period
  if period < gap + 5 then 0 else gap.toNat

/-- TIME_ERR holds ±(2^31 − 1) at its ends (R52). -/
def timeErrOf (x : Int) : Int := clampInt (1 - 2 ^ 31) (2 ^ 31 - 1) x

/-- The station enters LOCKED: a network source that got a sample within EVP_NET_HOLD ticks is stale no more (R342). -/
def Dev.netSourcesBack (d : Dev) (t : Nat) : Dev :=
  d.each (List.range 12) (fun k d =>
    let d := d.modEvp k (fun e => { e with freshAt := 4 * t })
    d.when_ ((d.evp k).sample.isSome && decide ((d.evp k).noSample < d.rd (evpNetHold k))) (fun d => d.wr (evpSrcStale k) 0))

/-- A time sample (R44, R45, R463): system time `sys` at device time `at8`, both in units of 0.125 ns. -/
def Dev.timeSample (d : Dev) (sys at8 origin : Int) (t : Nat) : Dev :=
  let o := sys - at8
  let err := at8 + 8 * d.timeOfs - sys
  match d.rd timeState with
  | 1 =>
    let d :=
      match d.net.offset with
      | some o' =>
        if (o - o').natAbs ≤ 80 then { d with agree := d.agree + 1 }
        else ({ d with agree := 1 } : Dev).modNet (fun n => { n with offset := some o })
      | none => ({ d with agree := 1 } : Dev).modNet (fun n => { n with offset := some o })
    let ofs := nsOf (d.net.offset.getD o)
    let gap := d.gridGap origin ofs
    let d := { d with alignLeft := gap / 5, noTime := 0 }
    let d := if gap < 5 ∧ !d.net.aligned then (d.modNet (fun n => { n with aligned := true })).ev .time 3 else d
    let d := if gap < 5 then d else d.modNet (fun n => { n with aligned := false })
    if 16 ≤ d.agree ∧ d.net.aligned then
      ((((((d.wr timeState 2).wrS timeTimeOffset ofs).wrS timeTickOrigin origin).ev .time 1).wrS timeTimeErr (timeErrOf (nsOf (at8 + 8 * ofs - sys)))).conditionOver
        0x6D04 0 t).netSourcesBack t
    else d.wrS timeTimeErr (timeErrOf (nsOf err))
  | 2 => { (d.wrS timeTimeErr (timeErrOf (nsOf err))).wrS timeTickOrigin origin with noTime := 0 }
  | 3 =>
    let d := { d.wrS timeTimeErr (timeErrOf (nsOf err)) with noTime := 0 }
    if err.natAbs ≤ 8000 then (((d.wr timeState 2).ev .time 1).conditionOver 0x6D04 0 t).netSourcesBack t
    else ({ d.wr timeState 1 with agree := 0 } : Dev).modNet (fun n => { n with offset := none, aligned := false })
  | _ => d.wrS timeTimeErr (timeErrOf (nsOf err))

/-! ### Links (R445, R446, R477, R481, R482) -/

/-- A link changes its state, with record 0x00B0. -/
def Dev.setLink (d : Dev) (m new t : Nat) : Dev :=
  let old := d.rd (lnkState m)
  (d.wr (lnkState m) new).note t 6 3 m 0x00B0 (old * 2 ^ 8 + new * 2 ^ 4)

/-- The link of line X: of a ring the one that it began with, else the lowest UP link on which no STANDBY arrives (R449). -/
def Dev.lineX (d : Dev) : Nat :=
  let a := 2 * d.headPair
  if d.on netRing then d.net.xLink else if d.linkUp a && !d.on (lnkStandbyRx a) then a else a + 1

/-- The links of the segment that the device heads take their roles: line X, and line Y of a fold or the closing link of a
ring. A segment is a ring once STANDBY arrives on the second link, and stays one (R449, R477, log entry 225). -/
def Dev.headRoles (d : Dev) : Dev :=
  if !d.on netHeadSide then d
  else
    let x := d.lineX
    let y := mate x
    let ring := d.on netRing || (d.linkUp x && d.on (lnkStandbyRx y))
    let d := (d.wr (lnkRole x) (if d.linkUp x then 3 else 0)).modNet (fun n => { n with xLink := x })
    (d.wr (lnkRole y) (if !d.linkUp y then 0 else if d.on netFolded then 4 else if d.linkUp x || ring then 5 else 0)).wrB netRing ring

/-- An enumeration begins (R456); `noRetain` after the failure of R459. -/
def Dev.startEnum (d : Dev) (noRetain : Bool) (tries : Nat) : Dev :=
  (d.wr netEnumBusy 1).modNet (fun n => { n with enumK := 0, enumBack := 0, enumTry := tries, noRetain := noRetain, entries := [] })

/-- LINK_TRAIN (R445): a signal is detected on a DOWN link. -/
def effLinkTrain (m : Nat) (t : Nat) (d : Dev) : Dev :=
  if d.rd (lnkState m) = 0 ∧ d.on (lnkEn m) then d.netBegin.setLink m 1 t else d.netBegin

/-- LINK_UP (R445, R449, R456, R478): the link is aligned; `standby` says whether STANDBY arrives on it. -/
def effLinkUp (m : Nat) (standby : Bool) (t : Nat) (d : Dev) : Dev :=
  let d := d.netBegin
  if d.rd (lnkState m) ≠ 1 then d
  else
    let d := ((d.setLink m 2 t).ev (.lnk m) 0).wrB (lnkStandbyRx m) standby
    let d := d.when_ (!d.on netFolded && !d.headLink m) (fun d => if standby then d.wr (lnkTurn (mate m)) 1 else d.wr (lnkTurn (mate m)) 0)
    let d := d.headRoles
    if d.headLink m && d.on netCfgAutoEnum && !d.on netEnumBusy then d.startEnum false 0 else d

/-- LINK_DOWN (R445, R477, R481): after the loss of the signal or of symbols; `errs` code errors are counted. -/
def effLinkDown (m errs : Nat) (t : Nat) (d : Dev) : Dev :=
  let d := d.netBegin.incBy (lnkCodeErr m) errs
  if d.rd (lnkState m) = 0 then d
  else
    let used := d.rd (lnkRole m) != 0
    let d := ((((d.setLink m 0 t).ev (.lnk m) 1).inc (lnkDownCount m)).wr (lnkStandbyRx m) 0).wr (lnkTurn m) 0
    let o := mate m
    let turn := !d.headLink m && d.linkUp o && d.rd (lnkRole o) != 0 && !d.on (lnkTurn o)
    let d := d.wr (lnkRole m) 0
    let d := d.when_ turn (fun d => (d.wr (lnkTurn o) 1).ev (.lnk o) 2)
    let d := d.headRoles
    if used then d.raise 0x6D01 m 3 0 t else d

/-- A damaged or a marked frame is counted on its link (R451). -/
def Dev.badFrame (d : Dev) (m q : Nat) : Dev :=
  if q = 1 then d.inc (lnkCrcMarked m) else if q = 2 then (d.inc (lnkCrcBad m)).ev (.lnk m) 3 else d

/-! ### Departures (R480) -/

/-- The head declares a station left. -/
def Dev.stationLeft (d : Dev) (stn t : Nat) : Dev :=
  let addr := netAddress (d.rd netSeg) stn
  let d := d.sendDispatch true false (netAddress (d.rd netSeg) 255) 4 (noticeWords addr false) t
  let d := d.modNet (fun n =>
    { n with members := n.members.filter (fun m => m.stn != stn),
             out := n.out.filter (fun o => o.dst != addr),
             waiting := n.waiting.filter (fun w => w.dst != addr) })
  let d := d.freeSource addr t
  let d := (((d.wr (netSliceOutOff stn) 0).wr (netSliceOutLen stn) 0).wr (netSliceInOff stn) 0).wr (netSliceInLen stn) 0
  let d := (d.ev .net 6).note t 6 3 0 0x00C0 addr
  d.raise 0x6D07 0 3 addr t

/-- STATION_LEFT (R480): ALIVE is missing for MISS_N consecutive good pennants. -/
def effStationLeft (stn : Nat) (t : Nat) (d : Dev) : Dev :=
  let d := d.netBegin
  if d.on netHeadSide && d.net.members.any (fun m => m.stn == stn && decide (d.rd netMissN ≤ m.miss)) then d.stationLeft stn t else d

/-! ### Commands of NET_CMD (R456, R478, R480) -/

/-- A command is refused. -/
def Dev.netRefuse (d : Dev) (r : Nat) : Dev := (d.wr netResult r).ev .net 7

/-- ENUMERATE (R456). -/
def effEnumerate (_t : Nat) (d : Dev) : Dev :=
  let d := d.netBegin
  if !d.on netHeadSide then d.netRefuse 2 else if d.on netEnumBusy then d.netRefuse 3 else (d.startEnum false 0).wr netResult 0

/-- The head begins to unfold the ring (R478): UNFOLD_NEXT in four pennants. -/
def Dev.startUnfold (d : Dev) : Dev := d.modNet (fun n => { n with unfoldIn := some 4 })

/-- UNFOLD (R478). -/
def effUnfold (_t : Nat) (d : Dev) : Dev :=
  let d := d.netBegin
  if !d.on netHeadSide || !d.on netFolded || d.net.unfoldIn.isSome then d.netRefuse 2 else d.startUnfold.wr netResult 1

/-- LEAVE (R45, R480): the station notifies the head and enters RELAY with its time state FREE; a head stops heading. -/
def effLeave (t : Nat) (d : Dev) : Dev :=
  let d := d.netBegin
  match d.rd netState with
  | 3 | 4 =>
    let d := d.when_ (d.on netAddrValid) (fun d =>
      d.sendDispatch false false (netAddress (segOf (d.rd netAddr)) 0) 4 (noticeWords (d.rd netAddr) false) t)
    ((d.toRelay t).timeFree).wr netResult 1
  | 5 => (((((d.setNetState 1 t).wr netHeadSide 0).wr netRing 0).wr netFolded 0).modNet (fun n => { n with members := [], joins := [] })).timeFree.wr netResult 1
  | _ => d.netRefuse 2

/-- A write of NET_CMD (R484): other codes are ignored. -/
def Dev.writeNetCmd (d : Dev) (cmd t : Nat) : Dev :=
  match cmd with
  | 1 => effEnumerate t d
  | 2 => effUnfold t d
  | 3 => effLeave t d
  | _ => d

/-- The device becomes the head of its segment, as its role says (R45, R447, R448): from step 8 on. A head with no upstream
segment enters LOCKED and sets TICK_ORIGIN; which of its boundaries it names is the model's choice, the latest one (R47,
log entry 197). -/
def Dev.takeRole (d : Dev) (t : Nat) : Dev :=
  if d.stepsDone < 6 ∨ d.on netListenOnly then d
  else
    match d.rd netCfgRole with
    | 1 =>
      let d := (((d.wr netHeadSide 1).setNetState 5 t).when_ (d.rd timeState != 2) (fun d => d.ev .time 1)).wr timeTimeOffset 0
      let locked := d.rd timeState == 2
      ((((d.wr timeState 2).wrS timeTickOrigin (d.sysTime d.tickStart)).headRoles).conditionOver 0x6D04 0 t).when_ (!locked)
        (fun d => d.netSourcesBack t)
    | 2 => (d.wr netHeadSide 1).headRoles
    | _ => d.wr netHeadSide 0

/-- A write of NET_CTRL (R447): ROLE and PAIR only in BYPASS or RELAY, and ROLE 1 or 2 only with a valid NET region; 3 is
ignored. The other fields are set at once. -/
def Dev.writeNetCtrl (d : Dev) (v t : Nat) : Dev :=
  let role := bitsAt v 8 2
  let pair := bitsAt v 4 1
  let d := ((((d.wr netCfgAutoEnum (bitsAt v 3 1)).wr netCfgRetainEn (bitsAt v 2 1)).wr netCfgSegTick (bitsAt v 1 1)).wr netCfgAutoUnfold (bitsAt v 0 1)).wr
    timeSegTick (bitsAt v 1 1)
  let role := if role = 3 then d.rd netCfgRole else role
  if role = d.rd netCfgRole ∧ pair = d.rd netCfgPair then d
  else if 1 < d.rd netState ∨ (role ≠ 0 ∧ d.on netListenOnly) then d.ev .net 7
  else ((d.wr netCfgRole role).wr netCfgPair pair).takeRole t

/-! ### Held in reset -/

/-- The block while it is held in reset: every register at its reset value, the links in the reset bypass (R17, R76).
Pins, fuses, the parameter store and the test access port are not touched by a reset (R583, R509, R526). -/
def Dev.fresh (d : Dev) : Dev :=
  ({ pins := d.pins, nv := d.nv, tap := d.tap, freeCtr := d.freeCtr } : Dev).wr netState 0

end Sys2Proof.Machine
end

