-- ==== Sys2Proof/Machine/NetSegment.lean ====
section
/-! DEFINITION. Pennants as words (R452, R453), sending them (R464), enumeration (R456 to R459), receiving a dispatch
(R471, R473), joins, grants, slices and notices (R460, R479, R480), folds (R477, R478), announcements (R465), and the
sender's repeats (R472). -/
namespace Sys2Proof.Machine

/-! ### The pennant (R452) -/

/-- Word i of a frame. -/
def pw (f : List Nat) (i : Nat) : Nat := f.getD i 0
/-- FLAGS bit i of a pennant. -/
def pwFlag (f : List Nat) (i : Nat) : Bool := bitAt (pw f 0) (16 + i)
/-- SEG. -/
def pwSeg (f : List Nat) : Nat := bitsAt (pw f 0) 0 10
/-- T_SEND. -/
def pwSend (f : List Nat) : Nat := pw f 2 + pw f 3 * 2 ^ 32
/-- TICK_ORIGIN. -/
def pwOrigin (f : List Nat) : Nat := pw f 4 + pw f 5 * 2 ^ 32
/-- DATA_LEN. -/
def pwDataLen (f : List Nat) : Nat := bitsAt (pw f 6) 16 16
/-- NSTA. -/
def pwNsta (f : List Nat) : Nat := bitsAt (pw f 6) 8 8
/-- HOP. -/
def pwHop (f : List Nat) : Nat := bitsAt (pw f 6) 0 8
/-- ENUM. -/
def pwEnum (f : List Nat) : Nat := bitsAt (pw f 7) 24 8
/-- NCYC. -/
def pwNcyc (f : List Nat) : Nat := bitsAt (pw f 7) 18 3
/-- PERIOD. -/
def pwPeriod (f : List Nat) : Nat := bitsAt (pw f 7) 0 15
/-- ANN_PERIOD. -/
def pwAnnPeriod (f : List Nat) : Nat := bitsAt (pw f 9) 0 15
/-- ANN_TIME. -/
def pwAnnTime (f : List Nat) : Nat := pw f 10 + pw f 11 * 2 ^ 32
/-- Index of the word at a byte offset of the data area. -/
def pwData (off : Nat) : Nat := 12 + off / 4
/-- Index of the status word of an STN. -/
def pwStatus (f : List Nat) (stn : Nat) : Nat := 12 + pwDataLen f / 4 + (stn - 1)

/-- HOP counted up by the device (R448, R452). -/
def hopUp (f : List Nat) : List Nat := f.set 6 (putBits (pw f 6) 0 8 (pwHop f + 1))

/-- The header of a pennant that the head sends at device time t (R452). -/
def Dev.pennantHeader (d : Dev) (kind flags cycle enum dataLen nsta t : Nat) : List Nat :=
  let ann := d.net.headAnn
  let at_ := ((ann.map (·.time)).getD 0)
  [kind * 2 ^ 24 + flags * 2 ^ 16 + d.rd netSeg, cycle % 2 ^ 32] ++ words64 (wrapTo 64 (d.sysTime t)) ++ words64 (d.rd timeTickOrigin) ++
  [dataLen * 2 ^ 16 + nsta * 2 ^ 8, enum * 2 ^ 24 + d.rd netNcyc * 2 ^ 18 + d.rd timeTickPeriod, (if bitAt flags 4 then d.net.deltaY else d.net.delta0) % 2 ^ 32,
   (ann.map (·.period)).getD 0] ++ words64 at_

/-- FLAGS of the head's pennants (R452). -/
def Dev.pennantFlags (d : Dev) (lineY : Bool) : Nat :=
  let b := fun (x : Bool) (i : Nat) => if x then 2 ^ i else 0
  b (d.on netRing) 0 + b (d.on netFolded) 1 + b d.net.headAnn.isSome 2 + b ((d.net.headAnn.map (·.confirm)).getD false) 3 + b lineY 4
    + b d.net.noRetain 5 + b d.net.unfoldIn.isSome 6

/-! ### Mapped values (R461) -/

/-- The values of entry i that a pennant at time t carries: those of the last boundary at least 200 ns before it, or that
boundary's system time with TSYS. -/
def Dev.mapValue (d : Dev) (i t : Nat) : List Nat :=
  let late := decide (d.net.mapAt + 200 ≤ t)
  let ws := if d.on (netMapTsys i) then words64 (wrapTo 64 (d.sysTime (if late then d.net.mapAt else d.net.prevAt)))
    else (if late then d.net.mapNow else d.net.mapPrev).getD i []
  if d.on (netMapW8 i) then [ws.getD 0 0, ws.getD 1 0] else [ws.getD 0 0]

/-- Bytes of map entry i. -/
def Dev.mapBytes (d : Dev) (i : Nat) : Nat := if d.on (netMapW8 i) then 8 else 4

/-- The map entries of a side and a direction: the SIDE bit counts on a bridge only. -/
def Dev.mapEntries (d : Dev) (head dir : Bool) : List Nat :=
  (List.range 32).filter (fun i => d.on (netMapEn i) && d.on (netMapDir i) == dir && (!d.isBridge || d.on (netMapSide i) == head))

/-- Put words into a frame from a byte offset of the data area on. -/
def putData (f : List Nat) (off : Nat) : List Nat → List Nat
  | [] => f
  | w :: ws => putData (f.set (pwData off) w) (off + 4) ws

/-- The head's own data: its DIR 1 entries at their place in the data area. -/
def Dev.headData (d : Dev) (f : List Nat) (t : Nat) : List Nat :=
  (d.mapEntries true true).foldl (fun f i =>
    if d.rd (netMapData i) + d.mapBytes i ≤ pwDataLen f then putData f (d.rd (netMapData i)) (d.mapValue i t) else f) f

/-- A station's insertion (R461): its input slice is sent as its DIR 1 entries supply it, other bytes of it as 0. -/
def Dev.insertSlice (d : Dev) (f : List Nat) (t : Nat) : List Nat :=
  let off := d.rd netMyInOff
  let stop := min (off + d.rd netMyInLen) (pwDataLen f)
  let f := (List.range ((stop - off) / 4)).foldl (fun f i => f.set (pwData off + i) 0) f
  (d.mapEntries false true).foldl (fun f i =>
    let a := d.rd (netMapData i)
    if off ≤ a ∧ a + d.mapBytes i ≤ stop then putData f a (d.mapValue i t) else f) f

/-- The status word of the station (R453, R478, R543). -/
def Dev.statusWord (d : Dev) (m : Nat) : Nat :=
  let b := fun (x : Bool) (i : Nat) => if x then 2 ^ i else 0
  let ack := d.net.ann.map (fun a => d.periodBar a.period true == 0)
  b true 31 + b (ack == some true) 30 + b (ack == some false) 29 + b (d.on devReady) 28 + d.rd timeState % 4 * 2 ^ 26 + b d.faultN 25
    + b (d.on (lnkTurn m) && d.linkUp (mate m) && !d.on (lnkStandbyRx (mate m))) 24 + d.stoppedWord

/-! ### Sending a pennant (R456, R460, R464, R477, R478) -/

/-- The entry of the slice table for an STN. -/
def Dev.sliceEntry (d : Dev) (s : Nat) : Slice :=
  { outOff := d.rd (netSliceOutOff s), outLen := d.rd (netSliceOutLen s), inOff := d.rd (netSliceInOff s), inLen := d.rd (netSliceInLen s) }

/-- The slice that the head uses for an STN in a cycle (R460): the entry replaced, before the first cycle of the new one. -/
def Dev.sliceInUse (d : Dev) (s cycle : Nat) : Slice :=
  match d.net.oldSlices.find? (fun x => x.1 == s && decide (cycle < x.2.1)) with
  | some x => x.2.2
  | none => d.sliceEntry s

/-- DATA_LEN of the cyclic pennant of a cycle (R452, R460). -/
def Dev.lenInUse (d : Dev) (stns : List Nat) (cycle : Nat) : Nat :=
  stns.foldl (fun m s => let x := d.sliceInUse s cycle; max m (max (x.outOff + x.outLen) (x.inOff + x.inLen))) 0

/-- The input slices and status words that returned on the other line of a fold are copied (R477). -/
def Dev.foldCopy (d : Dev) (f other : List Nat) : List Nat :=
  d.net.members.foldl (fun f m =>
    let w := pw other (pwStatus other m.stn)
    if !bitAt w 31 then f
    else
      let f := f.set (pwStatus f m.stn) w
      let off := (d.sliceInUse m.stn d.net.cycle).inOff
      (List.range ((d.sliceInUse m.stn d.net.cycle).inLen / 4)).foldl (fun f i => f.set (pwData off + i) (pw other (pwData off + i))) f) f

/-- The joins whose first cycle has come take part (R479, R480, R482). -/
def Dev.takeJoins (d : Dev) (cycle t : Nat) : Dev :=
  let due := d.net.joins.filter (fun g => g.cycle ≤ cycle)
  due.foldl (fun d g =>
    let addr := netAddress (d.rd netSeg) g.stn
    let d := d.modNet (fun n => { n with members := n.members ++ [{ stn := g.stn, pos := g.pos }] })
    let d := d.freeSource addr t
    let d := (d.ev .net 5).note t 6 3 0 0x00C0 addr
    d.sendDispatch true false (netAddress (d.rd netSeg) 255) 4 (noticeWords addr true) t)
    (d.modNet (fun n => { n with joins := n.joins.filter (fun g => cycle < g.cycle) }))

/-- The ring is unfolded before the first pennant on one link (R478). -/
def Dev.endFold (d : Dev) (t : Nat) : Dev :=
  if d.net.unfoldIn = some 0 then
    let d := (d.wr netFolded 0).modNet (fun n => { n with unfoldIn := none, foldX := [], foldY := [], restoredRun := 0 })
    (d.headRoles.ev .net 4).note t 6 3 0 0x00D0 d.net.foldPos
  else d

/-- A cyclic pennant of a line, as the head sends it. -/
def Dev.cyclicFrame (d : Dev) (lineY : Bool) (cycle t : Nat) : List Nat :=
  let stns := d.net.members.map (·.stn)
  let len := d.lenInUse stns cycle
  let f := d.pennantHeader 1 (d.pennantFlags lineY) cycle 0 len (nstaOf stns) t ++ List.replicate (len / 4 + nstaOf stns) 0
  let f := d.headData f t
  if d.on netFolded then d.foldCopy f (if lineY then d.net.foldX else d.net.foldY) else f

/-- Send a pennant on a line. -/
def Dev.sendPennant (d : Dev) (kind : Nat) (y : Bool) (f : List Nat) : Dev :=
  match d.lineLink y with
  | some m => d.transmit { link := m, kind := kind, words := f }
  | none => d

/-- The enumeration fails: it restarts, and at the fourth failure 0x6D06 is raised (R459). -/
def Dev.enumFail (d : Dev) (noRetain : Bool) (t : Nat) : Dev :=
  if 4 ≤ d.net.enumTry + 1 then
    let (v, d) := d.free
    (((d.wr netEnumBusy 0).wr netResult v).modNet (fun n => { n with enumK := 0, noRetain := false })).raise 0x6D06 0 3 0 t
  else d.startEnum (noRetain || d.net.noRetain) (d.net.enumTry + 1)

/-- The index of a tick boundary (R464): a boundary lies within 10 ns of its grid point (R43, R47), so the nearest one counts. -/
def Dev.tickIndex (d : Dev) (b : Nat) : Int := divRound (d.sysTime b - d.rd timeTickOrigin) (max d.tickNs 1 : Nat)

/-- PENNANT_SEND (R456, R464): at a cycle boundary plus SEND_OFS the head sends a cyclic pennant, or while it enumerates
an enumeration pennant in its place. A pennant that has not returned by the next one is a missing one (R484); an enumeration
pennant then restarts the enumeration (R459). -/
def effPennantSend (t : Nat) (d : Dev) : Dev :=
  let d := d.netBegin
  let b := d.tickStart
  let idx := d.tickIndex b
  if !d.on netHeadSide || d.net.sentAt == some b || decide (t < b + 5 * d.rd netSendOfs) || idx % (ncycTicks (d.rd netNcyc) : Nat) != 0 then d
  else
    let d := d.when_ (!d.net.back) (fun d => d.ev .net 1)
    let d := d.endFold t
    let d := if d.on netEnumBusy && d.net.enumBack != d.net.enumK then d.enumFail false t else d
    let cycle := (d.net.cycle + 1) % 2 ^ 32
    let d := (d.wr netCycle cycle).modNet (fun n => { n with cycle := cycle, sentAt := some b, back := false })
    if d.on netEnumBusy && decide (d.net.enumK < 8) then
      let k := d.net.enumK + 1
      let nsta := if k = 1 then 254 else (d.net.entries.map Prod.fst).foldl max 0
      let f := fun (y : Bool) => d.pennantHeader 2 (d.pennantFlags y) cycle 1 0 nsta t ++ List.replicate (2 * nsta) 0
      let d' := (d.modNet (fun n => { n with enumK := k })).sendPennant 2 false (f false)
      if k = 8 && d.on netRing && !d.on netFolded then
        d'.transmit { link := mate (d.originLink true), kind := 2, words := f true }
      else if d.on netFolded then d'.sendPennant 2 true (f true) else d'
    else
      let d := d.takeJoins cycle t
      let d := d.modNet (fun n => { n with unfoldIn := n.unfoldIn.map (· - 1) })
      let d := d.sendPennant 1 false (d.cyclicFrame false cycle t)
      if d.on netFolded then d.sendPennant 1 true (d.cyclicFrame true cycle t) else d

/-! ### What every pennant tells a station (R448, R449, R462, R463) -/

/-- Keep the last 16 values. -/
def last16 (l : List Nat) (x : Nat) : List Nat := (l ++ [x]).drop (l.length + 1 - 16)

/-- The mean of a list. -/
def meanNat (l : List Nat) : Nat := if l.isEmpty then 0 else l.foldl (· + ·) 0 / l.length

/-- A good pennant is forwarded at time t: the roles of the links, the position, the path delay and the time sample; 0x6D02 ends
(R533). A gap in CYCLE is a missing pennant (R479, R484). -/
def Dev.learnPennant (d : Dev) (p : PennantIn) (t : Nat) : Dev :=
  let m := p.link.val
  let f := p.frame
  let delta := p.tr - p.ta
  let y := pwFlag f 4
  let next := match d.net.last with
    | some (c, _) => (c + 1) % 2 ^ 32 == pw f 1
    | none => true
  let d := d.when_ (!next) (fun d => (d.ev .net 1).modNet (fun n => { n with good := 0 }))
  let path : Option Nat :=
    match d.net.last with
    | some (c, dl) => if (c + 1) % 2 ^ 32 = pw f 1 then some ((pw f 8 - dl) / 2) else none
    | none => none
  let d := ((d.wr (lnkRole m) 1).wr (lnkRole (mate m)) (if !d.linkUp (mate m) then 0 else if d.on (lnkStandbyRx (mate m)) then 5 else 2)).wr (lnkFwd m) p.fwd
  let d := (((d.wr netPos (pwHop f)).wr netCycle (pw f 1)).wr netDelta delta)
  let d := (d.wrB netRing (pwFlag f 0)).wrB netFolded (pwFlag f 1)
  let d := d.modNet (fun n =>
    { n with last := some (pw f 1, delta), seg := pwSeg f, ncyc := ncycTicks (pwNcyc f), period := pwPeriod f, lastGood := t,
             pathX := if y then n.pathX else (match path with | some x => last16 n.pathX x | none => n.pathX),
             pathY := if y then (match path with | some x => last16 n.pathY x | none => n.pathY) else n.pathY })
  let d := d.conditionOver 0x6D02 0 t
  let l := if y then d.net.pathY else d.net.pathX
  let d := if path.isNone then d else if y then d.wr netPathY (meanNat l) else d.wr netPathX (meanNat l)
  if l.isEmpty then d
  else d.timeSample (8 * (pwSend f : Int) + meanNat l) p.ta (pwOrigin f) t

/-- A pennant that is not good (R451): it is counted, gives no sample, and nothing is applied. -/
def Dev.badPennant (d : Dev) (m q : Nat) : Dev := ((d.badFrame m q).ev .net 1).modNet (fun n => { n with good := 0 })

/-! ### Enumeration (R457 to R459) -/

/-- The stored STN is taken in place of ENUM (R458). -/
def Dev.retained (d : Dev) (f : List Nat) : Bool :=
  d.on netCfgRetainEn && d.on netRetainValid && d.rd netRetainSerial == d.rd devSerial && d.rd netRetainPos == pwHop f
    && segOf (d.rd netRetainAddr) == pwSeg f && !pwFlag f 5

/-- The station acts on its status entry of enumeration pennant k (R457): the entry, the ENUM it sends on, and the state. -/
def Dev.enumEntry (d : Dev) (f : List Nat) (k : Nat) (prev : Nat) : Option (Nat × Nat) × Nat × Dev :=
  let st := d.rd netState
  let dl := if k ≤ 1 then 0 else prev
  if st = 2 then (some (dl, 2 ^ 28), pwEnum f, d)
  else if st = 4 ∨ ((st = 1 ∨ st = 3) ∧ d.on devReady) then
    if 254 < pwEnum f then (some (dl, 2 ^ 28), pwEnum f, d.modNet (fun n => { n with enumStn := 0 }))
    else
      let keep := d.retained f
      let stn := if keep then stnOf (d.rd netRetainAddr) else pwEnum f
      let d := (((d.wr netRetainValid 1).wr netRetainPos (pwHop f)).wr netRetainAddr (netAddress (pwSeg f) stn)).wr netRetainSerial (d.rd devSerial)
      (some (dl, (if keep then 2 ^ 31 else 0) + (if d.isBridge then 2 ^ 30 else 0) + stn), pwEnum f + 1,
       d.modNet (fun n => { n with enumStn := stn }))
  else (none, pwEnum f, d)

/-- The return pass of a pennant: a station that does not turn it forwards it towards the head (R449, R451). -/
def Dev.returnPass (d : Dev) (p : PennantIn) (kind : Nat) (turn : Bool) : Dev :=
  if turn then d
  else (d.badFrame (mate p.link.val) p.qBack).transmit
    { link := p.link.val, kind := kind, words := p.back, marked := decide (p.qBack ≠ 0) }

/-- An enumeration pennant passes the station; the one that measures the reverse path of a ring (LINE_Y without FOLDED,
R477) only passes. -/
def Dev.stationEnum (d : Dev) (p : PennantIn) (k t : Nat) : Dev :=
  let f := p.frame
  let m := p.link.val
  let prev := (d.net.last.map Prod.snd).getD 0
  let good := decide (p.q = 0)
  let turn := d.turns m
  let (e, enum, d') := d.enumEntry f k prev
  let g := (hopUp f).set 7 (putBits (pw f 7) 24 8 enum)
  let at_ := 12 + 2 * (pwHop f - 1)
  let g := match e with
    | some (w0, w1) => (g.set at_ w0).set (at_ + 1) w1
    | none => g
  if pwFlag f 4 && !pwFlag f 1 then
    let d := if good then d else d.badPennant m p.q
    (d.transmit { link := if turn then m else mate m, kind := 2, words := hopUp f, marked := !good }).returnPass p 2 turn
  else
  let d := if good then d'.learnPennant p t else d.badPennant m p.q
  let d := d.transmit { link := if turn then m else mate m, kind := 2, words := g, marked := !good }
  let d := d.returnPass p 2 turn
  if good && k == 8 && d.rd netState == 4 && d.net.enumStn == 0 then d.toRelay t
  else if good && k == 8 && decide (d.net.enumStn ≠ 0) then
    let d := (d.wr netAddrValid 1).wr netAddr (netAddress (pwSeg f) d.net.enumStn)
    (d.setNetState 4 t).timeAcquire.modNet (fun n => { n with grant := none })
  else d

/-- The entries of a returned enumeration pennant: position and word 1 of those that were written. -/
def returnedEntries (f : List Nat) : List (Nat × Nat) :=
  ((List.range (pwNsta f)).map (fun i => (i + 1, pw f (13 + 2 * i)))).filter (fun e => e.2 != 0)

/-- Position, STN and NO_ADDR of the entries. -/
def enumNames (l : List (Nat × Nat)) : List (Nat × Nat) := l.map (fun e => (e.1, e.2 % 2 ^ 8 + (if bitAt e.2 28 then 256 else 0)))

/-- The STNs that the entries name. -/
def enumStns (l : List (Nat × Nat)) : List Nat := (l.filter (fun e => !bitAt e.2 28)).map (fun e => e.2 % 256)

/-- A member occurs twice in a list. -/
def repeats : List Nat → Bool
  | [] => false
  | x :: xs => xs.contains x || repeats xs

/-- Send a station its slice entry: the words OUT, IN and the cycle from which it and the head use it in place of the old
entry (R459, R460). -/
def Dev.sendSlice (d : Dev) (stn : Nat) (old : Slice) (t : Nat) : Dev :=
  let (v, d) := d.free
  let cycle := (d.net.cycle + 2 + v % 256) % 2 ^ 32
  let d := d.modNet (fun n => { n with oldSlices := (n.oldSlices.filter (fun x => x.1 != stn)) ++ [(stn, cycle, old)] })
  let x := d.sliceEntry stn
  d.sendDispatch true false (netAddress (d.rd netSeg) stn) 4 (sliceWords x cycle) t

/-- The enumeration completes (R459, R482): a station that keeps its address keeps its slice. -/
def Dev.enumDone (d : Dev) (l : List (Nat × Nat)) (t : Nat) : Dev :=
  let ms := (l.filter (fun e => !bitAt e.2 28)).map (fun e => ({ stn := e.2 % 256, pos := e.1 } : Member))
  let ms := if d.on netFolded then ms ++ d.net.members.filter (fun m => !ms.any (fun x => x.stn == m.stn)) else ms
  let keep := l.any (fun e => bitAt e.2 31)
  let dn := ((d.wr netEnumBusy 0).wr netResult 1).modNet (fun n => { n with members := ms, joins := [], enumK := 0, noRetain := false })
  let dn := (dn.ev .net 3).note t 6 3 0 0x00E0 ((if keep then 2 ^ 8 else 0) + nstaOf (ms.map (·.stn)))
  let same := fun (s : Nat) => d.net.members.any (fun m => m.stn == s) || l.any (fun e => bitAt e.2 31 && e.2 % 256 == s)
  ms.foldl (fun d' m => d'.sendSlice m.stn (if same m.stn then d.sliceEntry m.stn else {}) t) dn

/-- A returned enumeration pennant reaches the head. -/
def Dev.headEnum (d : Dev) (p : PennantIn) (t : Nat) : Dev :=
  if !d.on netEnumBusy || d.net.enumK == 0 then d
  else if p.q ≠ 0 then (((d.badFrame p.link.val p.q).ev .net 1).modNet (fun n => { n with back := true })).enumFail false t
  else
  let d := d.modNet (fun n => { n with back := true })
  if pwFlag p.frame 4 then d.modNet (fun n => { n with deltaY := p.tr - p.ta })
  else
    let d := d.modNet (fun n => { n with delta0 := p.tr - p.ta, enumBack := n.enumK })
    let l := returnedEntries p.frame
    if d.net.enumK = 1 then
      let stns := enumStns l
      if repeats stns || stns.any (fun s => s == 0 || s == 255) then d.enumFail true t else d.modNet (fun n => { n with entries := l })
    else if enumNames l ≠ enumNames d.net.entries then d.enumFail false t
    else if d.net.enumK = 8 then d.enumDone l t
    else d

/-- ENUMERATION_PENNANT (R457, R459): number k of the eight, at a station or returned to the head. -/
def effEnumPennant (p : PennantIn) (k : Nat) (t : Nat) (d : Dev) : Dev :=
  let d := d.netBegin
  if d.headLink p.link.val then d.headEnum p t else d.stationEnum p k t

/-! ### The path of a dispatch (R467, R476) -/

/-- Where a frame for another place goes: 0 nowhere, 1 downstream, 2 upstream, 3 NO_ROUTE. -/
def Dev.route (d : Dev) (m dst : Nat) : Nat :=
  let seg := segOf dst
  let inRange := decide (d.rd netRouteLo ≤ seg) && decide (seg ≤ d.rd netRouteHi)
  if !d.on netHeadSide then 0
  else if d.headLink m then
    if dst = netAddress 1023 255 then (if d.isBridge then 2 else 0)
    else if seg = d.rd netSeg then
      if stnOf dst = 255 ∨ stnOf dst = 0 ∨ d.net.members.any (fun x => x.stn == stnOf dst) then 0 else 3
    else if inRange then 0
    else if d.isBridge then 2 else 3
  else if dst = netAddress 1023 255 then 1
  else if inRange then 1 else 0

/-- The line of a fold, other than that of link m, to which the head forwards a frame (R467, R477). -/
def Dev.otherLine (d : Dev) (m dst : Nat) : Option Nat :=
  if !d.headLink m || !d.on netFolded then none
  else
    let y := d.rd (lnkRole m) == 4
    let here := segOf dst == d.rd netSeg && d.net.members.any (fun x => x.stn == stnOf dst) && d.onLineY (stnOf dst) != y
    if here || dst == netAddress (d.rd netSeg) 255 || dst == netAddress 1023 255 then d.lineLink (!y) else none

/-- An answer without data. -/
def ans (r : Nat) : Answer := { result := r, data := [] }

/-- A copy of a frame as it leaves on link x, with its FCS as it arrived or recomputed (R451). -/
def DispHdr.onto (h : DispHdr) (ack : Bool) (chan result : Nat) (words : List Nat) (x ttl : Nat) (fcs : Option Nat) : TxFrame :=
  { link := x, kind := if ack then 4 else 3, chan := chan, seq := h.seq, sync := h.sync, dst := h.dst, src := h.src, unaddr := h.unaddr,
    ttl := ttl, result := result, words := words, pad := 4 * words.length - h.len, fcs := fcs }

/-- The link on which a station sends on what arrives on link m; none where the device is the head, or no station of the
pair (R448, R467). -/
def Dev.onward (d : Dev) (m : Nat) : Option Nat :=
  if d.headLink m || d.rd netState == 5 || m / 2 != d.stationPair then none else some (if d.turns m then m else mate m)

/-- This frame passed the station outbound and comes back (R467). -/
def Dev.comesBack (d : Dev) (h : DispHdr) (ack : Bool) (chan : Nat) : Bool :=
  d.rd (lnkRole h.link.val) != 1 && d.net.passed.contains { ack := ack, src := h.key, dst := h.dst, chan := chan, seq := h.seq }

/-- A station sends the frame on as it is, towards the end of the line and then towards the head (R467); `full`: it meets a
full buffer and is discarded (R467, R484). -/
def Dev.sendOn (d : Dev) (h : DispHdr) (ack : Bool) (chan result : Nat) (words : List Nat) (full : Bool) : Dev :=
  match d.onward h.link.val with
  | none => d
  | some x =>
    if full then d.inc netDispTtl
    else
      let me : Passed := { ack := ack, src := h.key, dst := h.dst, chan := chan, seq := h.seq }
      let back := d.comesBack h ack chan
      let out := d.rd (lnkRole h.link.val) == 1 && x != h.link.val
      (d.transmit (h.onto ack chan result words x h.ttl (some h.fcs))).modNet (fun n =>
        { n with passed := if back then n.passed.erase me else if out then n.passed ++ [me] else n.passed })

/-- A good frame is sent on by the head or a bridge (R467, R476, R477): on the other line of a fold as it is, into the other
segment with TTL decremented; at TTL 0, or at a full buffer, it is discarded and counted. -/
def Dev.crosses (d : Dev) (h : DispHdr) (ack : Bool) (chan result : Nat) (words : List Nat) (full : Bool) : Dev :=
  let m := h.link.val
  let r := d.route m h.dst
  let d :=
    match d.otherLine m h.dst with
    | some x => if full then d.inc netDispTtl else d.transmit (h.onto ack chan result words x h.ttl (some h.fcs))
    | none => d
  if r = 0 then d
  else if r = 3 then if ack || h.bcast then d else d.sendAck m h.key chan h.seq (ans 11)
  else if h.ttl = 0 ∨ full then d.inc netDispTtl
  else d.each (d.linksTo (r == 1) h.dst) (fun x d => d.transmit (h.onto ack chan result words x (h.ttl - 1) none))

/-- A dispatch or acknowledge arrives (R451, R467, R483): it is counted and sent on. The answer says whether the device may
execute it: the frame is good, and this is its first pass. -/
def Dev.arrive (d : Dev) (h : DispHdr) (ack : Bool) (chan result : Nat) (words : List Nat) (full : Bool) : Bool × Dev :=
  let d := d.netBegin
  let m := h.link.val
  let q := h.q ack chan result words
  if q ≠ 0 then (false, (d.badFrame m q).sendOn h ack chan result words full)
  else
    let first := !d.comesBack h ack chan
    let d := d.when_ (!ack) (fun d => d.inw (lnkDispRx m))
    let d := d.sendOn h ack chan result words full
    (first, d.when_ first (fun d => d.crosses h ack chan result words full))

/-- DISPATCH_FORWARD (R467, R476): the frame goes its way along the line, across the bridge or to the other line of a fold. -/
def effForward (h : DispHdr) (ack : Bool) (chan result : Nat) (words : List Nat) (full : Bool) (_t : Nat) (d : Dev) : Dev :=
  (d.arrive h ack chan result words full).2

/-! ### Receiving a dispatch (R471, R473) -/

/-- What running a dispatch gives: its answer, or none while the answer is awaited. -/
abbrev Run := Dev → Mem → Option Answer × Dev × Mem

/-- Execute a unicast dispatch and store its acknowledge (R471). -/
def Dev.execute (d : Dev) (h : DispHdr) (chan t : Nat) (mem : Mem) (run : Run) : Dev × Mem :=
  let d := (d.inw netDispExec).setCtx { src := h.key, chan := chan, seq := h.seq, ack := none, used := t }
  let (a, d, mem) := run d mem
  match a with
  | some a => (d.giveAnswer h.link.val h.key chan h.seq a, mem)
  | none => (d, mem)

/-- A dispatch on a channel reaches the device (R451, R467, R471, R473). -/
def Dev.receive (d : Dev) (h : DispHdr) (chan : Nat) (words : List Nat) (t : Nat) (bcastOk : Bool) (mem : Mem) (run : Run) : Dev × Mem :=
  let m := h.link.val
  let (first, d) := d.arrive h false chan 0 words false
  if !first then (d, mem)
  else
    let d := d.dropExpired t
    if !d.addressed m h.dst || !(d.executes m || (chan == 4 && h.bcast && d.rd netState == 3)) then (d, mem)
    else if h.bcast then
      if !bcastOk || d.net.bcast.any (fun b => b.1 == h.key && b.2 == h.seq) then (d, mem)
      else
        let d := d.modNet (fun n => { n with bcast := n.bcast.filter (fun b => b.1 != h.key) ++ [(h.key, h.seq)] })
        let (_, d, mem) := run (d.inw netDispExec) mem
        (d, mem)
    else
      let nak := fun (r : Nat) => (d.sendAck m h.key chan h.seq { result := r, data := [] }, mem)
      match d.ctx h.key chan with
      | some c =>
        if c.seq = h.seq then
          match c.ack with
          | some a => (((d.setCtx { c with used := t }).inc netDispDup).sendAck m h.key chan h.seq a, mem)
          | none => (d.setCtx { c with used := t }, mem)
        else if h.sync ∨ h.seq = (c.seq + 1) % 65536 then d.execute h chan t mem run
        else nak 8
      | none =>
        if !h.sync then nak 9
        else if 256 ≤ d.ctxUsed then nak 10
        else d.execute h chan t mem run

/-- DISPATCH_OTHER_CHANNEL (R468): answered CHANNEL, without a context. -/
def effOtherChannel (h : DispHdr) (chan : Nat) (words : List Nat) (_t : Nat) (d : Dev) : Dev :=
  let m := h.link.val
  let (first, d) := d.arrive h false chan 0 words false
  if !first then d
  else
    let listed := decide (chan ≤ 4) || (decide (8 ≤ chan) && decide (chan ≤ 15))
    if listed || h.bcast || !d.addressed m h.dst || !d.executes m then d else d.sendAck m h.key chan h.seq (ans 12)

/-! ### Joins, grants, slices, notices (R460, R466, R479, R480) -/

/-- The lowest free STN. -/
def Dev.freeStn (d : Dev) : Option Nat := ((List.range 254).map (· + 1)).find? (fun s => !d.stns.contains s)

/-- JOIN (R466, R479): the head judges the join of the device at a position, and broadcasts a GRANT: serial number (two
words), STN, the two slice words and C_g; STN 0 stands for CAPACITY. -/
def effJoin (h : DispHdr) (serial stn : Nat) (t : Nat) (mem : Mem) (d : Dev) : Dev × Mem :=
  d.receive h 4 (joinWords serial stn) t false mem (fun d mem =>
    if !d.headLink h.link.val then (some (ans 16), d, mem)
    else
      let give := if stn ≠ 0 ∧ stn ≤ 254 ∧ !d.stns.contains stn then some stn else d.freeStn
      let all := fun (s : Nat) => d.stns ++ [s]
      let fits := fun (s : Nat) => decide (0 ≤ capacityOf (d.rd timeTickPeriod) (d.rd netSendOfs) (d.rd netDres) (d.rd netNcyc)
        (d.dataLen (all s)) (nstaOf (all s)) (d.deltaJoins (d.net.joins.length + 1)))
      let dst := netAddress (d.rd netSeg) 255
      match give with
      | some s =>
        if fits s then
          let (v, d) := d.free
          let cg := (d.net.cycle + 2 + v % 256) % 2 ^ 32
          let sl := d.sliceEntry s
          let d := d.modNet (fun n => { n with joins := n.joins ++ [{ cycle := cg, stn := s, slice := sl, pos := stnOf h.src }] })
          let d := d.sendDispatch true true dst 4 (grantWords serial s sl cg) t
          (some (ans 0), d, mem)
        else (some (ans 0), d.noCapacity.sendDispatch true true dst 4 (grantWords serial 0 {} 0) t, mem)
      | none => (some (ans 0), d.noCapacity.sendDispatch true true dst 4 (grantWords serial 0 {} 0) t, mem))

/-- JOIN_START (R479): the device in RELAY is READY and LOCKED after eight good pennants: it sends JOIN with its serial
number and the STN it asks for. -/
def effJoinStart (t : Nat) (d : Dev) : Dev :=
  let d := d.netBegin
  if d.rd netState ≠ 1 ∨ !d.on devReady ∨ d.net.good < 8 ∨ d.rd timeState ≠ 2 then d
  else
    let keep := d.on netCfgRetainEn && d.on netRetainValid && d.rd netRetainSerial == d.rd devSerial && d.rd netRetainPos == d.rd netPos
      && segOf (d.rd netRetainAddr) == d.net.seg
    let stn := if keep then stnOf (d.rd netRetainAddr) else 0
    let d := d.sendDispatch false true (netAddress d.net.seg 0) 4 (joinWords (d.rd devSerial) stn) t
    (d.modNet (fun n => { n with joinAt := t })).setNetState 3 t

/-- The retransmission span in ns (R472). -/
def Dev.retxSpan (d : Dev) : Nat := d.rd netRetxT * 1000 * (d.rd netRetxN + 1)

/-- JOIN_TIMEOUT (R479): no GRANT within the span. -/
def effJoinTimeout (t : Nat) (d : Dev) : Dev :=
  let d := d.netBegin
  if d.rd netState = 3 ∧ d.net.grant = none ∧ d.net.joinAt + d.retxSpan ≤ t then d.toRelay t else d

/-- GRANT (R479): the joining device whose serial number matches keeps it until cycle C_g; CAPACITY returns it to step 1. -/
def effGrant (h : DispHdr) (serial stn : Nat) (sl : Slice) (cg : Nat) (capacity : Bool) (t : Nat) (mem : Mem) (d : Dev) : Dev × Mem :=
  d.receive h 4 (if capacity then grantWords serial 0 {} 0 else grantWords serial stn sl cg) t (stnOf h.src == 0 || h.unaddr) mem (fun d mem =>
    if d.rd netState ≠ 3 ∨ serial ≠ d.rd devSerial then (some (ans 0), d, mem)
    else if capacity then (some (ans 0), (d.wr netResult 21).toRelay t, mem)
    else (some (ans 0), d.modNet (fun n => { n with grant := some { cycle := cg, stn := stn, slice := sl, pos := d.rd netPos } }), mem))

/-- The device of a grant becomes ACTIVE in the gap before the SOP of cycle C_g (R479). -/
def Dev.takeGrant (d : Dev) (cycle t : Nat) : Dev :=
  match d.net.grant with
  | some g =>
    if d.rd netState = 3 ∧ g.cycle ≤ cycle then
      let addr := netAddress d.net.seg g.stn
      let d := (d.wr netAddrValid 1).wr netAddr addr
      let d := (((d.wr netRetainValid 1).wr netRetainPos (d.rd netPos)).wr netRetainAddr addr).wr netRetainSerial (d.rd devSerial)
      let d := (((d.wr netMyOutOff g.slice.outOff).wr netMyOutLen g.slice.outLen).wr netMyInOff g.slice.inOff).wr netMyInLen g.slice.inLen
      (d.modNet (fun n => { n with grant := none })).setNetState 4 t
    else d
  | none => d

/-- SLICE (R460): the entry that the station uses from a cycle on. -/
def effSlice (h : DispHdr) (sl : Slice) (cycle : Nat) (t : Nat) (mem : Mem) (d : Dev) : Dev × Mem :=
  d.receive h 4 (sliceWords sl cycle) t false mem (fun d mem =>
    if d.headLink h.link.val then (some (ans 16), d, mem)
    else (some (ans 0), d.modNet (fun n => { n with slices := n.slices ++ [(cycle, sl)] }), mem))

/-- The slices whose cycle has come take effect. -/
def Dev.takeSlices (d : Dev) (cycle : Nat) : Dev :=
  let d := (d.net.slices.filter (fun s => s.1 ≤ cycle)).foldl (fun d s =>
    (((d.wr netMyOutOff s.2.outOff).wr netMyOutLen s.2.outLen).wr netMyInOff s.2.inOff).wr netMyInLen s.2.inLen) d
  d.modNet (fun n => { n with slices := n.slices.filter (fun s => cycle < s.1) })

/-- NOTICE (R480): a broadcast of the head names an address as joined or left; a station's own notice of its departure
reaches the head. -/
def effNotice (h : DispHdr) (addr : Nat) (joined : Bool) (t : Nat) (mem : Mem) (d : Dev) : Dev × Mem :=
  d.receive h 4 (noticeWords addr joined) t (stnOf h.src == 0) mem (fun d mem =>
    if d.headLink h.link.val && !joined && segOf addr == d.rd netSeg && d.net.members.any (fun m => m.stn == stnOf addr) then
      (some (ans 0), d.stationLeft (stnOf addr) t, mem)
    else (some (ans 0), d.freeSource addr t, mem))

/-! ### Missing pennants (R480) -/

/-- Cycles since the last good pennant. -/
def Dev.missedCycles (d : Dev) (t : Nat) : Nat := (t - d.net.lastGood) / max (5 * d.net.period * d.net.ncyc) 1

/-- PENNANT_MISS (R480, R481): no good pennant for MISS_N cycles. -/
def effPennantMiss (t : Nat) (d : Dev) : Dev :=
  let d := d.netBegin
  let k := d.missedCycles t
  if d.rd netState = 4 ∧ d.rd netMissN ≤ k ∧ !d.isActive 0x6D02 0 then
    ((d.ev .net 1).modNet (fun n => { n with good := 0 })).raise 0x6D02 0 3 (min k 65535) t
  else d

/-- STATION_REJOIN (R480): no good pennant for 256 cycles. -/
def effStationRejoin (t : Nat) (d : Dev) : Dev :=
  let d := d.netBegin
  if d.rd netState = 4 ∧ 256 ≤ d.missedCycles t then d.toRelay t else d

/-! ### Folds (R477, R478, R481, R482) -/

/-- The position of the last station on line X once the ring is broken: every station up to it has been heard (R477, R481). -/
def Dev.lastOnX (d : Dev) : Nat :=
  if !d.linkUp d.lineX then 0
  else
    let gone := (d.net.members.filter (fun m => m.miss != 0)).map (·.pos)
    ((d.net.members.map (·.pos)).filter (fun p => gone.all (fun q => decide (p < q)))).foldl max 0

/-- RING_FOLD (R477): STANDBY ceased on the closing link, or ALIVE is missing, or line X is not UP at the head itself
(log entry 225): the ring is folded. -/
def effRingFold (t : Nat) (d : Dev) : Dev :=
  let d := d.netBegin
  let x := d.lineX
  let pos := d.lastOnX
  let broken := !d.on (lnkStandbyRx (mate x)) || d.net.members.any (fun m => m.miss != 0) || !d.linkUp x
  if !d.on netHeadSide || !d.on netRing || d.on netFolded || !broken then d
  else
    let d := (d.wr netFolded 1).modNet (fun n => { n with foldPos := pos % 256, restoredRun := 0, unfoldIn := none })
    let d := ((d.wr (lnkRole (mate x)) (if d.linkUp (mate x) then 4 else 0)).ev .net 4).note t 6 3 0 0x00D0 (2 ^ 8 + pos % 256)
    d.raise 0x6D03 0 3 (pos % 256) t

/-- RING_UNFOLD (R478): after 16 cycles of RESTORED on both sides with AUTO_UNFOLD. -/
def effRingUnfold (_t : Nat) (d : Dev) : Dev :=
  let d := d.netBegin
  if d.on netHeadSide && d.on netFolded && d.on netCfgAutoUnfold && decide (16 ≤ d.net.restoredRun) && d.net.unfoldIn.isNone then d.startUnfold
  else d

/-! ### Announced periods (R465) -/

/-- A head with SEG_TICK announces a committed period for the boundary 8 cycles later (TICK_ANNOUNCE). -/
def Dev.announce (d : Dev) (p src b : Nat) : Dev :=
  let time := d.sysTime b + (8 * ncycTicks (d.rd netNcyc) * d.tickNs : Nat)
  d.modNet (fun n => { n with headAnn := some { period := p, time := time.toNat, confirm := false, src := src } })

/-- ANNOUNCE_DECISION (R465): two cycles before ANN_TIME. The record 0x0180 of a refusal here carries the time of the
decision: R32 gives it the time of the commit boundary, and R465 does not say which boundary that is (DESIGN CHOICE, log
entry 198). -/
def effAnnounceDecision (t : Nat) (d : Dev) : Dev :=
  let d := d.netBegin
  match d.net.headAnn with
  | some a =>
    let cut : Int := (a.time : Int) - (2 * ncycTicks (d.rd netNcyc) * d.tickNs : Nat)
    if a.confirm ∨ d.sysTime t < cut then d
    else if d.net.members.all (fun m => bitAt m.word 31 && bitAt m.word 30) then
      d.modNet (fun n => { n with headAnn := some { a with confirm := true } })
    else (d.modNet (fun n => { n with headAnn := none })).refusePeriod a.period 5 a.src t
  | none => d

/-- ANNOUNCED_PERIOD_APPLY (R34, R465): at the boundary at ANN_TIME the head takes the period, and so does a station that saw
CONFIRM and has reported TICK_ACK; an announcement without CONFIRM is cleared and refused; a bridge is a station of its upstream segment. A period that does not pass R32 any more is
refused by the head (R32) and not taken by a station, which then differs from PERIOD. -/
def effAnnouncedApply (_t : Nat) (d : Dev) : Dev :=
  let d := d.netBegin
  let b := d.tickStart
  let here := fun (a : Announce) => decide ((a.time : Int) ≤ d.sysTime b) && decide (d.sysTime b < (a.time : Int) + 5)
  let take := fun (d : Dev) (a : Announce) =>
    let d := (d.takePeriod a.period b).restartDue b
    { d with nextTick := b + 5 * a.period }
  let d :=
    match d.net.headAnn with
    | some a =>
      if here a && a.confirm then
        let d := d.modNet (fun n => { n with headAnn := none })
        let why := d.periodBar a.period true
        if why = 0 then take d a else d.refusePeriod a.period why a.src b
      else if here a then (d.modNet (fun n => { n with headAnn := none })).refusePeriod a.period 5 a.src b
      else d
    | none => d
  match d.net.ann with
  | some a =>
    if here a then
      let d := if a.confirm && a.acked && d.rd netCfgRole != 1 && d.periodBar a.period true == 0 then take d a else d
      d.modNet (fun n => { n with ann := none })
    else d
  | none => d

/-- What a good pennant says of the tick period (R465). -/
def Dev.periodSeen (d : Dev) (f : List Nat) : Dev :=
  if !d.on timeSegTick then d
  else
    let d := if pwFlag f 2 then
        let same := fun (a : Announce) => a.time == pwAnnTime f && a.period == pwAnnPeriod f
        d.modNet (fun n => { n with ann := some { period := pwAnnPeriod f, time := pwAnnTime f,
                                                  confirm := pwFlag f 3 || ((n.ann.map (fun a => a.confirm && same a)).getD false),
                                                  acked := (n.ann.map (fun a => a.acked && same a)).getD false } })
      else
        match d.net.ann with
        | some a => if a.confirm then d else d.modNet (fun n => { n with ann := none })
        | none => d
    if d.rd timeTickPeriod = pwPeriod f ∨ d.net.ann.isSome then d
    else
      let d := d.when_ (d.rd timeState == 2 || d.rd timeState == 3) (fun d =>
        ({ d.wr timeState 1 with agree := 0 } : Dev).modNet (fun n => { n with offset := none, aligned := false }))
      d.modNet (fun n => { n with take := some (pwPeriod f) })

/-- At boundary b the station takes PERIOD when R32 passes there, and raises 0x6D08 otherwise (R465). -/
def Dev.takeSegPeriod (d : Dev) (b : Nat) : Dev :=
  match d.net.take with
  | some p =>
    let d := d.modNet (fun n => { n with take := none })
    if d.periodBar p true = 0 then d.takePeriod p b else d.raise 0x6D08 0 3 0 b
  | none => d

/-! ### The sender (R472) -/

/-- A frame that arrived on link m is for this device: at its address, or, while it has none, at its position (R454, R479). -/
def Dev.ackHere (d : Dev) (m dst : Nat) : Bool :=
  d.addressed m dst || (!d.headLink m && !d.on netAddrValid && dst == netAddress d.net.seg (d.rd netPos))

/-- The outstanding dispatches that q picks have ended, each followed by the next one that waits (R472). -/
def Dev.endOut (d : Dev) (q : OutDisp → Bool) (t : Nat) : Dev :=
  (d.net.out.filter q).foldl (fun d o =>
    (d.modNet (fun n => { n with out := n.out.filter (fun x => !(x.dst == o.dst && x.chan == o.chan)) })).sendNext o.dst o.chan t) d

/-- ACKNOWLEDGE (R467, R472): the outstanding dispatch to its source on the channel with that SEQ ends. -/
def effAcknowledge (h : DispHdr) (chan result : Nat) (words : List Nat) (t : Nat) (d : Dev) : Dev :=
  let (first, d) := d.arrive h true chan result words false
  if !first || !d.ackHere h.link.val h.dst then d
  else d.endOut (fun o => o.dst == h.src && o.chan == chan && o.seq == h.seq) t

/-- DISPATCH_RETRANSMIT (R472, R473): RETX_T after the last transmission, up to RETX_N times; a broadcast once. -/
def effRetransmit (dst chan : Nat) (t : Nat) (d : Dev) : Dev :=
  let d := d.netBegin
  match d.net.out.find? (fun o => o.dst == dst && o.chan == chan) with
  | some o =>
    let bc := stnOf dst == 255
    if t < o.at_ + d.rd netRetxT * 1000 ∨ d.rd netRetxN ≤ o.tries then d
    else
      let rest := d.net.out.filter (fun o => !(o.dst == dst && o.chan == chan))
      let d := d.modNet (fun n => { n with out := if bc then rest else rest ++ [{ o with tries := o.tries + 1, at_ := t }] })
      let d := (d.inc netDispRetx).each (d.linksTo (d.headLink o.link) dst) (fun m d =>
        d.transmit { link := m, kind := 3, chan := chan, seq := o.seq, sync := o.sync, dst := dst, src := o.src, unaddr := o.unaddr, words := o.words })
      d.when_ bc (fun d => d.sendNext dst chan t)
  | none => d

/-- DISPATCH_TIMEOUT (R472, R481): after RETX_N repeats the dispatch ends with TIMEOUT. -/
def effDispTimeout (dst chan : Nat) (t : Nat) (d : Dev) : Dev :=
  let d := d.netBegin
  match d.net.out.find? (fun o => o.dst == dst && o.chan == chan) with
  | some o =>
    if stnOf dst = 255 ∨ t < o.at_ + d.rd netRetxT * 1000 ∨ o.tries < d.rd netRetxN then d
    else
      let d := d.modNet (fun n =>
        { n with out := n.out.filter (fun o => !(o.dst == dst && o.chan == chan)),
                 seqs := n.seqs.map (fun s => if s.dst = dst ∧ s.chan = chan then { s with sync := true } else s) })
      ((({ d with answer := some (ans 18) } : Dev).ev .net 2).raise 0x6D05 0 3 (dst % 2 ^ 18 + chan % 16 * 2 ^ 20) t).sendNext dst chan t
  | none => d

end Sys2Proof.Machine
end

