-- ==== Sys2Proof/Machine/Firmware.lean ====
section
/-! DEFINITION. Meridian's mailbox (R487 to R489), the supervision of Almanac (R490 to R497) and the dispatches held for
it (R474, R493). -/
namespace Sys2Proof.Machine

/-! ### Dispatches held for Almanac (R474, R493) -/

/-- The queue of held dispatches; ALM_QUEUED reads its length. -/
def Dev.setAlmQueue (d : Dev) (l : List AlmItem) : Dev := (d.modNet (fun n => { n with alm := l })).wr almQueued l.length

/-- ALMANAC_SERVICE (R474, R493): a dispatch on channels 8 to 15 is queued, or answered NO_SERVICE or BUSY. -/
def effAlmanacService (h : DispHdr) (chan : Nat) (words : List Nat) (t : Nat) (mem : Mem) (d : Dev) : Dev × Mem :=
  d.receive h chan words t false mem (fun d mem =>
    if !d.on devAlmReady then (some (ans 15), d, mem)
    else if 32 ≤ d.net.alm.length then (some (ans 10), d, mem)
    else (none, d.setAlmQueue (d.net.alm ++ [{ link := h.link.val, src := h.key, chan := chan, seq := h.seq, words := words }]), mem))

/-- ALMANAC_ANSWER (R493): Almanac answers a held dispatch once. -/
def effAlmanacAnswer (src chan result : Nat) (words : List Nat) (_t : Nat) (d : Dev) : Dev :=
  let d := d.netBegin
  match d.net.alm.find? (fun a => a.src == src && a.chan == chan) with
  | some a =>
    let d := d.setAlmQueue (d.net.alm.filter (fun a => !(a.src == src && a.chan == chan)))
    d.giveAnswer a.link a.src a.chan a.seq { result := result, data := words }
  | none => d

/-- SERVICE_DIRECTORY (R493): an empty payload on channel 8 returns one word per channel that the running image serves, the
channel in [31:24] and the version in [23:0]. -/
def effServiceDirectory (h : DispHdr) (words : List Nat) (served : List (Nat × Nat)) (t : Nat) (mem : Mem) (d : Dev) : Dev × Mem :=
  d.receive h 8 words t false mem (fun d mem =>
    if !d.on devAlmReady then (some (ans 15), d, mem)
    else if 32 ≤ d.net.alm.length then (some (ans 10), d, mem)
    else if h.len ≠ 0 then (some (ans 16), d, mem)
    else (some { result := 0, data := served.map (fun p => p.1 % 256 * 2 ^ 24 + p.2 % 2 ^ 24) }, d, mem))

/-! ### Verification of a slot (R494, R495) -/

/-- KEY is valid: verifications are made (R92, R495). -/
def Dev.keyValid (d : Dev) : Bool := bitAt (d.rd otpValid) 3

/-- Check 1: MAGIC, FORMAT, LENGTH, ENTRY and the zero fields. -/
def Dev.containerOk (d : Dev) (w : Nat → Nat) : Bool :=
  let len := w 2
  w 0 == 0xB7A31C05 && w 1 == 1 && decide (4 ≤ len) && decide (len + 0xC0 ≤ d.rd almSlotMib * 2 ^ 20) && len % 4 == 0
    && w 3 % 4 == 0 && decide (w 3 < len) && decide (w 5 ≤ 1) && w 6 == 0 && w 7 == 0

/-- The cause of the first failing check of a slot (R495), 0 when it passes. -/
def Dev.verifyCause (d : Dev) (img : SlotImage) : Nat :=
  let w := fun i => img.words.getD i 0
  let part := fun o n => (img.words.drop o).take n
  let key := part 32 16
  let hash := (d.keys.drop (8 * (w 5 % 2))).take 8
  let digest := part 8 8
  if img.readErr then 5
  else if !d.containerOk w then 1
  else if sha256 key ≠ hash ∨ hash.all (· == 0) then 2
  else if digest ≠ sha256 (part 0 8 ++ part 48 (w 2 / 4)) then 3
  else if !ecdsaOk (bigEndian digest) (bigEndian (part 16 8)) (bigEndian (part 24 8)) (bigEndian (key.take 8)) (bigEndian (key.drop 8)) then 4
  else 0

/-- A verification of slot x ends with a cause: its registers, and the event and the report of a failure (R504, R507). -/
def Dev.noteVerify (d : Dev) (x c : Nat) (img : SlotImage) (t : Nat) : Dev :=
  if c = 0 then ((d.wr (almSlotCause x) 0).wr (almSlotVer x) (img.words.getD 4 0)).wr (almSlotLength x) (img.words.getD 2 0 / 256)
  else ((d.wr (almSlotCause x) c).ev .alm 2).raise 0x5E03 x 0 c t

/-! ### Stopping and starting (R492) -/

/-- Almanac runs: its core is released. -/
def Dev.almRuns (d : Dev) : Bool := !d.on almStopped

/-- Record 0x00F0 (R505). -/
def Dev.almNote (d : Dev) (started : Bool) (slot cause t : Nat) : Dev :=
  d.note t 5 0 0 0x00F0 ((if started then 2 ^ 8 else 0) + slot * 2 ^ 4 + cause)

/-- Steps 1 and 2 of R492: the core is held in reset, its expert areas close, every held dispatch is answered
SERVICE_RESTART. -/
def Dev.almDown (d : Dev) (cause t : Nat) : Dev :=
  let d := d.netBegin
  let d := d.when_ (d.on devAlmReady) (fun d => d.ev .dev 2)
  let d := (((d.wr devAlmReady 0).wr almRunning 0).wr almStopped 1).wr almCause cause
  let d := { d with alm := { d.alm with waiting := false, restart := false } }
  let d := d.closeExpert (fun r _ => r == .alm) t
  let held := d.net.alm
  let d := held.foldl (fun d a => (d.giveAnswer a.link a.src a.chan a.seq (ans 13)).inc almAnsweredRst) (d.setAlmQueue [])
  d.almNote false (d.rd almSlotAct) cause t

/-- Step 3: the code cache is invalid and the core is released at the image's entry. -/
def Dev.almRelease (d : Dev) (slot t : Nat) : Dev :=
  let d := ((d.wr almStopped 0).wr almSlotAct slot).wr almQuiet 0
  { d with alm := { d.alm with waiting := true, beat := t, cache := [] } }

/-- Meridian verifies a slot for a purpose. -/
def Dev.almVerify (d : Dev) (purpose slot : Nat) : Dev := { d with alm := { d.alm with purpose := purpose, slot := slot } }

/-! ### The mailbox (R487, R488) -/

/-- A mailbox command ends with a result. -/
def Dev.merEnd (d : Dev) (r : Nat) : Dev := ((d.wr merResult r).wr merBusy 0).ev .mer 0

/-- A mailbox command is refused. -/
def Dev.merRefuse (d : Dev) (r : Nat) : Dev := (d.wr merResult r).ev .mer 1

/-- Every axis of cluster c is OFF or in SERVICE. -/
def Dev.clusterIdle (d : Dev) (c : Nat) : Bool := (List.range 4).all (fun k => d.st (4 * c + k) == 0 || d.st (4 * c + k) == 7)

/-- Why a mailbox command is refused (R487, R488): 20 RANGE, 16 OWNER, 2 STATE. -/
def Dev.merBar (d : Dev) (r : Req) (cmd arg : Nat) : Option Nat :=
  let range := match cmd with
    | 1 => decide (5 < arg)
    | 2 | 3 => decide (1 < arg)
    | _ => arg != 0
  let state := match cmd with
    | 1 => d.clusterIdle arg
    | 2 => arg != d.rd almSlotAct || !d.almRuns
    | 3 => d.on devAlmReady || !d.almRuns
    | 4 | 5 => d.on almRunning
    | _ => !d.almRuns
  if cmd = 0 ∨ 6 < cmd then some 20
  else if r = .alm ∧ 2 ≤ cmd then some 16
  else if range then some 20
  else if !state then some 2
  else none

/-- A command is accepted: it becomes the last command, and Meridian runs it. -/
def Dev.merAccept (d : Dev) (r : Req) (cmd : Nat) : Dev :=
  (((d.wr merSource r.src).wr merLastCmd cmd).wr merResult 0).wr merBusy 1

/-- The switch has its quiet point, or gave up waiting: R492 with the slot named (R497). -/
def Dev.almSwitchOn (d : Dev) (t : Nat) : Dev :=
  if d.alm.quietAt.isNone then d
  else
    let d := { d.wr almQuietReq 0 with alm := { d.alm with quietAt := none } }
    (d.almDown 2 t).almVerify 3 d.alm.slot

/-- Run an accepted command (R487). -/
def Dev.merRun (d : Dev) (cmd arg t : Nat) : Dev :=
  match cmd with
  | 1 => d.wr merRecheck (setBit (d.rd merRecheck) arg)
  | 2 => d.almVerify 1 arg
  | 3 =>
    let d := (d.wr almQuietReq 1).ev .alm 0
    { d with alm := { d.alm with slot := arg, prev := d.rd almSlotAct, quietAt := some t } }
  | 4 => (d.almDown 3 t).almVerify 5 (d.rd almBootSlot)
  | 5 => (d.almDown 3 t).merEnd 1
  | _ => (d.almDown 3 t).almVerify 5 (d.rd almBootSlot)

/-- A write of MER_CMD (R487, R488). -/
def Dev.merCommand (d : Dev) (r : Req) (cmd arg t : Nat) : Dev :=
  if d.on merBusy then d.merRefuse 3
  else
    match d.merBar r cmd arg with
    | some why => ((d.wr merSource r.src).wr merLastCmd cmd).merRefuse why
    | none => (d.merAccept r cmd).merRun cmd arg t

/-- RECHECK (R489). -/
def effRecheck (r : Req) (c : Nat) (t : Nat) (d : Dev) : Dev := d.merCommand r 1 c t
/-- ALM_VERIFY (R487). -/
def effAlmVerify (r : Req) (slot : Nat) (t : Nat) (d : Dev) : Dev := d.merCommand r 2 slot t
/-- ALM_SWITCH (R497). -/
def effAlmSwitch (r : Req) (slot : Nat) (t : Nat) (d : Dev) : Dev := d.merCommand r 3 slot t
/-- ALM_RESTART (R492). -/
def effAlmRestart (r : Req) (t : Nat) (d : Dev) : Dev := d.merCommand r 4 0 t
/-- ALM_STOP (R492). -/
def effAlmStop (r : Req) (t : Nat) (d : Dev) : Dev := d.merCommand r 5 0 t
/-- ALM_START (R492). -/
def effAlmStart (r : Req) (t : Nat) (d : Dev) : Dev := d.merCommand r 6 0 t

/-- A check of start-up passed or failed when repeated (R93). -/
def Dev.recheckOne (d : Dev) (code inst : Nat) (failed : Bool) (t : Nat) : Dev :=
  if failed then d.raise code inst 0 0 t else d.endFault code inst t

/-- RECHECK_END (R489): the fine-delay calibration, the test of lane Lc, the test-DAC check of ADCc. -/
def effRecheckEnd (c : Nat) (fineFail laneFail dacFail : Bool) (t : Nat) (d : Dev) : Dev :=
  if !bitAt (d.rd merRecheck) c then d
  else
    let d := d.wr merRecheck (clearBit (d.rd merRecheck) c)
    let d := ((d.recheckOne 0x2122 c fineFail t).recheckOne 0x2141 c laneFail t).recheckOne 0x2124 c dacFail t
    let d := d.when_ (!dacFail) (fun d => d.endFault 0x5125 (c / 2) t)
    d.merEnd 1

/-! ### Almanac's own events (R491, R495, R497) -/

/-- ALMANAC_VERIFY_END (R495): the verification under way ends; what follows depends on what it was made for (R492, R497).
With the KEY region invalid no verification is made and Almanac never starts (R92). -/
def effVerifyEnd (img : SlotImage) (t : Nat) (d : Dev) : Dev :=
  let p := if d.alm.restart then 2 else d.alm.purpose
  if p = 0 then d
  else
    let x := if p = 2 then d.rd almBootSlot else d.alm.slot
    let c := d.verifyCause img
    let d := if d.keyValid then d.noteVerify x c img t else d
    let ok := d.keyValid && c == 0
    let d := if p = 2 then { d with alm := { d.alm with restart := false } } else d.almVerify 0 x
    match p with
    | 1 => d.merEnd (if ok then 1 else 22)
    | 2 => if ok then d.almRelease x t else d
    | 3 =>
      if ok then ((d.almRelease x t).wr almBootSlot x).merEnd 1
      else (d.almDown 2 t).almVerify 4 d.alm.prev
    | 4 => (if ok then d.almRelease x t else d).merEnd 22
    | _ => (if ok then d.almRelease x t else d).merEnd (if ok then 1 else 22)

/-- ALM_HEARTBEAT (R491, R492): only Almanac's write counts; the first one after a start sets ALM_READY. -/
def effHeartbeat (r : Req) (v : Nat) (t : Nat) (d : Dev) : Dev :=
  if r ≠ .alm ∨ !d.almRuns then d
  else
    let d := { d.wr almHeartbeat v with alm := { d.alm with beat := t } }
    if !d.alm.waiting then d
    else
      let d := { d with alm := { d.alm with waiting := false } }
      (((d.wr devAlmReady 1).wr almRunning 1).ev .dev 1).almNote true (d.rd almSlotAct) (d.rd almCause) t

/-- ALM_QUIET (R497): a write of ALM_QUIET; Almanac's write of 1 ends the wait of a switch. -/
def effQuiet (r : Req) (v : Nat) (t : Nat) (d : Dev) : Dev :=
  let d := d.wr almQuiet (v % 2)
  if r = .alm ∧ v % 2 = 1 then d.almSwitchOn t else d

/-- ALM_QUIET_TIMEOUT (R497). -/
def effQuietTimeout (t : Nat) (d : Dev) : Dev :=
  match d.alm.quietAt with
  | some q => if q + d.rd almQuietTmax * 1000000 ≤ t then d.almSwitchOn t else d
  | none => d

/-- A restart of cause 4 or 5, or the stop at the restart limit (R491). -/
def Dev.almFail (d : Dev) (cause t : Nat) : Dev :=
  let recent := d.alm.restarts.filter (fun r => decide (t < r + 60000000000))
  let slot := d.rd almSlotAct
  let d := { d with alm := { d.alm with restarts := recent } }
  if d.rd almRestartMax ≤ recent.length then (d.almDown 6 t).raise 0x5E02 slot 0 0 t
  else
    let d := { d with alm := { d.alm with restarts := recent ++ [t] } }
    let d := (((d.almDown cause t).inc almRestarts).ev .alm 1).raise 0x5E01 slot 0 cause t
    { d with alm := { d.alm with restart := true } }

/-- ALM_WATCHDOG (R491): no heartbeat for WDT ms. -/
def effWatchdog (t : Nat) (d : Dev) : Dev :=
  if d.almRuns && decide (d.alm.beat + d.rd almWdt * 1000000 ≤ t) then d.almFail 4 t else d

/-- ALM_CORE_EXCEPTION (R491). -/
def effCoreException (t : Nat) (d : Dev) : Dev := if d.almRuns then d.almFail 5 t else d

/-! ### The code cache (R490) -/

/-- Lines of the code cache: 256 KiB of 64 bytes. -/
def cacheLines : Nat := 4096

/-- A line enters the code cache; which one leaves a full cache is a free value (log entry 232). -/
def Dev.cacheLine (d : Dev) (line : Nat) (ws : List Nat) : Dev :=
  if d.alm.cache.length < cacheLines then { d with alm := { d.alm with cache := d.alm.cache ++ [(line, ws)] } }
  else
    let (v, d) := d.free
    { d with alm := { d.alm with cache := d.alm.cache.eraseIdx (v % cacheLines) ++ [(line, ws)] } }

/-- Almanac fetches code at an external address (R422, R490): a valid line of the cache serves it; otherwise its 64 bytes are
fetched as a window line fetch, and a read error ends in a core exception. -/
def effCodeFetch (x : Nat) (dqs : Bool) (line : List Nat) (t : Nat) (d : Dev) : Dev :=
  let base := x / 64 * 64
  let q := portOf x
  let p := d.smpOf q
  if !d.almRuns || d.alm.cache.any (fun l => l.1 == base) then d
  else if !d.serves q || !d.extOk base 64 then effCoreException t (d.lineFails q x 3 t)
  else if p.cur.isSome ∧ p.cur ≠ some (.fetch base) then d.askLine q base
  else
    let d := d.modSmp q (fun p => { p with cur := none, fetches := p.fetches.filter (· != base), ops := [d.busOp q base 64 false] })
    if dqs && d.on (smpHwMode q) then effCoreException t (d.lineFails q x 2 t)
    else d.cacheLine base ((List.range 16).map (fun i => line.getD i 0 % 2 ^ 32))

/-- WINDOW_LINE_FETCH (R421, R490): of a window read, or of Almanac's code cache. -/
def effLine (a n : Nat) (dqs : Bool) (line : List Nat) (code : Bool) (t : Nat) (d : Dev) : Dev :=
  if code then effCodeFetch a dqs line t d else effLineFetch a n dqs line t d

/-- ALMANAC_IMAGE_VERIFIED (R80, R496): step 7 ends with the boot slot, else the other slot, verified and started, or with
0x5150. Step 1 of R492 is run as at every start, with its record. -/
def effImageVerified (boot other : SlotImage) (t : Nat) (d : Dev) : Dev :=
  if d.stepsDone ≠ 6 ∨ !d.keyValid then d
  else
    let d := (({ d with stepsDone := 7 } : Dev).wr devStartupStep 8).almDown 1 t
    let x := d.rd almBootSlot
    let c := d.verifyCause boot
    let d := d.noteVerify x c boot t
    if c = 0 then d.almRelease x t
    else
      let c := d.verifyCause other
      let d := d.noteVerify (1 - x) c other t
      if c = 0 then d.almRelease (1 - x) t else d.raise 0x5150 0 0 0 t

end Sys2Proof.Machine
end

