-- ==== Sys2Proof/Machine/Persist.lean ====
section
/-! DEFINITION. The one-time-programmable memory (R509 to R518), the parameter store (R519 to R527) and the persistence
engine that runs their commands one at a time (R515). -/
namespace Sys2Proof.Machine

/-! ### Rows and regions (R509, R510, R512, R513, R517) -/

/-- A reading of a physical row that differs from its burned bits in a weak row: row, normal, low, high. -/
abbrev RowRead := Nat × Nat × Nat × Nat

/-- Rows of a physical array. -/
def otpRows : Nat := 138

/-- The three readings of every row: the burned bits, or what the margins give where a reading is listed. -/
def readRows (nv : NonVol) (weak : List RowRead) : Tab Nat (Nat × Nat × Nat) :=
  (List.range otpRows).filterMap (fun r =>
    match weak.find? (fun o => o.1 == r) with
    | some (_, n, l, h) => some (r, n % 2 ^ 256, l % 2 ^ 256, h % 2 ^ 256)
    | none =>
      match tabGet nv.fuses r with
      | some v => some (r, v, v, v)
      | none => none)

/-- The last reading of a physical row. -/
def Dev.rowRead (d : Dev) (r : Nat) : Nat × Nat × Nat := (tabGet d.otpReads r).getD (0, 0, 0)

/-- A row whose three reads agree is good (R513). -/
def Dev.rowWeak (d : Dev) (r : Nat) : Bool :=
  let x := d.rowRead r
  x.1 != x.2.1 || x.1 != x.2.2

/-- Bits of a copy of the redirection table. -/
def Dev.tableCopies (d : Dev) : List Nat :=
  let a := (d.rowRead 136).1
  let b := (d.rowRead 137).1
  [a % 2 ^ 128, a / 2 ^ 128, b % 2 ^ 128]

/-- The majority of three words. -/
def majority (a b c : Nat) : Nat := (a &&& b) ||| (a &&& c) ||| (b &&& c)

/-- The majority entries of the table (R512). -/
def Dev.majorEntries (d : Dev) : List Nat :=
  match d.tableCopies with
  | [a, b, c] => (List.range 8).map (fun i => bitsAt (majority a b c) (16 * i) 16)
  | _ => []

/-- The entries in use, in their order: entry number, row, spare. -/
def usedEntries : Nat → List (Nat × Nat × Nat) → List Nat → List (Nat × Nat × Nat)
  | _, acc, [] => acc
  | i, acc, e :: es =>
    let row := e % 128
    let sp := bitsAt e 12 3
    if bitAt e 15 ∧ row ≤ 119 ∧ !acc.any (fun x => x.2.1 == row || x.2.2 == sp) then usedEntries (i + 1) (acc ++ [(i, row, sp)]) es
    else usedEntries (i + 1) acc es

/-- The redirections in force: entry number, row, spare. -/
def Dev.redirects (d : Dev) : List (Nat × Nat × Nat) := usedEntries 0 [] d.otpTable

/-- The physical row of a logical row. -/
def Dev.physRow (d : Dev) (r : Nat) : Nat :=
  match d.redirects.find? (fun x => x.2.1 == r) with
  | some (_, _, sp) => 128 + sp
  | none => r

/-- First row and number of rows of a region. -/
def regionRows (i : Nat) : Nat × Nat :=
  match i with
  | 0 => (0, 16) | 1 => (16, 16) | 2 => (32, 16) | 3 => (48, 8) | 4 => (56, 8) | 5 => (64, 56)
  | _ => (120, 8)

/-- The region of a logical row. -/
def rowRegion (r : Nat) : Nat := ((List.range 6).find? (fun i => decide ((regionRows i).1 ≤ r) && decide (r < (regionRows i).1 + (regionRows i).2))).getD 6

/-- The rows of a region. -/
def rowsOf (i : Nat) : List Nat := (List.range (regionRows i).2).map (· + (regionRows i).1)

/-- The words of a row. -/
def rowWords (v : Nat) : List Nat := (List.range 8).map (fun w => bitsAt v (32 * w) 32)

/-- The words of a region by the normal read. -/
def Dev.regionWords (d : Dev) (i : Nat) : List Nat := (rowsOf i).flatMap (fun r => rowWords (d.rowRead (d.physRow r)).1)

/-- The region passes its CRC (R510). -/
def Dev.regionOk (d : Dev) (i : Nat) : Bool :=
  let ws := d.regionWords i
  crcWords (ws.take (ws.length - 1)) == ws.getD (ws.length - 1) 0

/-- The weak rows of a region. -/
def Dev.weakRows (d : Dev) (i : Nat) : List Nat := (rowsOf i).filter (fun r => d.rowWeak (d.physRow r))

/-- Region i is locked (R517): a bit of its lock row reads 1 in any of the three reads. -/
def Dev.regionLocked (d : Dev) (i : Nat) : Bool :=
  let x := d.rowRead (120 + i)
  x.1 != 0 || x.2.1 != 0 || x.2.2 != 0

/-- Every row is read again (R514): the page shows the new content; the region states stand. -/
def Dev.reread (d : Dev) (weak : List RowRead) : Dev :=
  let d := { d with otpReads := readRows d.nv weak }
  let d := { d with otpTable := d.majorEntries }
  (d.wr otpLocked (maskOf ((List.range 6).filter d.regionLocked))).wr otpSparesFree (8 - d.redirects.length)

/-- Burn bits of a physical row: a bit turns to 1 and never back (R509). -/
def NonVol.burn (nv : NonVol) (row bits : Nat) : NonVol :=
  { nv with fuses := tabSet nv.fuses row ((tabGet nv.fuses row).getD 0 ||| bits % 2 ^ 256) }

/-- Burn bits of a physical row. -/
def Dev.burn (d : Dev) (row bits : Nat) : Dev := { d with nv := d.nv.burn row bits }

/-! ### The persistence engine (R515, R522) -/

/-- A command of either page runs. -/
def Dev.persistBusy (d : Dev) : Bool := d.on otpBusy || d.on pstBusy

/-- The staged range of n words at a byte address lies in one bank that master m owns (R395, R516, R524). -/
def Dev.staged (d : Dev) (m a n : Nat) : Bool :=
  n == 0 || (decide (a + 4 * n ≤ memSize) && bankOf a == bankOf (a + 4 * n - 1) && d.owner (bankOf a) == m && d.rd (bnkPstate (bankOf a)) == 0)

/-- An OTP command or raw burn is refused. -/
def Dev.otpRefuse (d : Dev) (r : Nat) : Dev := (d.wr otpResult r).ev .otp 1

/-- Words of a region's staged image: all but the CRC word. -/
def imageLen (region : Nat) : Nat := 8 * (regionRows region).2 - 1

/-- Why an OTP command is refused (R515, R516). -/
def Dev.otpBar (d : Dev) (r : Req) (cmd region : Nat) : Option Nat :=
  if !d.pins.vok then some 23
  else if 5 < region ∧ cmd ≠ 4 then some 20
  else
    match cmd with
    | 1 =>
      if d.regionLocked region then some 29
      else if (rowsOf region).any (fun x => d.rowRead (d.physRow x) != (0, 0, 0)) then some 2
      else if region ≤ 1 then some 20
      else if !d.staged r.master (4 * d.rd otpSrc) (imageLen region) then some 16
      else none
    | 2 => if (d.weakRows region).isEmpty then some 2 else none
    | 3 =>
      if d.regionLocked region then some 2
      else if !d.regionOk region then some 27
      else if !(d.weakRows region).isEmpty then some 28
      else none
    | _ => none

/-- A write of OTP_CMD (R515, R516): other codes are ignored. -/
def Dev.otpCommand (d : Dev) (mem : Mem) (r : Req) (cmd region t : Nat) : Dev :=
  if cmd = 0 ∨ 4 < cmd then d
  else if d.persistBusy then d.otpRefuse 3
  else
    let d := (d.wr otpSource r.src).wr otpLastCmd cmd
    match d.otpBar r cmd region with
    | some why => d.otpRefuse why
    | none =>
      let (img, d) := if cmd = 1 then d.readBuf mem r.master t (4 * d.rd otpSrc) (imageLen region) else ([], d)
      let d := (d.wr otpResult 0).wr otpBusy 1
      { d with eng := { cmd := cmd, region := region, image := img } }

/-- PROGRAM (R516). -/
def effProgram (r : Req) (region : Nat) (t : Nat) (mem : Mem) (d : Dev) : Dev := d.otpCommand mem r 1 region t
/-- REBURN (R516). -/
def effReburn (r : Req) (region : Nat) (t : Nat) (mem : Mem) (d : Dev) : Dev := d.otpCommand mem r 2 region t
/-- LOCK (R516). -/
def effLock (r : Req) (region : Nat) (t : Nat) (mem : Mem) (d : Dev) : Dev := d.otpCommand mem r 3 region t
/-- CHECK (R516). -/
def effCheck (r : Req) (t : Nat) (mem : Mem) (d : Dev) : Dev := d.otpCommand mem r 4 0 t

/-- The fuses were burned: record 0x0130 (R529). -/
def Dev.burnNote (d : Dev) (inst row cmd t : Nat) : Dev := d.note t 5 10 inst 0x0130 (row % 256 * 2 ^ 8 + cmd)

/-- A row of eight words as bits. -/
def rowBits (ws : List Nat) : Nat := (ws.take 8).reverse.foldl (fun v w => v * 2 ^ 32 + w % 2 ^ 32) 0

/-- Burn a region's image and its CRC, row by row. -/
def Dev.burnRegion (d : Dev) : List Nat → List Nat → Dev
  | [], _ => d
  | r :: rs, ws => Dev.burnRegion (d.burn (d.physRow r) (rowBits ws)) rs (ws.drop 8)

/-- A still weak row is copied into the lowest free spare row and redirected in all three copies of the lowest free entry
(R512, R516); nothing without a spare and an entry, nor for a row that is redirected already, since a second entry would not be
used. The burned row. -/
def Dev.redirectRow (d : Dev) (r : Nat) : Option (Nat × Dev) :=
  let spare := (List.range 8).find? (fun s => !d.redirects.any (fun x => x.2.2 == s))
  let entry := (List.range 8).find? (fun i => d.otpTable.getD i 0 == 0)
  if d.redirects.any (fun x => x.2.1 == r) then none
  else
  match spare, entry with
  | some s, some i =>
    let e := 2 ^ 15 + s * 2 ^ 12 + r
    let d := d.burn (128 + s) (d.rowRead (d.physRow r)).1
    let d := (d.burn 136 (e * 2 ^ (16 * i) + e * 2 ^ (128 + 16 * i))).burn 137 (e * 2 ^ (16 * i))
    some (137, { d with otpTable := d.otpTable.set i e })
  | _, _ => none

/-- Redirect the weak rows of a list, as far as spares and entries go; the last row burned. -/
def Dev.redirectAll (d : Dev) (last : Nat) : List Nat → Nat × Dev
  | [] => (last, d)
  | r :: rs =>
    match d.redirectRow r with
    | some (row, d) => d.redirectAll row rs
    | none => d.redirectAll last rs

/-- An OTP command ends. -/
def Dev.otpEnd (d : Dev) (r : Nat) : Dev := ({ (d.wr otpResult r).wr otpBusy 0 with eng := {} } : Dev).ev .otp 0

/-- CHECK's reports (R516, R528). -/
def Dev.checkReports (d : Dev) (t : Nat) : Dev :=
  let bad := (List.range 6).filter (fun i => !d.regionOk i)
  let weak := (List.range 128).filter (fun r => d.rowWeak (d.physRow r))
  let d := d.wrB otpChkFail !bad.isEmpty
  let d := if bad.isEmpty && weak.isEmpty then d else d.ev .otp 2
  let d := d.each bad (fun i d => d.raise 0x5F02 i 10 i t)
  d.each weak (fun r d => d.raise 0x5F03 r 10 (d.physRow r) t)

/-- OTP_COMMAND_END (R516): the command under way completes; `weak` lists the rows whose margins read differently from
their burned bits after the pulses. -/
def effOtpEnd (weak : List RowRead) (t : Nat) (d : Dev) : Dev :=
  let g := d.eng.region
  match d.eng.cmd with
  | 1 =>
    let ws := d.eng.image
    let d := (d.burnRegion (rowsOf g) (ws ++ [crcWords ws])).reread weak
    let d := d.burnNote g (d.physRow ((regionRows g).1 + (regionRows g).2 - 1)) 1 t
    d.otpEnd (if d.regionOk g && (d.weakRows g).isEmpty then 1 else 24)
  | 2 =>
    let pulsed := (d.weakRows g).map d.physRow
    let d := d.each pulsed (fun r d => d.burn r (d.rowRead r).1)
    let d := d.reread weak
    let (last, d) := if d.regionLocked g then (pulsed.getLastD 0, d) else d.redirectAll (pulsed.getLastD 0) (d.weakRows g)
    let d := (d.reread weak).burnNote g last 2 t
    d.otpEnd (if (d.weakRows g).isEmpty then 1 else 28)
  | 3 =>
    let d := (d.burn (120 + g) (2 ^ 256 - 1)).reread weak
    (d.burnNote g (120 + g) 3 t).otpEnd 1
  | 4 => ((d.reread weak).checkReports t).otpEnd 1
  | _ => d

/-- R517 covers a raw burn of bits in a physical row: a row of a locked region, the spare that replaces one, or a table
entry that redirects one. -/
def Dev.rawLocked (d : Dev) (row bits : Nat) : Bool :=
  let lockedRow := fun (r : Nat) => decide (rowRegion r < 6) && d.regionLocked (rowRegion r)
  if row < 120 then lockedRow row
  else if row < 128 then false
  else if row < 136 then d.redirects.any (fun x => x.2.2 == row - 128 && lockedRow x.2.1)
  else
    (List.range 16).any (fun j =>
      let add := bitsAt bits (16 * j) 16
      let now := bitsAt (d.rowRead row).1 (16 * j) 16
      let e := now ||| add
      add != 0 && ((bitAt e 15 && decide (e % 128 ≤ 119) && lockedRow (e % 128)) || d.redirects.any (fun x => x.1 == j % 8 && lockedRow x.2.1)))

/-- OTP_RAW_GO (R518): burn the bits of OTP_RAW_DATA in row OTP_RAW_ROW. -/
def Dev.otpRaw (d : Dev) (r : Req) (weak : List RowRead) (t : Nat) : Dev :=
  let row := d.rd otpRawRow
  let bits := rowBits ((List.range 8).map (fun w => d.rd (otpRawData w)))
  if d.persistBusy then d.otpRefuse 3
  else
    let d := (d.wr otpSource r.src).wr otpLastCmd 5
    if !d.pins.vok then d.otpRefuse 23
    else if otpRows ≤ row then d.otpRefuse 20
    else if d.rawLocked row bits then d.otpRefuse 29
    else ((((d.burn row bits).reread weak).burnNote 7 row 5 t).wr otpResult 1).ev .otp 0

/-! ### Images of the parameter store (R519, R520) -/

/-- The words of an image. -/
def imageOf (gen : Nat) (records : List (Nat × Nat)) : List Nat :=
  let ws := [0x70531A8E, 1, gen, records.length] ++ records.flatMap (fun p => [p.1, p.2])
  ws ++ [crcWords ws]

/-- Pair up the words of a record list. -/
def pairUp : List Nat → List (Nat × Nat)
  | a :: b :: rest => (a, b) :: pairUp rest
  | _ => []

/-- Generation and records of a valid half; none when the half is invalid (R519). -/
def halfImage (ws : List Nat) : Option (Nat × List (Nat × Nat)) :=
  let n := ws.getD 3 0
  let k := 4 + 2 * n
  if ws.getD 0 0 = 0x70531A8E ∧ ws.getD 1 0 = 1 ∧ ws.getD 2 0 ≠ 0 ∧ n ≤ 32765 ∧ k < ws.length ∧ crcWords (ws.take k) = ws.getD k 0 then
    some (ws.getD 2 0, pairUp ((ws.take k).drop 4))
  else none

/-- The image of half h. -/
def Dev.half (d : Dev) (h : Nat) : Option (Nat × List (Nat × Nat)) := halfImage (d.nv.halves.getD h [])

/-- KIND of a record. -/
def recKind (w : Nat) : Nat := bitsAt w 30 2
/-- PAGE of a field record. -/
def recPage (w : Nat) : Nat := bitsAt w 12 12
/-- OFFSET of a field record. -/
def recOffset (w : Nat) : Nat := bitsAt w 0 12
/-- Bank, spare and row of a remap record. -/
def recRemap (w : Nat) : Nat × Nat × Nat := (bitsAt w 12 5, bitsAt w 8 2, bitsAt w 0 7)

/-- One record replaces another (R523). -/
def recSame (a b : Nat) : Bool :=
  recKind a == recKind b &&
    match recKind a with
    | 0 => recPage a == recPage b && recOffset a == recOffset b
    | 1 => (recRemap a).1 == (recRemap b).1 && (recRemap a).2.2 == (recRemap b).2.2
    | _ => false

/-- Within a list the later of two replacing records is kept. -/
def keepLater : List (Nat × Nat) → List (Nat × Nat)
  | [] => []
  | r :: rs => if rs.any (fun x => recSame x.1 r.1) then keepLater rs else r :: keepLater rs

/-- Word 0 of a field record. -/
def fieldRec (page off : Nat) : Nat := page * 2 ^ 12 + off

/-- The remaps in use: one record for each valid spare row. -/
def Dev.remapRecords (d : Dev) : List (Nat × Nat) :=
  (List.range 32).flatMap (fun b =>
    (List.range 4).flatMap (fun s =>
      match (d.mbank b).spares.getD s none with
      | some (row, _) => [(2 ^ 30 + b * 2 ^ 12 + s * 2 ^ 8 + row, 0)]
      | none => []))

/-- The automatic records (R523). -/
def Dev.autoRecords (d : Dev) : List (Nat × Nat) :=
  [(fieldRec 0x014 0x060, d.rd netRetainValid * 2 ^ 31 + d.rd netRetainPos * 2 ^ 18 + d.rd netRetainAddr),
   (fieldRec 0x014 0x068, d.rd netRetainSerial % 2 ^ 32),
   (fieldRec 0x014 0x06C, d.rd netRetainSerial / 2 ^ 32),
   (fieldRec 0x00C 0x044, d.rd almIrqEn * 2 ^ 31 + d.rd almBootSlot * 2 ^ 28 + d.rd almSlotMib * 2 ^ 24 + d.rd almRestartMax * 2 ^ 20
      + d.rd almQuietTmax * 2 ^ 10 + d.rd almWdt)] ++
  if d.on bnkModeRemapStore then d.remapRecords else []

/-- The records of a new image (R523). -/
def Dev.newRecords (d : Dev) (merge : Bool) (staged : List (Nat × Nat)) : List (Nat × Nat) :=
  let st := keepLater staged
  let auto := d.autoRecords
  let kept := if merge then d.image.filter (fun r => recKind r.1 != 1 && !(st ++ auto).any (fun x => recSame x.1 r.1)) else []
  kept ++ st ++ auto

/-- A staged record is well formed (R520, R524). -/
def recordOk (r : Nat × Nat) : Bool :=
  match recKind r.1 with
  | 0 => (pageAt (recPage r.1)).isSome && recOffset r.1 % 4 == 0 && decide (0x040 ≤ recOffset r.1)
  | 1 => true
  | _ => false

/-- The first record of a list that is not, counted from k. -/
def firstBadRecord : Nat → List (Nat × Nat) → Option Nat
  | _, [] => none
  | k, r :: rs => if recordOk r then firstBadRecord (k + 1) rs else some k

/-! ### STORE (R522 to R526) -/

/-- The generation of a new image: one higher than the larger valid one, or 1. -/
def Dev.nextGen (d : Dev) : Nat := max ((d.half 0).map Prod.fst |>.getD 0) ((d.half 1).map Prod.fst |>.getD 0) + 1

/-- The target half: the invalid one when only one is valid, else the half not in force. -/
def Dev.targetHalf (d : Dev) : Nat :=
  match (d.half 0).isSome, (d.half 1).isSome with
  | true, false => 1
  | false, true => 0
  | _, _ => 1 - d.rd pstHalfAct

/-- A STORE is refused. -/
def Dev.pstRefuse (d : Dev) (r : Nat) : Dev := (d.wr pstResult r).ev .pst 1

/-- The staged records, read from their bank. -/
def Dev.readStage (d : Dev) (mem : Mem) (m t : Nat) : List (Nat × Nat) × Dev :=
  let (ws, d) := d.readBuf mem m t (4 * d.rd pstStage) (2 * d.rd pstLen)
  (pairUp ws, d)

/-- A write of PST_CMD (R515, R522 to R524): only STORE; other codes are ignored. -/
def Dev.pstCommand (d : Dev) (mem : Mem) (r : Req) (cmd : Nat) (merge : Bool) (t : Nat) : Dev :=
  if cmd ≠ 1 then d
  else if d.persistBusy then d.pstRefuse 3
  else if !d.pins.vok then d.pstRefuse 23
  else if !d.staged r.master (4 * d.rd pstStage) (2 * d.rd pstLen) then d.pstRefuse 16
  else
    let (st, d) := d.readStage mem r.master t
    match firstBadRecord 0 st with
    | some k => (d.wr pstIndex k).pstRefuse 25
    | none =>
      let gen := d.nextGen
      if 0xFFFFFFFE < gen ∨ 32765 < (d.newRecords merge st).length then d.pstRefuse 20
      else
        let d := (((d.wr pstResult 0).wr pstBusy 1).wr pstCopied 0).wr pstIndex 0
        { d with eng := { cmd := 6, half := d.targetHalf, gen := gen, region := r.master, image := if merge then [1] else [] } }

/-- STORE (R523). -/
def effStore (r : Req) (merge : Bool) (t : Nat) (mem : Mem) (d : Dev) : Dev := d.pstCommand mem r 1 merge t

/-- A STORE ends. -/
def Dev.pstEnd (d : Dev) (r : Nat) : Dev := ({ (d.wr pstResult r).wr pstBusy 0 with eng := {} } : Dev).ev .pst 0

/-- Which halves are valid now. -/
def Dev.syncHalves (d : Dev) : Dev := (d.wrB pstValid0 (d.half 0).isSome).wrB pstValid1 (d.half 1).isSome

/-- A STORE fails (R525): the previous generation stays in force. -/
def Dev.pstFail (d : Dev) (r t : Nat) : Dev :=
  let h := d.eng.half
  ((d.pstEnd r).ev .pst 2).raise 0x5F01 h 10 r t

/-- STORE_COPY_END (R525): the staging range has been read, COPIED is set, and the write of the target half begins, which
is invalid until its MAGIC is written (R526). -/
def effStoreCopied (t : Nat) (mem : Mem) (d : Dev) : Dev :=
  if d.eng.cmd ≠ 6 ∨ d.on pstCopied then d
  else
    let h := d.eng.half
    let (st, d) := d.readStage mem d.eng.region t
    match firstBadRecord 0 st with
    | some k => (((d.wr pstIndex k).wr pstBusy 0).pstRefuse 25 : Dev) |> fun d => { d with eng := {} }
    | none =>
      let recs := d.newRecords (!d.eng.image.isEmpty) st
      if 32765 < recs.length then ((d.wr pstBusy 0).pstRefuse 20 : Dev) |> fun d => { d with eng := {} }
      else
        let d := { d.wr pstCopied 1 with eng := { d.eng with records := recs } }
        let d := { d with nv := { d.nv with halves := d.nv.halves.set h [], writes := d.nv.writes.modify h (· + 1) } }
        (d.syncHalves.wr pstWrites0 (d.nv.writes.getD 0 0)).wr pstWrites1 (d.nv.writes.getD 1 0)

/-- After a completed STORE exactly the remaps that it carried are held in the parameter store (R412, R415). -/
def Dev.keepRemaps (d : Dev) (recs : List (Nat × Nat)) : Dev :=
  let held := (recs.filter (fun r => recKind r.1 == 1)).map (fun r => recRemap r.1)
  d.each (List.range 32) (fun b d => d.modMbank b (fun x =>
    { x with spares := (List.range x.spares.length).map (fun s => ((x.spares[s]?).getD none).map (fun v => (v.1, held.contains (b, s, v.1)))) }))

/-- STORE_VERIFY_END (R525): the read-back check of the target half passes, or fails. -/
def effStoreVerified (good : Bool) (t : Nat) (d : Dev) : Dev :=
  if d.eng.cmd ≠ 6 ∨ !d.on pstCopied then d
  else
    let e := d.eng
    if !good then d.pstFail 24 t
    else
      let d := { d with nv := { d.nv with halves := d.nv.halves.set e.half (imageOf e.gen e.records) }, image := e.records }
      let d := d.syncHalves.keepRemaps e.records
      let d := ((d.wr pstGenOther ((d.half (1 - e.half)).map Prod.fst |>.getD 0)).wr pstGen e.gen).wr pstHalfAct e.half
      let d := (d.wr pstLastT t).note t 5 10 e.half 0x0120 (min e.records.length 65535 * 2 ^ 16 + e.gen % 2 ^ 16)
      d.pstEnd 1

/-- VOK_FALL (R522): a running STORE is abandoned at once. -/
def effVokFall (t : Nat) (d : Dev) : Dev :=
  let d := { d with pins := { d.pins with vok := false } }
  if d.eng.cmd = 6 then d.pstFail 23 t else d

/-- VOK_RISE (R522). -/
def effVokRise (_t : Nat) (d : Dev) : Dev := { d with pins := { d.pins with vok := true } }

/-- PARAMETER_STORE_DISPATCH (R527): the three words of a channel 1 dispatch are judged as writes of the network requester
to the PST page, and PST_RESULT is answered at once. -/
def effPstDispatch (h : DispHdr) (words : List Nat) (t : Nat) (mem : Mem) (d : Dev) : Dev × Mem :=
  d.receive h 1 words t false mem (fun d mem =>
    let w := words.getD 0 0
    if h.len ≠ 12 ∨ words.length ≠ 3 ∨ w % 256 ≠ 1 then (some (ans 16), d, mem)
    else
      let d := (d.wr pstStage (words.getD 1 0 / 4)).wr pstLen (words.getD 2 0)
      let d := d.pstCommand mem h.req 1 (bitAt w 8) t
      (some { result := 0, data := [d.rd pstResult] }, d, mem))

end Sys2Proof.Machine
end

