-- ==== Sys2Proof/Machine/AxisCommand.lean ====
section
/-! DEFINITION. The axis commands of AXB_CMD (R293 to R299): the write, the judgement at the boundary, and the commands
that the curve block issues (R331). -/
namespace Sys2Proof.Machine

/-- AXB_CMD_RESULT takes a command's code and outcome together (R293). -/
def Dev.axbAnswer (d : Dev) (n code result : Nat) : Dev := (d.wr (axbLastCmd n) code).wr (axbResult n) result

/-- A command is refused (R293, R302): the result, the event, record 0x0170. -/
def Dev.axbRefuse (d : Dev) (n code result src t : Nat) : Dev :=
  ((d.axbAnswer n code result).ev (.axb n) 2).note t 1 src n 0x0170 (code + result * 2 ^ 8)

/-- A write of a command code to AXB_CMD (R293): codes 1 to 9; it becomes pending, or is refused with BUSY. -/
def Dev.axbCommand (d : Dev) (n code src t : Nat) : Dev :=
  if code = 0 ∨ 9 < code then d
  else
    match (d.ax n).cmd with
    | some _ => d.axbRefuse n code 3 src t
    | none => (d.axbAnswer n code 0).modAx n (fun a => { a with cmd := some { code := code, at_ := t, src := src } })

/-! ### Arming (R294) -/

/-- Enable and supply (R26, R101). -/
def Dev.armSupply (d : Dev) (n : Nat) : Bool :=
  d.enabled n && !d.on (drvTrip n) &&
    (if n < 16 then bitAt d.pins.vgd (n / 4) && (d.ax n).bootOk && d.on (pwdVbusOk (n / 4))
     else !bitAt d.pins.xflt (n - 16) && bitAt (d.rd xstVbusOk) (n - 16))

/-- Parameters (R164, R205, R222, R271). -/
def Dev.armParams (d : Dev) (n : Nat) : Bool :=
  let src := d.rd (focAngleSrc n)
  d.on (focILimAct n)
    && !((src == 0 || src == 3) && !d.on (focEcounts n))
    && !(src == 1 && (!d.parValid n || !d.on (obsG2 n) || !d.on (obsPllKp n) || (!d.on (obsStartMode n) && !d.on (obsIStart n))))
    && !(src == 3 && d.rd (fbMode (d.rd (fbCommPort n))) != 2)
    && !(decide (16 ≤ n) && (!d.on (curFsU n) || !d.on (curFsV n) || !d.on (curFsW n) || !d.on (curFsLink n)))

/-- Offsets and converter bank, with the start-up checks of both (R92, R133, R184, R294). -/
def Dev.armConverter (d : Dev) (n : Nat) : Bool :=
  let c := n / 4
  !d.isActive 0x1123 n && !d.isActive 0x1403 n && !d.isActive 0x4151 c && decide (d.rd (adcMode c) ≤ 1)
    && !d.isActive 0x2121 c && !d.isActive 0x2124 c && !d.isActive 0x5125 (c / 2)

/-- The start-up faults that bar the axis and concern neither offsets nor its converter bank (R92). -/
def Dev.armBarred (d : Dev) (n : Nat) : Bool :=
  let c := n / 4
  d.isActive 0x5103 0 || d.isActive 0x2122 c || d.isActive 0x2141 c || d.isActive 0x3141 (regionOf c)

/-- A fault of a higher level that is not report only has the axis in its stopped set (R24). -/
def Dev.armFault (d : Dev) (n : Nat) : Bool :=
  d.active.any (fun a => a.react != 0 && decide (2 ≤ entryLevel a.entry) && bitAt a.stopped n)

/-- The slots of the axis pass admission (R294, R383). -/
def Dev.armAdmitted (d : Dev) (n : Nat) : Bool := !d.slotsMissing n && (d.firstBar (axisLanes n)).isNone

/-- Why ARM is refused, state apart; 0 when every condition of R294 holds. -/
def Dev.armBar (d : Dev) (n : Nat) : Nat :=
  if !d.on devReady then 4
  else if d.inScope n || d.armFault n || d.armBarred n then 5
  else if !d.armSupply n then 6
  else if !d.armParams n then 7
  else if !d.armConverter n then 8
  else if !d.armAdmitted n then 9
  else 0

/-- AXB_STATUS.ARMABLE. -/
def Dev.armable (d : Dev) (n : Nat) : Bool := d.armBar n == 0

/-! ### The commands -/

/-- START from ARMED by angle source (R270, R295). -/
def Dev.startAxis (d : Dev) (n src b : Nat) : Dev :=
  let d := d.thaw n
  let enter := fun (d : Dev) => d.enterRun n causeCommand src b
  match d.angleSrc n with
  | 1 =>
    if d.on (obsCatchEn n) then
      ((d.setState n stCatch causeCommand src b).setPhase n 1 b).modAx n (fun a =>
        { a with samples := [], toFault := false, nextState := none, sigmaInit := true })
    else
      ((enter d).setPhase n (d.startAt n) b).modAx n (fun a =>
        { a with thF := 0, handAt := none, sigmaInit := true, polRise := [(0, 0), (0, 0)], polId := 0 })
  | 2 => ((enter d).setPhase n 2 b).modAx n (fun a => { a with thF := 0, handAt := none, sigmaInit := true })
  | _ => enter d

/-- STOP and STOP_HOLD (R263, R265, R295, R297). -/
def Dev.stopAxis (d : Dev) (n src b : Nat) (hold : Bool) : Dev :=
  if d.lostNow n then (d.bridgeOff n b).setState n stArmed causeCommand src b
  else if d.st n = stRun then
    if d.mode n == 1 && d.velEmpty n then d.enterBrake n purposeStop causeCommand src b false false
    else d.enterStop n causeCommand src b false hold
  else if d.st n = stCatch then
    let d := (d.wr (obsOutcome n) 5).ev (.obs n) 1
    let d := d.note b 1 4 n 0x0C00 5
    let fault := (d.ax n).toFault
    if fault then d.toFaultOff n causeCommand src b
    else (d.bridgeOff n b).setState n stArmed causeCommand src b
  else
    (d.wr (obsPurpose n) purposeStop).modAx n (fun a => { a with brakeRun := 0, nextState := none })

/-- A command that the table of R295 lists for the axis's state. -/
def Dev.axbListed (d : Dev) (n code : Nat) : Bool :=
  let s := d.st n
  match code with
  | 1 => s == stOff
  | 2 => s == stArmed
  | 3 => s == stArmed
  | 4 | 5 => s == stRun || s == stCatch || (s == stBrake && d.rd (obsPurpose n) != purposeStop)
  | 6 => s == stRun || s == stStopping
  | 7 => s == stRun || s == stStopping
  | 8 => s == stOff || s == stFault
  | _ => s == stService

/-- The axis is in SERVICE and its lane slots are released (R98, R299). -/
def Dev.enterService (d : Dev) (n src b : Nat) : Dev :=
  let d := (d.bridgeOff n b).setState n stService causeCommand src b
  let d := d.modAx n (fun a => { a with wins := [], curRun := 2, curKeep := none, nextState := none })
  d.admChange (axisLanes n) b

/-- RETURN (R299, R374, R376): admission is checked again with the axis counted. -/
def Dev.returnAxis (d : Dev) (n src b : Nat) : Dev :=
  let trial := d.wr (axbState n) stOff
  let has := fun (s : Nat) => (trial.counted.slot n s).id != 0
  let trial := if has 1 || has 2 then trial.assignPair n else trial
  let trial := if has 3 then trial.assignAux n else trial
  match trial.firstBar (axisLanes n) with
  | some (l, why) => (d.admRefused l why b).axbRefuse n 9 9 src b
  | none =>
    let d := (d.wr (motPhase n) (trial.rd (motPhase n))).wr (prgPhaseA n) (trial.rd (prgPhaseA n))
    (((d.setState n stOff causeCommand src b).admChange (axisLanes n) b)).axbAnswer n 9 1

/-- Carry out a listed command that nothing refuses. -/
def Dev.axbRun (d : Dev) (n code src b : Nat) : Dev :=
  match code with
  | 1 =>
    let d := (d.wr (curOfsBusy n) 0).modAx n (fun a => { a with ofsCount := 0, ofsSum := [0, 0, 0, 0], ofsNum := [0, 0, 0, 0] })
    d.setState n stArmed causeCommand src b
  | 2 => d.setState n stOff causeCommand src b
  | 3 => d.startAxis n src b
  | 4 => d.stopAxis n src b false
  | 5 => d.stopAxis n src b true
  | 6 => d.enterBrake n purposeStop causeCommand src b false (d.ax n).toFault
  | 7 => (d.bridgeOff n b).setState n stArmed causeCommand src b
  | _ => d.enterService n src b

/-- Judge a command against the state at boundary b (R78, R293 to R296). -/
def Dev.judgeAxb (d : Dev) (n : Nat) (c : PendingCmd) (b : Nat) : Dev :=
  let no := fun (r : Nat) => d.axbRefuse n c.code r c.src b
  if (c.code = 1 ∨ c.code = 3) ∧ !d.on devReady then no 4
  else if !d.axbListed n c.code then no 2
  else if c.code = 1 ∧ bitAt (d.rd merRecheck) (n / 4) then no 2
  else if c.code = 9 then d.returnAxis n c.src b
  else if c.code = 1 ∧ d.armBar n ≠ 0 then no (d.armBar n)
  else if c.code = 3 ∧ d.inScope n then no 5
  else (d.axbRun n c.code c.src b).axbAnswer n c.code 1

/-- The pending command of axis n is judged at the first boundary at least 100 ns after its write. -/
def Dev.applyAxb (d : Dev) (n b : Nat) : Dev :=
  match (d.ax n).cmd with
  | some c => if c.at_ + 100 ≤ b then (d.modAx n (fun a => { a with cmd := none })).judgeAxb n c b else d
  | none => d

/-- The commands the curve block issues itself (R331), while no command of the axis is pending. -/
def Dev.curveAuto (d : Dev) (n b : Nat) : Dev :=
  if !d.on (crvAuto n) || d.mode n != 0 || (d.ax n).cmd.isSome then d
  else
    let stopAt : Int := if d.angleSrc n = 1 then d.vFloor n else 0
    if d.on (crvOn n) then if d.st n == stArmed then d.axbCommand n 3 9 b else d
    else if d.st n == stRun && decide (((d.rdS (crvV n)).natAbs : Int) ≤ stopAt) then d.axbCommand n 4 9 b
    else d

end Sys2Proof.Machine
end

