-- ==== Sys2Proof/Machine/Chron.lean ====
section
/-! DEFINITION. The chronograph in bank 31 (R548 to R553): the writer, Almanac's records and the fetch over the network. -/
namespace Sys2Proof.Machine

/-- Address of entry 0 (CHRON_BASE). -/
def chronBase : Nat := 0x3E0000

/-- Address of entry j. -/
def chronAddr (j : Nat) : Nat := chronBase + 16 * (j % 4096)

/-- The words of an entry (R548). -/
def ChronEntry.words (e : ChronEntry) : List Nat :=
  words64 e.time ++ [e.level % 16 * 2 ^ 28 + e.src % 16 * 2 ^ 24 + e.inst % 256 * 2 ^ 16 + e.code % 65536, e.data % 2 ^ 32]

/-- Write one entry to bank 31 and copy it to the export streams (R437, R548). -/
def Dev.writeEntry (d : Dev) (mem : Mem) (e : ChronEntry) (t : Nat) : Dev × Mem :=
  let (d, mem) := d.writeBuf mem 1 t (chronAddr (d.rd chronWr)) e.words
  let d := d.inw chronWr
  let d := d.when_ (d.rd chronWr == d.rd chronMark) (fun d => d.ev .chron 0)
  d.exportEntry mem e.words (List.range 48)

/-- Write a list of entries in order. -/
def Dev.writeEntries (d : Dev) (mem : Mem) (t : Nat) : List ChronEntry → Dev × Mem
  | [] => (d, mem)
  | e :: es =>
    let (d, mem) := d.writeEntry mem e t
    Dev.writeEntries d mem t es

/-- The entries lost at a full queue are stated once the queue has room (R551, R589). -/
def Dev.stateLost (d : Dev) (t : Nat) : Dev :=
  if d.lostPend = 0 ∨ queueLen ≤ d.queue.length then d
  else
    let n := d.lostPend
    ({ d with lostPend := 0 } : Dev).note t 5 0 0 0x0160 (min n 65535)

/-- CHRON_WRITE (R551): the entries held for 2 µs are written in order. -/
def effChronWrite (t : Nat) (mem : Mem) (d : Dev) : Dev × Mem :=
  if !d.chronOn then (d, mem)
  else
    let due := chronSort (d.queue.filter (fun e => decide (e.time + 2000 ≤ t)))
    let d := { d with queue := d.queue.filter (fun e => decide (t < e.time + 2000)) }
    let (d, mem) := d.writeEntries mem t due
    (d.stateLost t, mem)

/-- ALMANAC_RECORD (R550): Almanac's write of CHRON_ALM submits a record with the data of CHRON_ALM_DATA. -/
def effAlmanacRecord (r : Req) (code : Nat) (t : Nat) (d : Dev) : Dev :=
  if r ≠ .alm ∨ 4096 ≤ code % 65536 ∨ code % 16 = 0 then d
  else (d.wr chronAlm code).note t 5 1 0 (code % 65536) (d.rd chronAlmData)

/-- Read n words from byte address a on as master m; none where one cannot be read (R394, R396). -/
def Dev.readWords (d : Dev) (mem : Mem) (m t : Nat) : Nat → Nat → Option (List Nat) × Dev
  | _, 0 => (some [], d)
  | a, n + 1 =>
    let (x, d) := d.bankRead mem m a t
    let (xs, d) := Dev.readWords d mem m t (a + 4) n
    (match x, xs with
     | some x, some xs => some (x :: xs)
     | _, _ => none, d)

/-- The words of entries j to j + n − 1, read as the network master. -/
def Dev.entryWords (d : Dev) (mem : Mem) (t : Nat) : Nat → Nat → Option (List Nat) × Dev
  | _, 0 => (some [], d)
  | j, n + 1 =>
    let (x, d) := d.readWords mem 4 t (chronAddr j) 4
    let (xs, d) := Dev.entryWords d mem t ((j + 1) % 2 ^ 32) n
    (match x, xs with
     | some x, some xs => some (x ++ xs)
     | _, _ => none, d)

/-- The first index and the number of entries that a fetch of n entries from index i returns (R553). -/
def fetchRange (wr i n : Nat) : Nat × Nat :=
  let back := (wr + 2 ^ 32 - i) % 2 ^ 32
  if back = 0 ∨ 2 ^ 31 ≤ back then (i, 0) else (if back ≤ 4096 then i else (wr + 2 ^ 32 - 4096) % 2 ^ 32, min n (min back 4096))

/-- What a fetch of n entries from index i is answered (R553): a word that cannot be read ends it with BAD_ACCESS (R394, log entry 222). -/
def Dev.fetchEntries (d : Dev) (mem : Mem) (i n t : Nat) : Answer × Dev :=
  let (f, k) := fetchRange (d.rd chronWr) i n
  match d.entryWords mem t f k with
  | (some ws, d) => ({ result := 0, data := f :: ws }, d)
  | (none, d) => (ans 2, d)

/-- CHRONOGRAPH_FETCH (R553). -/
def effChronFetch (h : DispHdr) (words : List Nat) (t : Nat) (mem : Mem) (d : Dev) : Dev × Mem :=
  d.receive h 3 words t false mem (fun d mem =>
    let n := words.getD 1 0
    if h.len ≠ 8 ∨ words.length ≠ 2 ∨ n = 0 ∨ 15 < n then (some (ans 16), d, mem)
    else
      let (x, d) := d.fetchEntries mem (words.getD 0 0) n t
      (some x, d, mem))

end Sys2Proof.Machine
end

