-- ==== Sys2Proof/Machine/Commit.lean ====
section
/-! DEFINITION. Commits at a tick boundary (R29, R30, R66 to R70, R376): the checks of each page's chapter, the values
applied and what follows from them. -/
namespace Sys2Proof.Machine

/-- The stored fields of a page. -/
def pageFields : Page → List Fld
  | .dev => devFields | .time => timeFields | .chron => chronFields | .flt => fltFields | .otp => otpFields
  | .pst => pstFields | .bnk => bnkFields | .pgr => pgrFields | .smp q => smpFields q | .hsp => hspFields
  | .mer => merFields | .alm => almFields | .gpio => gpioFields | .lnk m => lnkFields m | .net => netFields
  | .adc c => adcFields c | .xck p => xckFields p | .clu c => cluFields c | .gln g => glnFields g
  | .pwd c => pwdFields c | .xst => xstFields | .axb n => axbFields n | .drv n => drvFields n | .cur n => curFields n
  | .foc n => focFields n | .obs n => obsFields n | .mot n => motFields n | .prf n => prfFields n | .fb n => fbFields n
  | .sup n => supFields n | .crv n => crvFields n | .prg n => prgFields n | .evp k => evpFields k

/-- The RWT fields of a page (R14, R66). -/
def rwtFields (p : Page) : List Fld := (pageFields p).filter (fun f => decide (f.acc = .rwt))

/-! ### SAFE bounds (R511) -/

/-- A word of a valid SAFE region. -/
def Dev.safeWord (d : Dev) (w : Nat) : Option Nat := d.safe.map (fun l => l.getD w 0)

/-- The bound of a current limit: 0 with SAFE invalid (R92). -/
def Dev.currentBound (d : Dev) (w : Nat) : Nat := (d.safeWord w).getD 0

/-- Bit i of the mode mask of axis n permits a setting; without a valid SAFE region there is no mask. -/
def Dev.maskAllows (d : Dev) (n i : Nat) : Bool := (d.safeWord (86 + n)).all (fun m => bitAt m i)

/-- The part [lo + w − 1 : lo] of a SAFE word bounds a value from above. -/
def Dev.underSafe (d : Dev) (word lo w v : Nat) : Bool := (d.safeWord word).all (fun m => decide (v ≤ bitsAt m lo w))

/-- The value of one field respects the SAFE region (R511): the fields that a commit brings into effect. -/
def Dev.safeAllows (d : Dev) (f : Fld) (v : Nat) : Bool :=
  match f.pg with
  | .foc n =>
    if f = focIPeak n then decide (v ≤ d.currentBound n)
    else if f = focICont n then decide (v ≤ d.currentBound (24 + n))
    else if f = focAngleSrc n then d.maskAllows n (8 + v % 4)
    else if f = focFwEn n then v = 0 || d.maskAllows n 18
    else true
  | .drv n =>
    if f = drvOcLeg n then d.underSafe (48 + n) 0 12 v
    else if f = drvOcLink n then d.underSafe (48 + n) 16 12 v
    else if f = drvTwoPhase n then v = 0 || d.maskAllows n 16
    else if f = drvOvermod n then v = 0 || d.maskAllows n 17
    else if f = drvBrakeSide n then v = 0 || d.maskAllows n 19
    else true
  | .axb n => if f = axbMode n then d.maskAllows n (v % 8) else true
  | _ => true

/-! ### Ranges -/

/-- Values up to a number of amperes, ohms and so on in Q16.16. -/
abbrev q16 (k : Nat) : Nat := k * 65536

/-- The largest value of a signed 32-bit field. -/
abbrev maxS32 : Nat := 2 ^ 31 - 1

/-- The stated range of the RWT fields that have one: field, least and greatest value. -/
def rangesOf : Page → List (Fld × Nat × Nat)
  | .adc c =>
    [(adcSeqTrig c, 0, 4), (adcSeqPeriod c, 1, 4095), (adcSeqLen c, 0, 16)] ++
    (List.range 4).map (fun k => (adcWinGain c k, 0, 4)) ++
    (List.range 16).flatMap (fun e => [(adcSeqCfgK c e, 1, 8), (adcSeqCfgFilt c e, 0, 2), (adcSeqCfgGain c e, 0, 4)])
  | .pwd c => [(pwdCarriers c, 0, 2)]
  | .xst => [(xstCarriers4, 0, 2), (xstCarriers5, 0, 2)]
  | .drv n => let lo := if n < 16 then 16 else 20
              let hi := if n < 16 then 192 else 1000
              [(drvOcLeg n, lo, hi), (drvOcLink n, lo, hi)]
  | .cur n => [(curPair n, 0, 2), (curWMin n, 160, 3200), (curTBlank n, 80, 1600), (curWLate n, 80, 25000),
               (curStaleLimit n, 1, 255), (curSumN n, 1, 255)]
  | .foc n => [(focKpD n, 0, maxS32), (focKpQ n, 0, maxS32), (focKiD n, 0, maxS32), (focKiQ n, 0, maxS32),
               (focRs n, 0, q16 1000), (focLd n, 0, q16 30000), (focLq n, 0, q16 30000), (focPsi n, 0, q16 10000),
               (focVlimFrac n, 2 ^ 29, 1239850262), (focFwStart n, 2 ^ 29, 2 ^ 30), (focFwKi n, 0, q16 16),
               (focI2tTau n, 10, 60000), (focErrN n, 1, 255)]
  | .obs n => [(obsVmin n, q16 10, q16 30000), (obsG1 n, 0, 2 ^ 30), (obsG2 n, 0, maxS32), (obsPllKp n, 0, q16 30000),
               (obsPllKi n, 0, q16 30000), (obsCatchRetry n, 0, 15), (obsLossN n, 1, 255), (obsRetryClr n, 1, 65535),
               (obsAlignT n, 1, 10000), (obsRampAcc n, q16 1, q16 30000), (obsHandTmax n, 10, 60000), (obsHandT n, 1, 1000),
               (obsCatchT n, 250, 65535), (obsBrakeHold n, 0, 10000), (obsStillBrkT n, 1, 10000), (obsBrakeTmax n, 10, 60000)]
  | .axb n => [(axbMode n, 0, 5)]
  | .mot n => [(motKpV n, 0, maxS32), (motKpP n, 0, q16 30000), (motKiP n, 0, q16 30000), (motKvff n, 0, 3 * 2 ^ 29),
               (motPvRatio n, 1, 2 ^ 32 - 1), (motVMax n, 1, maxS32), (motVfiltK n, 0, 8)]
  | .sup n => [(supFeLimit n, 0, 2 ^ 47 - 1), (supFeTime n, 1, 255), (supFrzT n, 1, 65535), (supFbLoss n, 0, 2),
               (supOvrLimit n, 1, 15), (supStopDec n, 1, maxS32), (supStopHold n, 1, 65535), (supStopTmax n, 10, 60000)]
  | .prf n => [(prfVMax n, 0, maxS32), (prfAMax n, 0, maxS32), (prfJMax n, 0, maxS32), (prfEphStream n, 0, 47),
               (prfEphResumeMin n, 1, 65535)]
  | .fb n => [(fbMode n, 0, 4), (fbPosPort n, 0, 23), (fbCommPort n, 0, 23), (fbToothRefLimit n, 1, 255), (fbToothDirSrc n, 0, 2),
              (fbToothRatio n, 0x12000, 0x40000), (fbSserDiv n, 10, 1000), (fbSserPosW n, 8, 48), (fbSserLen n, 8, 64),
              (fbCrcWidth n, 0, 16), (fbSserErrLimit n, 1, 255)]
  | .crv n => [(crvNpts n, 2, 16), (crvEvp n, 0, 11), (crvSrc n, 0, 2), (crvRamp n, 1, maxS32), (crvStaleT n, 1, 65535)]
  | .evp k => [(evpLink k, 0, 11), (evpMode k, 0, 6), (evpRetFbPort k, 0, 23), (evpRetStream k, 0, 47), (evpPulseGap k, 10, 10000),
               (evpNetHold k, 1, 255), (evpEmuSel k, 0, 23), (evpEmuDen k, 1, 2 ^ 24 - 1), (evpEmuMin k, 8, 255), (evpOutAxis k, 0, 23)]
  | .net => [(netSendOfs, 20, 10000), (netDres, 2, 255), (netNcyc, 0, 4)]
  | _ => []

/-- A value lies in the stated range of its field. -/
def inRange (f : Fld) (v : Nat) : Bool :=
  match (rangesOf f.pg).find? (fun r => decide (r.1 = f)) with
  | some r => decide (r.2.1 ≤ v) && decide (v ≤ r.2.2)
  | none => true

/-- A reserved channel of bank c (R134). -/
def reservedChan (c ch : Nat) : Bool :=
  (decide (0x3B ≤ ch) && decide (ch ≤ 0x3D)) ||
    (if c < 4 then ch == 0x1E || ch == 0x1F || (decide (0x25 ≤ ch) && decide (ch ≤ 0x37)) else decide (0x20 ≤ ch) && decide (ch ≤ 0x37))

/-! ### Checks of one field -/

/-- A field does not take a new value in the present state, whatever the rest of its page does. -/
def Dev.fieldBarred (d : Dev) (f : Fld) (v : Nat) : Bool :=
  match f.pg with
  | .adc c =>
    (decide (f.off < 0x180) && decide (0x080 ≤ f.off) && f.off % 16 == 0 && f.lo == 0 && reservedChan c v) ||
      (decide (f = adcLowpwr c) && v == 1 && (List.range 4).any (fun k => d.drives (4 * c + k)))
  | .drv n => decide (f = drvBrakeSide n) && v == 1 && decide (16 ≤ n)
  | .foc n =>
    (decide (f = focTderEn n) && v == 1 && decide (16 ≤ n)) ||
      (decide (f = focEcounts n) && v == 1) ||
      (decide (f = focTDerate n) && decide (n < 16) && decide (d.rdS (pwdTempTrip (n / 4)) ≤ signedOf 16 v)) ||
      (decide (f = focAdvTrim n) && (decide (signedOf 16 v < -20000) || decide (20000 < signedOf 16 v)))
  | .axb n => decide (f = axbMode n) && !(d.st n == stOff || d.st n == stArmed || d.st n == stFault)
  | .prf n =>
    (decide (f = prfVMax n) || decide (f = prfAMax n) || decide (f = prfJMax n)) && v == 0 && d.st n == stRun && (d.mode n == 2 || d.mode n == 3)
  | .fb p =>
    (decide (f = fbMode p) && d.portBusy p) || ((decide (f = fbPosPort p) || decide (f = fbCommPort p)) && d.drives p)
  | .evp k =>
    (decide (f = evpMode k) || decide (f = evpPins k) || decide (f = evpLink k)) &&
      (d.rd (evpRetState k) == retPending || d.rd (evpRetState k) == retPlaying)
  | _ => false

/-! ### Checks of several fields -/

/-- A check of the values that a commit would put in effect: the fields it refuses, and the condition that fails. -/
abbrev Rule := List Fld × (Dev → Bool)

/-- The used points of the curve of axis n do not rise strictly (R327). -/
def Dev.tableBroken (d : Dev) (n : Nat) : Bool :=
  (List.range (d.rd (crvNpts n) - 1)).any (fun i => decide (d.rdS (crvX n (i + 1)) ≤ d.rdS (crvX n i)))

/-- Fields of the serial frame (R228, R229). -/
def sserFields (p : Nat) : List Fld :=
  [fbSserDiv p, fbSserGray p, fbSserSigned p, fbSserPosW p, fbSserPosLsb p, fbSserLen p, fbCrcPoly p, fbCrcInv p, fbCrcWidth p,
   fbSserErrLimit p, fbSserSampleDly p, fbSserLead p]

/-- The diagnosis of pair p may not start (R157): its channel is reserved or a reference, or it is in use. -/
def Dev.diagBarred (d : Dev) (p : Nat) : Bool :=
  let c := 2 * p + d.rd (xckDiagBank p)
  let ch := d.rd (xckDiagChan p)
  let idle (n : Nat) : Bool := d.st n == stOff || d.st n == stFault || d.st n == stService
  let axes := (List.range 4).map (fun k => 4 * c + k)
  let mine (n : Nat) : Bool := (d.ax n).wins.any (fun w => w.chans.contains ch)
  let seq := (List.range (d.rd (adcSeqLen c))).any (fun e => d.rd (adcSeqCfgChan c e) == ch)
  d.on (xckDiagEn p) &&
    (decide (0x38 ≤ ch) || reservedChan c ch || axes.any (fun n => !idle n && (mine n || seq)) ||
      (decide (0x1C ≤ ch) && decide (ch ≤ 0x24) && axes.any (fun n => d.st n != stOff && d.st n != stService)))

/-- A carrier count of cluster c does not suit the tick (R35, R106). -/
def Dev.carrierBarred (d : Dev) (c : Nat) : Bool :=
  decide (d.tc c < if c < 4 then 8000 else 4000) || d.rd timeTickPeriod % d.carriers c != 0

/-- The checks of the chapter of a page, in the order in which they are made. -/
def rulesOf : Page → List Rule
  | .drv n => [([drvBrakeIlim n, drvOcLeg n], fun d => decide (d.rd (drvOcLeg n) ≤ d.rd (drvBrakeIlim n))),
               ([drvDeadtime n], fun d => decide (d.rd (curTBlank n) < d.rd (drvDeadtime n) + 40))]
  | .cur n => [([curTBlank n], fun d => decide (d.rd (curTBlank n) < d.rd (drvDeadtime n) + 40))]
  | .foc n => [([focICont n, focIPeak n], fun d => decide (d.rd (focIPeak n) < d.rd (focICont n))),
               ([focFwMax n], fun d => decide (d.rd (focIPeak n) < d.rd (focFwMax n))),
               ([focAngleSrc n], fun d => d.rd (focAngleSrc n) == 1 && decide (d.rd (obsCatchVmin n) < d.rd (obsVmin n)))]
  | .obs n => [([obsCatchT n], fun d => decide (1000 * d.rd (obsCatchT n) < 250000 + 4 * d.tickNs)),
               ([obsCatchVmin n, obsVmin n], fun d => d.rd (focAngleSrc n) == 1 && decide (d.rdS (obsCatchVmin n) < d.rdS (obsVmin n))),
               ([obsStartMode n], fun d => d.on (obsStartMode n) && (!d.on (obsHfiEn n) ||
                  decide (10 * (d.rdS (focLq n) - d.rdS (focLd n)).natAbs < d.rd (focLq n))))]
  | .prf n => [([prfLimLo n, prfLimHi n], fun d => decide (d.rdS (prfLimHi n) < d.rdS (prfLimLo n) + 65536))]
  | .fb p => [([fbLimLo p, fbLimHi p], fun d => decide (d.rdS (fbLimHi p) ≤ d.rdS (fbLimLo p))),
              (sserFields p, fun d => decide (d.rd (fbSserLead p) < 2 * d.rd (fbSserLen p) * d.rd (fbSserDiv p) + d.rd (fbSserSampleDly p) + 20) ||
                 decide (d.rd timeTickPeriod ≤ d.rd (fbSserLead p))),
              (sserFields p, fun d => decide (d.rd (fbSserPosLsb p) < d.rd (fbCrcWidth p)))]
  | .crv n => [(crvNpts n :: (List.range 16).map (crvX n), fun d => d.tableBroken n),
               ([crvInOn n, crvInOff n], fun d => decide (d.rdS (crvInOn n) ≤ d.rdS (crvInOff n)))]
  | .evp k => [([evpEmuNum k, evpEmuDen k], fun d => decide (16 * d.rd (evpEmuDen k) < (d.rdS (evpEmuNum k)).natAbs))]
  | .pwd c => [([pwdCarriers c], fun d => d.carrierBarred c)]
  | .xst => [([xstCarriers4], fun d => d.carrierBarred 4), ([xstCarriers5], fun d => d.carrierBarred 5)]
  | .xck p => [([xckDiagChan p, xckDiagBank p, xckDiagEn p], fun d => d.diagBarred p)]
  | _ => []

/-! ### Admission (R375, R376) -/

/-- The admission inputs of a page, and the lanes they concern (R375). -/
def admInputs : Page → List Fld × List Nat
  | .time => ([timeTickPeriod], List.range 8)
  | .pwd c => ([pwdCarriers c], [c])
  | .xst => ([xstCarriers4, xstCarriers5], [4, 5])
  | .cur n => ([curWMin n, curWLate n], [n / 4])
  | .foc n => ([focAngleSrc n], [n / 4])
  | .obs n => ([obsHfiEn n], [n / 4])
  | .sup n => ([supFbLoss n], [n / 4])
  | .mot n => ([motNv n, motNp n], [6 + regionOf (n / 4)])
  | .prg n => ([prgNa n], [6 + regionOf (n / 4)])
  | _ => ([], [])

/-- A field is an input of admission. -/
def isAdmInput (f : Fld) : Bool := (admInputs f.pg).1.any (fun g => decide (g = f))

/-! ### Judging a page -/

/-- A list of new values. -/
abbrev Change := List (Fld × Nat)

/-- The values that the shadows of a page would change at boundary b: those standing 100 ns before it (R66). -/
def Dev.candidates (d : Dev) (p : Page) (b : Nat) : Change :=
  (rwtFields p).filterMap (fun f => let v := d.shAt f (b - 100); if v = d.rd f then none else some (f, v))

/-- The state with a change in effect. -/
def Dev.trial (d : Dev) (cs : Change) : Dev := cs.foldl (fun d c => d.wr c.1 c.2) d

/-- Drop the members of a list of fields from a change. -/
def dropFields (cs : Change) (fs : List Fld) : Change := cs.filter (fun c => !fs.any (fun f => decide (f = c.1)))

/-- The checks of a page, one after another: each that fails refuses those of its fields that the commit changes (R68). -/
def Dev.judgeRules (d : Dev) : List Rule → Change → Change
  | [], cs => cs
  | r :: rs, cs => if r.2 (d.trial cs) then d.judgeRules rs (dropFields cs r.1) else d.judgeRules rs cs

/-- What a page's own chapter leaves of a change: ranges, SAFE bounds, and the checks of several fields. -/
def Dev.judged (d : Dev) (p : Page) (cs : Change) : Change :=
  d.judgeRules (rulesOf p) (cs.filter (fun c => inRange c.1 c.2 && d.safeAllows c.1 c.2 && !d.fieldBarred c.1 c.2))

/-- The state with a change in effect and the phase that a changed divider is given (R374). -/
def Dev.trialPhased (d : Dev) (p : Page) (cs : Change) : Dev :=
  let t := d.trial cs
  let has := fun (n s : Nat) => (d.counted.slot n s).id != 0
  match p with
  | .mot n => if cs.any (fun c => isAdmInput c.1) && (has n 1 || has n 2) then t.assignPair n else t
  | .prg n => if cs.any (fun c => isAdmInput c.1) && has n 3 then t.assignAux n else t
  | _ => t

/-- The bit of PAGE_EVENT and PAGE_STICKY that reports a refused field. -/
def refusedBit : Page → Nat
  | .drv _ => 6 | .adc _ => 8 | .cur _ => 5 | .foc _ => 5 | .fb _ => 9 | .obs _ => 6 | .axb _ => 2 | .mot _ => 0 | .sup _ => 9
  | .prf _ => 6 | .crv _ => 3 | .evp _ => 8 | .prg _ => 5 | .pwd _ => 6 | .xst => 2 | .xck _ => 2 | .net => 7
  | _ => 31

/-- The shadows of a page equal its values in effect again, but for writes after the cut-off (R66, R68). -/
def Dev.settleShadows (d : Dev) (p : Page) (cut : Nat) : Dev :=
  let keep (x : Fld × List (Nat × Nat)) : Fld × List (Nat × Nat) :=
    if x.1.pg = p then (x.1, x.2.filter (fun w => decide (cut < w.1))) else x
  { d with shadows := (d.shadows.map keep).filter (fun x => !x.2.isEmpty) }

/-! ### What follows from a change -/

/-- The entries of bank c after a commit: changed filters and comparators start again (R147, R148). -/
def Dev.adcCommitted (d old : Dev) (c src b : Nat) : Dev :=
  let d := d.each (List.range 16) (fun e d =>
    let was := old.entryCfg c e
    let now := d.entryCfg c e
    let d := d.when_ (was != now) (fun d => d.restartEntry c e (settleMarks was now))
    let limits := fun (x : Dev) => (x.rd (adcWcEn c e), x.rd (adcWcHigh c e), x.rd (adcWcLow c e))
    d.when_ (limits old != limits d) (fun d => d.forgetComparator c e))
  let d := d.each (List.range 4) (fun k d =>
    if old.rd (adcWinGain c k) = d.rd (adcWinGain c k) then d
    else d.modAx (4 * c + k) (fun a => { a with winSettle := [3 * k, 3 * k + 1, 3 * k + 2, 0x0C + k].foldl (fun w ch => tabSet w ch 2) a.winSettle }))
  if old.on (adcLowpwr c) = d.on (adcLowpwr c) then d
  else if d.on (adcLowpwr c) then d.enterLowPower c src b
  else d.enterRestore c src b

/-- A substitution of pair p starts, moves or ends (R157). -/
def Dev.xckCommitted (d old : Dev) (p : Nat) : Dev :=
  let place := fun (x : Dev) => (2 * p + x.rd (xckDiagBank p), x.rd (xckDiagChan p))
  let d := d.when_ (old.on (xckDiagEn p)) (fun d => d.substitute (place old).1 (place old).2)
  let d := d.when_ (d.on (xckDiagEn p)) (fun d => d.substitute (place d).1 (place d).2)
  d.wr (xckDiagActive p) (d.rd (xckDiagEn p))

/-- The feedback port and selection of axis n after a commit (R215, R234, R243, R246). -/
def Dev.fbCommitted (d old : Dev) (n src b : Nat) : Dev :=
  let modeNew := old.rd (fbMode n) != d.rd (fbMode n)
  let selNew := old.rd (fbCommPort n) != d.rd (fbCommPort n) || old.rd (fbPosPort n) != d.rd (fbPosPort n)
  let d := d.when_ modeNew (fun d => d.restartPort n)
  let d := d.when_ (!modeNew && old.rd (fbHallReverse n) != d.rd (fbHallReverse n)) (fun d => d.turnSectors n)
  let bounds := fun (x : Dev) => (x.fbLo n, x.fbHi n)
  let d := d.when_ (bounds old != bounds d) (fun d => d.boundsChanged n b)
  d.when_ (modeNew || selNew) (fun d =>
    d.note b 1 src n 0x0B00 (d.rd (fbMode n) + 16 * old.rd (fbMode n) + 256 * d.rd (fbCommPort n) + 65536 * d.rd (fbPosPort n)))

/-- What a page does when a change of its fields has taken effect at boundary b. -/
def Dev.committed (d old : Dev) (p : Page) (src b : Nat) : Dev :=
  match p with
  | .adc c => d.adcCommitted old c src b
  | .xck p => if (old.rd (xckDiagEn p), old.rd (xckDiagBank p), old.rd (xckDiagChan p)) = (d.rd (xckDiagEn p), d.rd (xckDiagBank p), d.rd (xckDiagChan p)) then d
              else d.xckCommitted old p
  | .pwd c => if old.carriers c = d.carriers c then d else { d with restart := setBit d.restart c }
  | .xst => d.each [4, 5] (fun c d => if old.carriers c = d.carriers c then d else { d with restart := setBit d.restart c })
  | .cur n => if (old.rd (curMethod n), old.rd (curPair n)) = (d.rd (curMethod n), d.rd (curPair n)) then d
              else (d.ev (.cur n) 6).note b 1 src n 0x0A00 (d.rd (curMethod n) + 16 * old.rd (curMethod n))
  | .axb n => if old.rd (axbMode n) = d.rd (axbMode n) then d
              else (d.ev (.axb n) 3).note b 1 src n 0x0F00 (d.rd (axbMode n) + 16 * old.rd (axbMode n))
  | .prf n =>
    let limits := fun (x : Dev) => (x.rd (prfVMax n), x.rd (prfAMax n), x.rd (prfJMax n))
    if limits old = limits d then d else d.modProf n (fun g => { g with replan := g.replan || g.plan.isSome })
  | .fb n => d.fbCommitted old n src b
  | .evp k =>
    let ratio := fun (x : Dev) => (x.rd (evpEmuNum k), x.rd (evpEmuDen k), x.rd (evpEmuSel k), x.rd (evpEmuObs k), x.rd (evpMode k) == 2)
    let d' := if ratio old = ratio d then d else d.emuReset k b (old.rd (evpMode k) != 2)
    if old.rd (evpMode k) = d.rd (evpMode k) then d'
    else (d'.modEvp k (fun e => { e with opened := none, openedBefore := none })).note b 5 7 k 0x0010
      (d.rd (evpMode k) + 16 * old.rd (evpMode k))
  | _ => d

/-- The lanes whose readback changes with an accepted admission input. -/
def Dev.readback (d : Dev) (p : Page) (cs : Change) : Dev :=
  if cs.any (fun c => isAdmInput c.1) then d.each (admInputs p).2 (fun l d => d.admReadback l) else d

/-! ### The commit of a page -/

/-- TICK_PERIOD at its commit boundary (R32, R465): applied, announced by a head, or refused. -/
def Dev.commitPeriod (d : Dev) (src b : Nat) : Dev :=
  let v := d.shAt timeTickPeriod (b - 100)
  let old := d.rd timeTickPeriod
  let d := d.settleShadows .time (b - 100)
  if v = old then d
  else
    let head := d.on netHeadSide
    let announce := head && d.on timeSegTick
    let why := d.periodBar v announce
    if why = 4 then
      let d := match (d.wr timeTickPeriod v).firstBar (List.range 8) with
        | some (l, x) => d.admRefused l x b
        | none => d
      d.refusePeriod v why src b
    else if why ≠ 0 then d.refusePeriod v why src b
    else if head && decide (d.capacityAt v < 0) then (d.noCapacity.ev .time 4).sticky .time 0
    else if announce then d.announce v src b
    else d.takePeriod v b

/-- The values of a page at its commit boundary b (R66, R68, R376). -/
def Dev.commitFields (d : Dev) (p : Page) (src b : Nat) : Dev :=
  let cs0 := d.candidates p b
  let cs1 := d.judged p cs0
  let bar := if cs1.any (fun c => isAdmInput c.1) then (d.trialPhased p cs1).firstBar (admInputs p).2 else none
  let cs2 := if bar.isSome then dropFields cs1 (admInputs p).1 else cs1
  let tight := p == .net && d.on netHeadSide && decide ((d.trial cs2).capacityAt (d.rd timeTickPeriod) < 0)
  let cs := if tight then dropFields cs2 [netSendOfs, netDres, netNcyc] else cs2
  let new := ((d.trialPhased p cs).settleShadows p (b - 100)).committed d p src b
  let new := match bar with
    | some (l, why) => new.admRefused l why b
    | none => new
  let new := new.when_ (tight && cs.length != cs2.length) (fun d => d.noCapacity)
  let new := new.when_ (cs.length != cs0.length) (fun d => d.ev p (refusedBit p))
  new.readback p cs

/-- The commit of one page at boundary b, with its record (R29, R66, R70). -/
def Dev.commitPage (d : Dev) (q : CommitReq) (b : Nat) : Dev :=
  let d := if q.page = .time then d.commitPeriod q.src b else d.commitFields q.page q.src b
  if q.load then d else d.note b (pageLevel q.page) q.src q.inst 0x0200 (pageIndex q.page * 2 ^ 20 + q.stn)

/-- A commit or swap request takes effect at boundary b: 100 ns before it, and not held (R30, R69). -/
def Dev.reqDue (d : Dev) (b : Nat) (q : CommitReq) : Bool :=
  d.unheld b && decide (q.at_ + 100 ≤ b)

/-- The commit of a page depends on admission and its evaluation is not complete (R375). -/
def Dev.commitWaits (d : Dev) (p : Page) (b : Nat) : Bool :=
  (d.candidates p b).any (fun c => isAdmInput c.1) && !d.evaluated (admInputs p).2 b

/-- Swap the coefficient banks of the stock program of a slot (R204, R272, R284). -/
def Dev.swapStock (d : Dev) (n slot : Nat) : Dev := if (d.slot n slot).id = slot + 1 then d.swapSlot n slot else d

/-- The requests due for one page take effect together (R67, R386). -/
def Dev.commitOne (p : Page) (b : Nat) (d : Dev) : Dev :=
  let due := d.commits.filter (fun q => decide (q.page = p) && d.reqDue b q)
  let plain := due.filter (fun q => q.swap == 0)
  let waits := !plain.isEmpty && d.commitWaits p b
  let take := if waits then due.filter (fun q => q.swap != 0) else due
  match take with
  | [] => d
  | q :: _ =>
    let d : Dev := { d with commits := d.commits.filter (fun q => !take.contains q) }
    let d := if plain.isEmpty || waits then
        d.note b (pageLevel p) q.src q.inst 0x0200 (pageIndex p * 2 ^ 20 + q.stn)
      else (d.wr (pageCommit p) 0).commitPage ((plain.head?).getD q) b
    match p with
    | .prg n => d.each (List.range 4) (fun s d => if take.any (fun q => bitAt q.swap s) then d.swapSlot n s else d)
    | _ => d

/-- The pages that commit at boundary b. -/
def Dev.committing (d : Dev) (b : Nat) : List Page :=
  allPages.filter (fun p => d.commits.any (fun q => decide (q.page = p) && q.swap == 0 && d.reqDue b q) && !d.commitWaits p b)

/-- The stock programs whose banks the page commits of boundary b swap, once each. -/
def Dev.swapStocks (d : Dev) (ps : List Page) : Dev :=
  let cur := (List.range 24).filter (fun n => ps.any (fun p => decide (p = .foc n) || decide (p = .obs n)))
  let mot := (List.range 24).filter (fun n => ps.any (fun p => decide (p = .mot n)))
  (d.each cur (fun n d => d.swapStock n 0)).each mot (fun n d => (d.swapStock n 1).swapStock n 2)

/-- Step 1 of R29: every commit and swap of boundary b, in page-index order. -/
def Dev.commitAll (d : Dev) (b : Nat) : Dev :=
  if d.commits.isEmpty then d
  else
    let ps := d.committing b
    (allPages.foldl (fun d p => Dev.commitOne p b d) d).swapStocks ps

/-- A requester asks for the commit of a page (R61, R67). -/
def Dev.requestCommit (d : Dev) (r : Req) (p : Page) (t : Nat) : Dev :=
  if d.on (pageCommit p) then d
  else { d.wr (pageCommit p) 1 with
         commits := d.commits ++ [{ page := p, at_ := t, src := r.src, inst := r.inst, stn := r.stn, swap := 0 }] }

end Sys2Proof.Machine
end

