-- ==== Sys2Proof/Machine/Bus.lean ====
section
/-! DEFINITION. Page accesses (R12 to R17, R53 to R65): what a word of a page reads as, what a write of one does, and how
an access ends. Every path that reaches a page goes through `Dev.busRead` and `Dev.busWrite`. -/
namespace Sys2Proof.Machine

/-! ### Words of a page -/

/-- The register whose RWT fields an RO word shows as they are in effect (R15). -/
def actOf : Page → Nat → Option Nat
  | .time, 0x054 => some 0x050
  | .pwd _, 0x048 | .xst, 0x048 | .cur _, 0x048 | .foc _, 0x048 | .obs _, 0x048 | .axb _, 0x048 | .mot _, 0x048
  | .evp _, 0x048 | .fb _, 0x048 => some 0x044
  | .fb _, 0x050 => some 0x04C
  | .prg _, 0x06C => some 0x068
  | _, _ => none

/-- The part of a field's value that lies in the word at an offset: the field in its place, or half of a 64-bit one (R12). -/
def partOf (f : Fld) (off v : Nat) : Nat :=
  if f.off = off then (if f.w = 64 then v % 2 ^ 32 else v % 2 ^ f.w * 2 ^ f.lo)
  else if f.w = 64 ∧ f.off + 4 = off then v / 2 ^ 32 % 2 ^ 32
  else 0

/-- What a field reads as (R14). -/
def Dev.readField (d : Dev) (f : Fld) : Nat :=
  match f.acc with
  | .wo => 0
  | .rwt => d.sh f
  | _ => d.rd f

/-- The stored fields of the word at an offset of a page. -/
def Dev.storedWord (d : Dev) (p : Page) (off : Nat) : Nat :=
  (pageFields p).foldl (fun s f => s + partOf f off (d.readField f)) 0

/-- The values in effect of the RWT fields at an offset. -/
def Dev.actWord (d : Dev) (p : Page) (off : Nat) : Nat :=
  (rwtFields p).foldl (fun s f => s + partOf f off (d.rd f)) 0

/-- A flag in its place. -/
def flagAt (b : Bool) (i : Nat) : Nat := if b then 2 ^ i else 0

/-- PAGE_STATUS [31:29] (R61): EXPERT_OPEN of the requester, SHADOW_DIRTY and COMMIT_HELD. -/
def Dev.statusBits (d : Dev) (r : Req) (p : Page) : Nat :=
  flagAt (d.expertOpen r p) 31 + flagAt ((rwtFields p).any (fun f => d.sh f != d.rd f)) 30 +
    flagAt (d.on devCommitHold && d.on (pageCommit p)) 29

/-- The header words of a page (R61). -/
def Dev.headerWord (d : Dev) (r : Req) (p : Page) (off : Nat) : Nat :=
  match off with
  | 0x000 => pageType p * 2 ^ 16 + pageInstance p * 2 ^ 8 + 1
  | 0x008 => d.statusBits r p
  | 0x00C => d.rd (pageEvent p)
  | 0x010 => d.rd (pageEventEn p)
  | 0x014 => d.rd (pageSticky p)
  | 0x018 => d.rd (pageCommit p)
  | 0x01C => flagAt (d.expertOpen r p) 8
  | _ => 0

/-- Words of the DEV page that are not stored. -/
def Dev.devWord (d : Dev) (off : Nat) : Nat :=
  match off with
  | 0x040 => flagAt d.faultN 2
  | 0x048 => Config.mromVersion % (2 ^ 32 - 1) + 1
  | 0x058 => d.evtFirst
  | 0x05C => d.evtCount
  | _ => 0

/-- Words of the CHRON page that are not stored. -/
def Dev.chronWord (d : Dev) (off : Nat) : Nat :=
  match off with
  | 0x048 => chronBase
  | 0x050 => d.queue.length
  | 0x060 => d.startBuf.length * 2 ^ 24 + min d.bufOver 65535 * 2 ^ 8
  | 0x064 | 0x068 | 0x06C | 0x070 =>
    match d.startBuf[d.rd chronBufSel]? with
    | some e => e.words.getD ((off - 0x064) / 4) 0
    | none => 0
  | _ => 0

/-- Words of the FLT page that are not stored (R543, R563). -/
def Dev.fltWord (d : Dev) (off : Nat) : Nat :=
  if off = 0x040 then
    flagAt d.faultN 31 + flagAt d.pkgFault 30 + d.levelsWord * 2 ^ 24 + flagAt d.clearReq.isSome 23 + min d.active.length 65535
  else if off = 0x044 then d.stoppedWord
  else if 0x200 ≤ off ∧ off < 0x400 then d.activeWord ((off - 0x200) / 4)
  else 0

/-- The row that OTP_ROW shows: a logical row through the redirection table, or a physical one. -/
def Dev.shownRow (d : Dev) : Nat := if d.rd otpRowSel < 128 then d.physRow (d.rd otpRowSel) else d.rd otpRowSel

/-- Words of the OTP page that are not stored (R512, R514). -/
def Dev.otpWord (d : Dev) (off : Nat) : Nat :=
  let v := d.rowRead d.shownRow
  if 0x060 ≤ off ∧ off < 0x080 then (rowWords v.1).getD ((off - 0x060) / 4) 0
  else if off = 0x080 then
    match tabGet d.otpReads d.shownRow with
    | none => 0
    | some (n, l, h) => flagAt (d.shownRow != d.rd otpRowSel) 3 + 1 + flagAt (l == n) 1 + flagAt (h == n) 2
  else if 0x0A0 ≤ off ∧ off < 0x0C0 then d.otpTable.getD ((off - 0x0A0) / 4) 0
  else 0

/-- BNK_SPARE_s of the bank selected. -/
def Dev.spareWord (d : Dev) (off : Nat) : Nat :=
  if 0x1A4 ≤ off ∧ off < 0x1B4 then
    match ((d.mbank (d.rd bnkSpareSel)).spares.getD ((off - 0x1A4) / 4) none) with
    | some (row, kept) => 2 ^ 31 + flagAt kept 30 + row % 128
    | none => 0
  else 0

/-- The view of the stream selected (R443). -/
def Dev.viewWord (d : Dev) (off : Nat) : Nat :=
  let x := d.stream (d.rd pgrSel)
  match off with
  | 0x060 => x.retry * 2 ^ 16 + x.depth * 2 ^ 8 + x.replace * 2 ^ 5 + x.check * 2 ^ 4 + x.src * 2 ^ 3 + x.kind
  | 0x064 => x.base
  | 0x068 => x.len
  | 0x06C => x.ring
  | 0x070 => x.start
  | 0x074 => x.flush
  | 0x078 => x.wr
  | 0x07C => x.rd % 2 ^ 32
  | 0x080 => x.errAddr
  | 0x084 => x.consumer.getD 0xFFFF * 2 ^ 16 + x.cause * 2 ^ 8 + x.state
  | 0x08C => x.result
  | _ => 0

/-- Status of a lane (R390, R391): ECC fault, evaluation in progress, and the program-memory words free and used. -/
def Dev.laneWord (d : Dev) (l off : Nat) : Nat :=
  if off = 0x040 then
    flagAt (if l < 6 then d.isActive 0x2A01 l else d.isActive 0x3A01 (l - 6)) 10 + flagAt (d.admBusy l) 9 +
      (if l < 6 then maskOf ((List.range 4).filter (fun k => d.st (4 * l + k) == stService)) * 2 ^ 4 else 0)
  else if off = 0x070 then
    let used := (d.usedRanges l).foldl (fun s x => s + x.2) 0
    (8192 - used) * 2 ^ 16 + used
  else if l ≥ 6 ∧ off = 0x04C then binLoad (d.counted.binPrograms (l - 6)) (d.rd (glnBinSel (l - 6)))
  else 0

/-- The program identifiers and issue costs of an axis, and the state of its slots (R356, R380, R386, R389). -/
def Dev.prgWord (d : Dev) (n off : Nat) : Nat :=
  let s := fun (p : Nat → Bool) => maskOf ((List.range 4).filter p)
  match off with
  | 0x040 =>
    flagAt (d.loopOpen n) 17 + flagAt (d.install n).isSome 16 + s (fun i => (d.slot n i).id == 0) * 2 ^ 12 +
      s (fun i => (d.slot n i).id == 0x8000) * 2 ^ 8 +
      s (fun i => d.commits.any (fun q => decide (q.page = .prg n) && bitAt q.swap i)) * 2 ^ 4 + s (fun i => (d.slot n i).active)
  | 0x044 => (d.slot n 1).id * 2 ^ 16 + (d.slot n 0).id
  | 0x048 => (d.slot n 3).id * 2 ^ 16 + (d.slot n 2).id
  | 0x04C => d.issueCost n 1 * 2 ^ 16 + d.issueCost n 0
  | 0x050 => d.issueCost n 3 * 2 ^ 16 + d.issueCost n 2
  | _ => 0

/-- Words of the pages of an axis that are not stored. -/
def Dev.axisWord (d : Dev) (p : Page) (off t : Nat) : Nat :=
  match p, off with
  | .axb n, 0x040 => flagAt (d.inScope n) 9 + flagAt (d.armable n) 8
  | .drv n, 0x040 =>
    flagAt ((List.range 3).any (fun x => d.shiftAt n x t != 0)) 9 + flagAt (decide (16 ≤ n)) 7 + flagAt (d.enabled n) 6 + d.bridge n
  | .drv n, 0x090 => wrapTo 32 (d.shiftAt n 0 t)
  | .drv n, 0x094 => wrapTo 32 (d.shiftAt n 1 t)
  | .drv n, 0x098 => wrapTo 32 (d.shiftAt n 2 t)
  | .cur n, 0x058 => d.wLate n
  | .foc n, 0x040 => flagAt (d.parValid n) 10
  | .prg n, off => d.prgWord n off
  | _, _ => 0

/-- Words of a page that are computed from the state when they are read. -/
def Dev.computedWord (d : Dev) (p : Page) (off t : Nat) : Nat :=
  match p with
  | .dev => d.devWord off
  | .chron => d.chronWord off
  | .flt => d.fltWord off
  | .otp => d.otpWord off
  | .pst => if off = 0x040 then flagAt d.pins.vok 5 else 0
  | .bnk => d.spareWord off
  | .pgr => d.viewWord off
  | .smp q => if off = 0x040 then flagAt (d.smpOf q).sw.isSome 2 + flagAt (d.hwBusy q) 1 + flagAt (d.serves q) 0 else 0
  | .gpio => if off = 0x040 then d.gpioIn else 0
  | .net => if off = 0x074 then d.ctxUsed else 0
  | .clu c => d.laneWord c off
  | .gln g => d.laneWord (6 + g) off
  | .pwd c => if off = 0x040 then flagAt (bitAt d.pins.vgd c) 2 + flagAt (bitAt d.pins.den c) 0 else 0
  | .xst => if off = 0x040 then d.pins.xflt % 256 * 2 ^ 16 + flagAt (d.pins.denx && d.safeValid) 1 + flagAt d.pins.denx 0 else 0
  | .evp k => if off = 0x040 then flagAt (d.on (evpLatArm k)) 9 + flagAt (d.evpLevelNow k t) 8 else 0
  | .time => if off = 0x040 then d.now % 2 ^ 32 else if off = 0x044 then d.now / 2 ^ 32 % 2 ^ 32 else 0
  | p => d.axisWord p off t

/-- The RO word that shows the values in effect of RWT fields; ANGLE_SRC shows an observer fallback (R288). -/
def Dev.shownAct (d : Dev) (p : Page) (off : Nat) : Nat :=
  match actOf p off with
  | none => 0
  | some src =>
    match p with
    | .foc n => putBits (d.actWord p src) 4 2 (d.angleSrc n)
    | _ => d.actWord p src

/-- The word at an offset of a page, live. -/
def Dev.liveWord (d : Dev) (r : Req) (p : Page) (off t : Nat) : Nat :=
  if off < 0x040 then d.headerWord r p off
  else d.storedWord p off + d.computedWord p off t + d.shownAct p off

/-- A 64-bit register begins at an offset of a page. -/
def wideAt (p : Page) (off : Nat) : Bool :=
  decide (p = .time ∧ off = 0x040) || (pageFields p).any (fun f => f.w == 64 && f.off == off)

/-- Forget the holding copies of a requester. -/
def Dev.dropCopies (d : Dev) (r : Req) : Dev := { d with rdHold := d.rdHold.filter (fun x => !x.1.same r) }

/-- Read the word of a present page (R12, R59): a low word captures the high word, which the next read of it returns. -/
def Dev.readWord (d : Dev) (r : Req) (p : Page) (off t : Nat) : Nat × Dev :=
  let i := pageIndex p
  match d.rdHold.find? (fun x => x.1.same r && x.2.1 == i && x.2.2.1 == off) with
  | some x => (x.2.2.2, d.dropCopies r)
  | none =>
    match p with
    | .prg n =>
      if 0x800 ≤ off ∧ off < 0xC00 then d.windowWord n ((off - 0x800) / 4) else (d.liveWord r p off t, d)
    | _ =>
      let v := d.liveWord r p off t
      if wideAt p off then
        let e : Req × Nat × Nat × Nat := (r, i, off + 4, d.liveWord r p (off + 4) t)
        (v, { d.dropCopies r with rdHold := (d.dropCopies r).rdHold ++ [e] })
      else (v, d)

/-! ### Writing a field -/

/-- Fields of a plain write that take the nearest bound of their stated range. -/
def writeBounds : Page → List (Fld × Nat × Nat)
  | .time => [(timeHoldLimit, 8, 65535)]
  | .drv n => [(drvDeadtime n, 40, if n < 16 then 800 else 1600), (drvPulseMin n, 0, 800), (drvOcBlank n, 0, 160)]
  | .adc c => (List.range 16).map (fun e => (adcSeqCfgTs c e, 3, 320)) ++ (List.range 8).map (fun i => (adcInjCfgTs c i, 3, 320)) ++
      [(adcLogSize c, 64, 16384)]
  | .xck p => [(xckXchkPeriod p, 1, 65535)]
  | .cur n => [(curOfsN n, 16, 255), (curOfsPeriod n, 64, 65535)]
  | .fb p => [(fbTStill p, 200, 2 ^ 24 - 1), (fbWireT p, 4, 65535)]
  | .mot n => [(motCapSize n, 64, 16384)]
  | .bnk => [(bnkHoTmax, 1, 65535), (bnkSweepInt, 1000, 2 ^ 24 - 1)]
  | .smp q => [(smpSize q, 20, 31), (smpHwDiv q, 1, 15), (smpCsHigh q, 1, 15), (smpCsHold q, 1, 15), (smpCsSetup q, 1, 15),
      (smpSwDiv q, 1, 255), (smpSwLen q, 1, 16384)]
  | .pgr => [(pgrSel, 0, 47)]
  | .net => [(netSeg, 0, 1022), (netRetxT, 10, 65535), (netRetxN, 1, 15), (netCtxHold, 10, 65535), (netMissN, 2, 255),
      (netSendOfs, 20, 10000), (netDres, 2, 255), (netNcyc, 0, 4)]
  | .alm => [(almSlotMib, 1, 15), (almRestartMax, 1, 15), (almQuietTmax, 1, 1000), (almWdt, 5, 1000)]
  | .hsp => [(hspDummy, 4, 255)]
  | _ => []

/-- The value of a Q16.16 field limited to integers. -/
def limit32 (lo hi : Int) (x : Nat) : Nat := wrapTo 32 (clampInt lo hi (signedOf 32 x))

/-- A SAFE word as a lower or upper bound of a Q16.16 voltage. -/
def Dev.safeVolts (d : Dev) (w : Nat) (default : Int) : Int := ((d.safeWord w).map (fun m => (signedOf 32 m : Int))).getD default

/-- The bus and temperature limits respect their range and the SAFE region (R126, R511). -/
def Dev.limitSupply (d : Dev) (f : Fld) (x : Nat) : Nat :=
  match f.pg with
  | .pwd c =>
    if f = pwdVbusUv c then limit32 (max 0x80000 (d.safeVolts (76 + c) 0)) (d.rdS (pwdVbusOv c)) x
    else if f = pwdVbusHyst c then limit32 0x4000 0x40000 x
    else if f = pwdVbusOv c then limit32 0 (min 0x410000 (d.safeVolts (72 + c) 0x410000)) x
    else if f = pwdTempTrip c then
      let safe := ((d.safeWord (82 + c)).map (fun m => signedOf 16 m)).getD 0x7F80
      wrapTo 16 (clampInt (-32768) (min 0x7F80 safe) (signedOf 16 x))
    else x
  | .xst =>
    if f = xstVbusOv then limit32 0 (d.safeVolts 80 (2 ^ 31 - 1)) x
    else if f = xstVbusUv then limit32 (d.safeVolts 81 0) (2 ^ 31 - 1) x
    else x
  | _ => x

/-- A position register takes the sign extension of bit 47 (R11). -/
def positionField (f : Fld) : Bool :=
  match f.pg with
  | .fb p => decide (f = fbPosSet p) || decide (f = fbLimLo p) || decide (f = fbLimHi p) || decide (f = fbRefValue p)
  | .evp k => decide (f = evpNetP k)
  | _ => false

/-- An injection field keeps its code on a write that is ignored (R136, ADC_INJ_CFG). -/
def Dev.keepsInj (f : Fld) (x : Nat) : Bool :=
  match f.pg with
  | .adc c => (List.range 8).any (fun i => (decide (f = adcInjCfgGain c i) && decide (5 ≤ x)) || (decide (f = adcInjCfgTrig c i) && decide (6 ≤ x)))
  | _ => false

/-- The frequencies of the excitation, 0 to 1 / (2 T_tick) (R304). -/
def Dev.excFreq (d : Dev) (f : Fld) : Bool :=
  match f.pg with
  | .mot n => (decide (f = motExcF0 n) || decide (f = motExcF1 n)) && d.tickNs != 0
  | _ => false

/-- The value that a written field takes. -/
def Dev.taken (d : Dev) (f : Fld) (x : Nat) : Nat :=
  match (writeBounds f.pg).find? (fun b => decide (b.1 = f)) with
  | some b => clampNat b.2.1 b.2.2 x
  | none =>
    if positionField f then wrapTo 64 (signedOf 48 x)
    else if Dev.keepsInj f x then d.rd f
    else if d.excFreq f then min x (1000000000 * 65536 / (2 * d.tickNs))
    else d.limitSupply f x

/-- The full scales of the current channels are RO on axes 0 to 15, where OTP gives them (CUR_FS_U to CUR_FS_LINK). -/
def roHere (f : Fld) : Bool :=
  match f.pg with
  | .cur n => decide (n < 16) && (decide (f = curFsU n) || decide (f = curFsV n) || decide (f = curFsW n) || decide (f = curFsLink n))
  | _ => false

/-- Write one field under its access code (R14); a changed shadow of an admission input starts an evaluation (R375). -/
def Dev.writeField (d : Dev) (f : Fld) (x t : Nat) : Dev :=
  match f.acc with
  | .rw => if roHere f then d else d.wr f (d.taken f x)
  | .rwt =>
    let v := d.taken f x
    let d' := d.wrSh f t v
    if isAdmInput f && d.sh f != v % 2 ^ f.w then d'.admChange (admInputs f.pg).2 t else d'
  | .w1c => d.wr f (maskMinus (d.rd f) x)
  | _ => d

/-- Write every field of a word; a 64-bit field takes the low word and the high word held for it, or keeps its own (R13). -/
def Dev.storeWord (d : Dev) (p : Page) (off v : Nat) (high : Option Nat) (t : Nat) : Dev :=
  ((pageFields p).filter (fun f => f.off == off)).foldl (fun d f =>
    if f.w = 64 then
      let old := if f.acc = .rwt then d.sh f else d.rd f
      d.writeField f (v + high.getD (old / 2 ^ 32) * 2 ^ 32) t
    else d.writeField f (bitsAt v f.lo f.w) t) d

/-! ### What a write does besides -/

/-- Every consumer takes the entries that its stream can deliver. -/
def Dev.pump (d : Dev) (mem : Mem) (t : Nat) : Dev :=
  let d := d.each (List.range 24) (fun n d => if (d.prof n).stream.isSome then d.fillEph mem n t t else d)
  d.each (List.range 12) (fun k d => if (d.evp k).stream.isSome then (d.fillRet mem k t 16).settleList k t else d)

/-- DEV_COMMIT_HOLD (R69). -/
def effHold (hold : Bool) (t : Nat) (d : Dev) : Dev :=
  let d' := d.wrB devCommitHold hold
  if d.on devCommitHold && !hold then { d' with holdEnd := t } else d'

/-- TICK_SLEW (R52): 0 and values above 200 are ignored and set TICK_REFUSED. -/
def effTickSlew (v : Nat) (_t : Nat) (d : Dev) : Dev :=
  if v % 256 = 0 ∨ 200 < v % 256 then (d.ev .time 4).sticky .time 0 else d.wr timeTickSlew v

/-- FOC_INT_RESET (R200). -/
def effFocReset (n : Nat) (_t : Nat) (d : Dev) : Dev := d.modAx n (fun a => { a with focReset := true })

/-- MOT_INT_RESET (R283). -/
def effMotReset (n : Nat) (_t : Nat) (d : Dev) : Dev := d.modAx n (fun a => { a with velReset := true, posReset := true })

/-- CRV_NET_VAL (R326): a new input value for SRC 1. -/
def effCrvNet (n v : Nat) (_t : Nat) (d : Dev) : Dev :=
  let d := d.wr (crvNetVal n) v
  if d.rd (crvSrc n) = 1 then d.curveInput n (d.rdS (crvNetVal n)) else d

/-- PRF_V_TARGET (R314, R315): a write ends what HALT did to the SPEED target. -/
def Dev.writeVTarget (d : Dev) (n : Nat) : Dev := d.modProf n (fun g => { g with halted := false })

/-- DRV_TEST.TEST_EN (DRV_TEST): only in OFF with the enable high. -/
def Dev.writeTest (d : Dev) (n v t : Nat) : Dev :=
  if v % 2 = 1 then
    if d.st n = stOff ∧ d.enabled n then (d.wr (drvTestEn n) 1).modAx n (fun a => { a with bridge := 1 }) else d
  else if d.on (drvTestEn n) then (d.wr (drvTestEn n) 0).bridgeOff n t
  else d

/-- MOT_EXC_CTRL (R291). -/
def Dev.writeExc (d : Dev) (n v t : Nat) : Dev :=
  let d := ((d.wr (motExcCap n) (bitsAt v 5 1)).wr (motExcChirp n) (bitsAt v 4 1)).wr (motExcPoint n) (bitsAt v 1 2)
  if v % 2 = 1 then effExcStart n t d else effExcEnd n true t d

/-- FB_REF_CTRL (R237): a write of 1 arms, a write of 0 cancels. -/
def Dev.writeRef (d : Dev) (p v t : Nat) : Dev := if v % 2 = 1 then effRefArm p t d else (d.wr (fbRefArm p) 0).syncSetPend p

/-- PRG_INST_CMD (R380): actions 1 to 3. -/
def Dev.writeInst (d : Dev) (r : Req) (n v t : Nat) : Dev :=
  let slot := v % 4
  match bitsAt v 2 2 with
  | 1 => effInstallCustom r n slot (bitAt v 4) t d
  | 2 => effInstallStock r n slot (bitsAt v 16 16) t d
  | 3 => effRemove r n slot t d
  | _ => d

/-- The configuration of a stream, written while it is CLOSED (R443). -/
def Dev.writeStream (d : Dev) (mem : Mem) (off v t : Nat) : Dev :=
  let s := d.rd pgrSel
  let set := fun (f : Stream → Stream) => if (d.stream s).isOpen then d else d.modStream s f
  match off with
  | 0x060 => set (fun x => { x with retry := bitsAt v 16 3, depth := clampNat 1 15 (bitsAt v 8 4), replace := bitsAt v 5 1,
                                    check := bitsAt v 4 1, src := bitsAt v 3 1, kind := bitsAt v 0 2 })
  | 0x064 => set (fun x => { x with base := v })
  | 0x068 => set (fun x => { x with len := v })
  | 0x06C => set (fun x => { x with ring := v % 2 ^ 24 })
  | 0x070 => set (fun x => { x with start := v })
  | 0x074 => set (fun x => { x with flush := clampNat 1 65535 (v % 65536) })
  | 0x078 => (effRingWrite v t d).pump mem t
  | 0x088 =>
    match v % 4 with
    | 1 => effOpen t d
    | 2 => effClose t d
    | 3 => (effRetry t d).pump mem t
    | _ => d
  | _ => d

/-- NET_RETX and NET_CTX (R472): refused when the retransmission span would reach CTX_HOLD. -/
def Dev.writeRetx (d : Dev) (off v t : Nat) : Dev :=
  let new := d.storeWord .net off v none t
  if new.rd netCtxHold * 1000 ≤ new.rd netRetxT * (new.rd netRetxN + 1) then d.ev .net 7 else new

/-- The slices of a set of stations are word aligned and do not overlap (R460). -/
def Dev.slicesOk (d : Dev) (stns : List Nat) : Bool :=
  let parts := stns.flatMap (fun s => let x := d.sliceEntry s; [(x.outOff, x.outLen), (x.inOff, x.inLen)])
  parts.all (fun x => x.1 % 4 == 0 && x.2 % 4 == 0) &&
    (List.range parts.length).all (fun i => (List.range i).all (fun j =>
      let a := parts.getD i (0, 0)
      let b := parts.getD j (0, 0)
      a.2 == 0 || b.2 == 0 || decide (a.1 + a.2 ≤ b.1) || decide (b.1 + b.2 ≤ a.1)))

/-- NET_SLICE_s (R460, R466): the entry of a station of the segment is judged and sent to it. -/
def Dev.writeSlice (d : Dev) (off v t : Nat) : Dev :=
  let s := (off - 0x800) / 8
  let new := d.storeWord .net off v none t
  if s = 0 ∨ 254 < s then d
  else if !(d.on netHeadSide && d.stns.contains s) then new
  else if !new.slicesOk new.stns then d.ev .net 7
  else if new.capacityAt (new.rd timeTickPeriod) < 0 then d.noCapacity
  else new.sendSlice s (d.sliceEntry s) t

/-- The word at an offset is handled whole by its own rule, in place of the plain write of its fields. -/
def ownRule : Page → Nat → Bool
  | .dev, off => off == 0x060
  | .time, off => off == 0x078
  | .chron, off => off == 0x058 || off == 0x05C
  | .flt, off => off == 0x068 || decide (0x400 ≤ off)
  | .drv _, off => off == 0x400
  | .fb _, off => off == 0x0C0
  | .mot _, off => off == 0x0C0
  | .crv _, off => off == 0x064
  | .evp _, off => off == 0x0A0
  | .alm, off => off == 0x050 || off == 0x054
  | .net, off => off == 0x044 || off == 0x070 || off == 0x074 || decide (0x800 ≤ off)
  | .gpio, off => off == 0x044 || off == 0x050 || off == 0x064
  | _, _ => false

/-- What the write of a word of a device-wide page does besides. -/
def Dev.actSystem (d : Dev) (mem : Mem) (r : Req) (p : Page) (off v t : Nat) : Dev :=
  match p with
  | .dev => if off = 0x060 then effHold (bitAt v 0) t d else d
  | .time => if off = 0x078 then effTickSlew v t d else d
  | .chron =>
    if off = 0x058 then effAlmanacRecord r v t d
    else if off = 0x05C ∧ r = .alm then d.wr chronAlmData v
    else d
  | .flt =>
    if off = 0x048 then d.requestClear (bitAt v 31) (bitsAt v 16 7) (bitsAt v 0 5) r.src t
    else if off = 0x068 then d.writePkgTrip v
    else if 0x400 ≤ off ∧ off < 0x600 then d.writeReact ((off - 0x400) / 4) v r t
    else d
  | .otp =>
    if off = 0x044 then d.otpCommand mem r (bitsAt v 0 4) (bitsAt v 8 4) t
    else if off = 0x424 ∧ bitAt v 0 then d.otpRaw r [] t
    else d
  | .pst => if off = 0x054 then d.pstCommand mem r (bitsAt v 0 2) (bitAt v 8) t else d
  | .bnk =>
    if off = 0x050 then effHandover r (bitAt v 31) (bitsAt v 24 5) (bitsAt v 16 4) (bitsAt v 0 16) t d
    else if off = 0x05C then effBankPower r (bitsAt v 24 5) (bitsAt v 0 2) t d
    else d
  | .pgr => d.writeStream mem off v t
  | .smp q => if off = 0x06C ∧ bitAt v 0 then effSwGo q r t d else d
  | .mer => if off = 0x044 then d.merCommand r (bitsAt v 0 8) (bitsAt v 8 8) t else d
  | .alm => if off = 0x050 then effHeartbeat r v t d else if off = 0x054 then effQuiet r v t d else d
  | .gpio =>
    match off with
    | 0x044 => d.gpioWrite gpioOut v
    | 0x048 => effGpioSet v t d
    | 0x04C => effGpioClr v t d
    | 0x050 => d.gpioWrite gpioDir v
    | 0x064 => d.gpioWrite gpioOd v
    | _ => d
  | .lnk m => if off = 0x044 ∧ !bitAt v 0 ∧ d.on (lnkState m) then effLinkDown m 0 t d else d
  | .net =>
    if off = 0x044 then d.writeNetCtrl v t
    else if off = 0x070 ∨ off = 0x074 then d.writeRetx off v t
    else if off = 0x088 then d.writeNetCmd (bitsAt v 0 4) t
    else if 0x800 ≤ off then d.writeSlice off v t
    else d
  | _ => d

/-- What the write of a word of a cluster, axis or event-port page does besides. -/
def Dev.actUnit (d : Dev) (mem : Mem) (r : Req) (p : Page) (off v : Nat) (high : Option Nat) (t : Nat) : Dev :=
  match p with
  | .adc c =>
    if off = 0x044 ∧ bitAt v 8 then effFgcal c t d
    else if off = 0x060 ∧ bitAt v 31 then effSeqGo c t d
    else if off = 0x1E0 then effInjGo c (v % 256) t d
    else d
  | .xck p => if off = 0x070 ∧ bitAt v 0 then effXckClear p t d else d
  | .clu c => if off = 0x078 ∧ bitAt v 0 then effCluClear c t d else d
  | .gln g => if off = 0x078 ∧ bitAt v 0 then effGlnClear g t d else d
  | .axb n => if off = 0x04C then d.axbCommand n (v % 16) r.src t else d
  | .drv n => if off = 0x400 then d.writeTest n v t else d
  | .foc n => if off = 0x04C ∧ bitAt v 0 then effFocReset n t d else d
  | .mot n =>
    if off = 0x04C ∧ bitAt v 0 then effMotReset n t d
    else if off = 0x0C0 then d.writeExc n v t
    else d
  | .prf n =>
    if off = 0x044 then (if 1 ≤ v % 16 ∧ v % 16 ≤ 7 then d.prfCommand n (v % 16) r t else d)
    else if off = 0x06C then d.writeVTarget n
    else d
  | .fb p =>
    if off = 0x054 ∧ bitAt v 0 then effSetPos p t d
    else if off = 0x0C0 then d.writeRef p v t
    else d
  | .crv n => if off = 0x064 then effCrvNet n v t d else d
  | .prg n =>
    if off = 0x05C then d.writeInst r n v t
    else if off = 0x064 then effPrgSwap r n (v % 16) t d
    else if 0x800 ≤ off ∧ off < 0xC00 then effPbWrite r n ((off - 0x800) / 4) v t d
    else d
  | .evp k =>
    if off = 0x04C then (if v % 16 = 1 ∨ v % 16 = 2 then d.evpCommand k (v % 16) r t else d)
    else if off = 0x0A0 then effNetSample k (v + high.getD (d.rd (evpNetTs k) / 2 ^ 32) * 2 ^ 32) t mem d
    else d
  | _ => d

/-- The header words of a page (R61). -/
def Dev.writeHeader (d : Dev) (r : Req) (p : Page) (off v t : Nat) : Dev :=
  match off with
  | 0x00C => d.wr (pageEvent p) (maskMinus (d.rd (pageEvent p)) v)
  | 0x010 => d.wr (pageEventEn p) v
  | 0x014 => d.wr (pageSticky p) (maskMinus (d.rd (pageSticky p)) v)
  | 0x018 => if bitAt v 0 then d.requestCommit r p t else d
  | 0x01C => d.writeKey r p (v % 256) t
  | _ => d

/-- Write a word of a present page that accepts it. -/
def Dev.writeWord (d : Dev) (mem : Mem) (r : Req) (p : Page) (off v : Nat) (high : Option Nat) (t : Nat) : Dev :=
  if off < 0x040 then d.writeHeader r p off v t
  else
    let d := if ownRule p off then d else d.storeWord p off v high t
    (d.actSystem mem r p off v t).actUnit mem r p off v high t

/-! ### The order of the writes of one system cycle (R60) -/

/-- The words whose write is a command, a request or a clear: they act in the order of the queue (log entry 199). The other
words hold what stands last. -/
def commandWord (p : Page) (off : Nat) : Bool :=
  if off < 0x040 then off != 0x010
  else
    match p with
    | .net => off == 0x088
    | .prg _ => off == 0x05C || off == 0x064
    | .clu _ | .gln _ => off == 0x078
    | .evp _ => off == 0x04C
    | .gpio => off == 0x048 || off == 0x04C
    | .otp => off == 0x044 || off == 0x424
    | .pst => off == 0x054
    | .bnk => off == 0x050 || off == 0x05C
    | .smp _ => off == 0x06C
    | .pgr => off == 0x088
    | .adc _ => off == 0x044 || off == 0x060 || off == 0x1E0
    | .xck _ => off == 0x070
    | .fb _ => off == 0x054 || off == 0x0C0
    | .mer => off == 0x044
    | .alm => off == 0x050 || off == 0x054
    | .flt => off == 0x048
    | .chron => off == 0x058
    | .axb _ | .foc _ => off == 0x04C
    | .mot _ => off == 0x04C || off == 0x0C0
    | .prf _ => off == 0x044
    | _ => false

/-- A requester that writes later in the order of R60 has written the word in the system cycle of t: its value stands. -/
def Dev.overruled (d : Dev) (r : Req) (p : Page) (off t : Nat) : Bool :=
  d.cycleAt == t / 5 && !commandWord p off && d.cycleWrites.any (fun x => decide (r.rank < x.1) && x.2.1 == pageIndex p && x.2.2 == off)

/-- A write of a word is noted for the rest of its system cycle. -/
def Dev.noteWrite (d : Dev) (r : Req) (p : Page) (off t : Nat) : Dev :=
  let old := if d.cycleAt = t / 5 then d.cycleWrites else []
  { d with cycleAt := t / 5, cycleWrites := old ++ [(r.rank, pageIndex p, off)] }

/-- A write f of a word that is accepted (R60, R65, R70): it takes its effect unless the value of another requester stands, and
in the expert area it is recorded. -/
def Dev.accept (d : Dev) (r : Req) (p : Page) (off t : Nat) (f : Dev → Dev) : Dev :=
  let d := if d.overruled r p off t then d.noteWrite r p off t else f (d.noteWrite r p off t)
  if 0x400 ≤ off then d.expertWritten r p off t else d

/-! ### Accesses -/

/-- A requester reaches pages (R77): the host port from the end of step 2 on, a network requester once step 8 has admitted
the device on its link, the two cores throughout. -/
def Dev.reaches (d : Dev) : Req → Bool
  | .host => decide (2 ≤ d.stepsDone)
  | .net m _ => decide (6 ≤ d.stepsDone) && d.executes m
  | _ => true

/-- The result of a page access (R58): 1 NO_PAGE, 2 BAD_ACCESS. -/
def accessResult (page off : Nat) (sized : Bool) : Nat :=
  if (pageAt page).isNone then 1 else if off % 4 ≠ 0 ∨ 0xFFC < off ∨ !sized then 2 else 0

/-- The 64-bit register whose high word a write addresses (R13). -/
def highOf (p : Page) (off : Nat) : Bool :=
  decide (4 ≤ off) && (pageFields p).any (fun f => f.w == 64 && f.off + 4 == off && (decide (f.acc = .rw) || decide (f.acc = .rwt)))

/-- Forget the high word that a requester has written (R13). -/
def Dev.dropHigh (d : Dev) (r : Req) : Dev := { d with wrHold := d.wrHold.filter (fun x => !x.1.same r) }

/-- A write of one word of a page (R13, R57, R58, R60, R63, R70): its result and the new state. -/
def Dev.busWrite (d : Dev) (mem : Mem) (r : Req) (page off v : Nat) (sized : Bool) (t : Nat) : Nat × Dev :=
  let v := v % 2 ^ 32
  let held := (d.wrHold.find? (fun x => x.1.same r && x.2.1 == page && x.2.2.1 == off)).map (fun x => x.2.2.2)
  let d := d.dropHigh r
  match pageAt page with
  | none => (1, d.accessRefused r page off 1 true t)
  | some p =>
    if accessResult page off sized = 2 then (2, d.accessRefused r page off 2 true t)
    else if 0x400 ≤ off ∧ !d.expertOpen r p then (3, d.accessRefused r page off 3 true t)
    else if highOf p off then (0, { d with wrHold := d.wrHold ++ [(r, page, off - 4, v)] })
    else (0, d.accept r p off t (fun d => d.writeWord mem r p off v held t))

/-- A read of one word of a page (R12, R57 to R59): its result, the word and the new state. -/
def Dev.busRead (d : Dev) (r : Req) (page off : Nat) (sized : Bool) (t : Nat) : Nat × Nat × Dev :=
  match pageAt page with
  | none => (1, 0, d.accessRefused r page off 1 false t)
  | some p =>
    if accessResult page off sized = 2 then (2, 0, d.accessRefused r page off 2 false t)
    else
      let (v, d) := d.readWord r p off t
      (0, v, d)

/-- What an access returns to its requester. -/
def Dev.answered (d : Dev) (result : Nat) (data : List Nat) : Dev := { d with answer := some { result := result, data := data } }

/-- An access of a core to an internal address that is not mapped (R53, R58): the page and offset that it is recorded with
are not stated, and are free (log entry 1). -/
def Dev.unmapped (d : Dev) (r : Req) (write : Bool) (t : Nat) : Dev :=
  let (x, d) := d.free
  d.accessRefused r (x % 4096) (x / 4096 % 4096) 1 write t

/-- The page and offset of an internal address (R53). -/
def pageAddress (a : Nat) : Option (Nat × Nat) := if 0x10000000 ≤ a ∧ a < 0x11000000 then some (a / 4096 % 4096, a % 4096) else none

/-- An access of a core outside the pages (R53, R58, R420): a window is not written, an address that nothing is mapped to
is refused; a bank is reached by BANK_ACCESS. -/
def Dev.beyondPages (d : Dev) (r : Req) (a : Nat) (write : Bool) (t : Nat) : Dev :=
  if a < memSize then d
  else if inWindow a then
    let (x, d) := d.free
    (d.accessRefused r (x % 4096) (x / 4096 % 4096) 2 write t).answered 2 []
  else (d.unmapped r write t).answered 1 (if write then [] else [0])

/-- REGISTER_WRITE (R60): one word by internal address. -/
def effRegWrite (r : Req) (a bytes v : Nat) (t : Nat) (mem : Mem) (d : Dev) : Dev :=
  if !d.reaches r then d
  else
  match pageAddress a with
  | none => d.beyondPages r a true t
  | some (page, off) =>
    let (x, d) := d.busWrite mem r page off v (bytes == 4) t
    d.answered x []

/-- REGISTER_READ (R12). A window address is served by a valid line buffer; a miss requests the line, which WINDOW_LINE_FETCH delivers (R421). -/
def effRegRead (r : Req) (a bytes : Nat) (t : Nat) (d : Dev) : Dev :=
  if !d.reaches r then d
  else
  match pageAddress a with
  | none =>
    if inWindow a then d.windowAsk a bytes t
    else d.beyondPages r a false t
  | some (page, off) =>
    let (x, v, d) := d.busRead r page off (bytes == 4) t
    d.answered x [v]

end Sys2Proof.Machine
end

