-- ==== Sys2Proof/Machine/HostPort.lean ====
section
/-! DEFINITION. The frames of the host port (R498 to R503). A frame is one command: all its units act at its time, in
order (log entry 17). -/
namespace Sys2Proof.Machine

/-- The status byte that HS_SDO carries under the opcode (R500). -/
def Dev.statusByte (d : Dev) : Nat :=
  (if d.on devReady then 2 ^ 7 else 0) + (if d.irq then 2 ^ 6 else 0) + d.rd hspLastFlags

/-- A frame under way. -/
structure HostRun where
  /-- The block. -/
  dev : Dev
  /-- The on-chip memory. -/
  mem : Mem
  /-- The first result other than OK. -/
  result : Nat := 0
  /-- ERR. -/
  err : Bool := false
  /-- OVERRUN. -/
  overrun : Bool := false
  /-- Units read. -/
  data : List Nat := []
  /-- What the device of a window answers to the line fetches still to come: no DQS edge, and the 8 words. -/
  lines : List (Bool × List Nat) := []

/-- A unit ends with a result. -/
def HostRun.res (x : HostRun) (r : Nat) : HostRun := if x.result = 0 then { x with result := r } else x

/-- The frame has ended (R500, R503, R508): `part` bits of a partial unit; `short` when it was cut. -/
def HostRun.close (x : HostRun) (opcode units part : Nat) (short : Bool) (status : Nat) : Dev × Mem :=
  let flags := (if x.overrun then 2 ^ 5 else 0) + (if short then 2 ^ 4 else 0) + (if x.err then 2 ^ 3 else 0) + x.result
  let d := ((((x.dev.wr hspLastOpcode opcode).wr hspLastUnits (min units 2047)).wr hspLastPartial part).wr hspLastFlags flags).inw hspFrames
  let d := d.when_ short (fun d => (d.inc hspShorts).ev .hsp 0)
  let d := d.when_ x.overrun (fun d => (d.inc hspOverruns).ev .hsp 1)
  let d := d.when_ (x.result != 0 || x.err) (fun d => d.ev .hsp 2)
  ({ d with memBusy := false, answer := some { result := status, data := x.data } }, x.mem)

/-- A frame of the host port: ignored before the end of start-up step 2 (R77), and discarded when the select rises before
the 24th address bit (R503). -/
def Dev.hostFrame (d : Dev) (mem : Mem) (opcode addrBits : Nat) (f : HostRun → Nat → Dev × Mem) : Dev × Mem :=
  if d.stepsDone < 2 then (d, mem)
  else if addrBits < 24 then { dev := d, mem := mem, result := 7 : HostRun }.close opcode 0 0 false d.statusByte
  else f { dev := d, mem := mem } d.statusByte

/-! ### Write frames -/

/-- Apply write units from address a on, in a block that ends before `stop`. -/
def HostRun.writes (x : HostRun) (size stop : Nat) (f : Nat → Nat → HostRun → HostRun) : Nat → List Nat → HostRun
  | _, [] => x
  | a, v :: vs =>
    let x := if stop < a + size then { x with overrun := true } else f a v x
    HostRun.writes x size stop f (a + size) vs

/-- A write frame: its complete units, and `part` bits of another one. -/
def HostRun.writeFrame (x : HostRun) (opcode size stop addr : Nat) (units : List Nat) (part status : Nat) (f : Nat → Nat → HostRun → HostRun) :
    Dev × Mem :=
  let x := x.writes size stop f addr (units.map (fun v => v % 256 ^ size))
  let part := part % (8 * size)
  let x := if part ≠ 0 ∧ stop < addr + size * (units.length + 1) then { x with overrun := true } else x
  x.close opcode units.length part (part != 0) status

/-- PAGE_WRITE (R499). -/
def effHostPageWrite (addrBits addr : Nat) (units : List Nat) (part : Nat) (t : Nat) (mem : Mem) (d : Dev) : Dev × Mem :=
  d.hostFrame mem 0x10 addrBits (fun x status =>
    x.writeFrame 0x10 4 0x1000 (addr % 4096) units part status (fun a v x =>
      let (r, d) := x.dev.busWrite x.mem .host (addr / 4096 % 4096) a v true t
      { x with dev := d }.res r))

/-- End of the bank that a byte address lies in. -/
def bankEnd (a : Nat) : Nat := (a / bankSize + 1) * bankSize

/-- One write unit to a bank (R396, R405). -/
def HostRun.bankUnit (x : HostRun) (size t a v : Nat) : HostRun :=
  if memSize ≤ a then { x with dev := x.dev.unmapped .host true t }.res 1
  else
    let (ok, d, mem) := x.dev.bankStore x.mem 3 a size v t
    { x with dev := d, mem := mem }.res (if ok then 0 else 4)

/-- A bank write frame with units of `size` bytes. -/
def Dev.bankWriteFrame (d : Dev) (mem : Mem) (opcode size addrBits addr : Nat) (units : List Nat) (part t : Nat) : Dev × Mem :=
  d.hostFrame mem opcode addrBits (fun x status =>
    let a := addr % 2 ^ 24
    x.writeFrame opcode size (bankEnd a) a units part status (fun a v x => x.bankUnit size t a v))

/-- BANK_WRITE32. -/
def effBankWrite32 (addrBits addr : Nat) (units : List Nat) (part : Nat) (t : Nat) (mem : Mem) (d : Dev) : Dev × Mem :=
  d.bankWriteFrame mem 0x20 4 addrBits addr units part t

/-- BANK_WRITE16. -/
def effBankWrite16 (addrBits addr : Nat) (units : List Nat) (part : Nat) (t : Nat) (mem : Mem) (d : Dev) : Dev × Mem :=
  d.bankWriteFrame mem 0x22 2 addrBits addr units part t

/-- BANK_WRITE8. -/
def effBankWrite8 (addrBits addr : Nat) (units : List Nat) (part : Nat) (t : Nat) (mem : Mem) (d : Dev) : Dev × Mem :=
  d.bankWriteFrame mem 0x24 1 addrBits addr units part t

/-! ### Read frames -/

/-- Read units i, i + 1, … from address a on. A unit past the block's last byte, or one that is late, is sent as 0; only
units whose first bit was due (`begun` of them) can be late or lie past the end (R501, R502). -/
def HostRun.reads (x : HostRun) (stop begun : Nat) (late : List Nat) (f : Nat → HostRun → Nat × HostRun) (a i : Nat) : Nat → HostRun
  | 0 => x
  | k + 1 =>
    let x :=
      if stop < a + 4 then { x with overrun := x.overrun || decide (i < begun), data := x.data ++ [0] }
      else
        let (v, x) := f a x
        if late.contains i && decide (i < begun) then { x.res 5 with data := x.data ++ [0] } else { x with data := x.data ++ [v] }
    HostRun.reads x stop begun late f (a + 4) (i + 1) k

/-- A read frame with `clocks` clock edges after its address: the dummy clocks, then the bits of its units (R501, R503). -/
def HostRun.readFrame (x : HostRun) (opcode stop addr clocks : Nat) (late : List Nat) (status : Nat) (f : Nat → HostRun → Nat × HostRun) : Dev × Mem :=
  let dummy := x.dev.rd hspDummy
  let bits := clocks - dummy
  let units := bits / 32
  let part := bits % 32
  let made := if clocks = 0 then 0 else units + 1 + if 16 ≤ part then 1 else 0
  let x := x.reads stop (units + if part = 0 then 0 else 1) late f addr 0 made
  let short := part != 0 || (decide (0 < clocks) && decide (clocks < dummy))
  { x with data := x.data.take units }.close opcode units part short status

/-- PAGE_READ (R499, R501). -/
def effHostPageRead (addrBits addr clocks : Nat) (late : List Nat) (t : Nat) (mem : Mem) (d : Dev) : Dev × Mem :=
  d.hostFrame mem 0x11 addrBits (fun x status =>
    x.readFrame 0x11 0x1000 (addr % 4096) clocks late status (fun a x =>
      let (r, v, d) := x.dev.busRead .host (addr / 4096 % 4096) a true t
      (v, { x with dev := d }.res r)))

/-- BANK_READ32 (R394, R396, R499). -/
def effBankRead32 (addrBits addr clocks : Nat) (late : List Nat) (t : Nat) (mem : Mem) (d : Dev) : Dev × Mem :=
  d.hostFrame mem 0x21 addrBits (fun x status =>
    let a := addr % 2 ^ 24
    x.readFrame 0x21 (bankEnd a) a clocks late status (fun a x =>
      if memSize ≤ a then (0, { x with dev := x.dev.unmapped .host false t }.res 1)
      else
        match x.dev.bankLoad x.mem 3 a 4 t with
        | (some v, d) => (v, { x with dev := d })
        | (none, d) => (0, { x with dev := d, err := true })))

/-- EXT_READ (R420, R499): `lines` are the answers to the line fetches of the units that miss. A unit whose line has to wait for its
port is not ready in time (R423, R501, log entry 223). -/
def effExtRead (addrBits addr clocks : Nat) (late : List Nat) (lines : List (Bool × List Nat)) (t : Nat) (mem : Mem) (d : Dev) : Dev × Mem :=
  d.hostFrame mem 0x31 addrBits (fun x status =>
    let base := d.rd hspXbase * 2 ^ 24
    { x with lines := lines }.readFrame 0x31 (2 ^ 24) (addr % 2 ^ 24) clocks late status (fun a x =>
      if base < 0x40000000 then (0, { x with dev := x.dev.unmapped .host false t }.res 1)
      else if a % 4 ≠ 0 then (0, x.res 2)
      else
        let miss := (x.dev.windowHit (base + a) 4).isNone
        let l := x.lines.getD 0 (true, [])
        let (r, d) := x.dev.windowRead (base + a) 4 l.1 l.2 t
        let x := { x with dev := d, lines := if miss && r != WindowRead.stalls then x.lines.drop 1 else x.lines }
        match r with
        | .data v => (v, x)
        | .error => (0, { x with err := true })
        | .stalls => (0, x.res 5)))

/-- STATUS (R499, R500): `bits` clock edges after the opcode; the status byte goes on describing the frame before. -/
def effStatus (bits : Nat) (_t : Nat) (d : Dev) : Dev :=
  if d.stepsDone < 2 then d
  else
    let word := d.rd hspLastOpcode * 2 ^ 24 + d.rd hspLastUnits * 2 ^ 13 + d.rd hspLastPartial * 2 ^ 8 + d.rd hspLastFlags
    let status := d.statusByte
    let d := d.inw hspFrames
    let d := d.when_ (bits % 32 != 0) (fun d => (d.inc hspShorts).ev .hsp 0)
    { d with memBusy := false, answer := some { result := status, data := if 32 ≤ bits then [word] else [] } }

/-- HOST_OPCODE_UNKNOWN (R499). -/
def effUnknownOpcode (opcode : Nat) (_t : Nat) (mem : Mem) (d : Dev) : Dev × Mem :=
  if [0x00, 0x10, 0x11, 0x20, 0x21, 0x22, 0x24, 0x31].contains (opcode % 256) then (d, mem)
  else d.hostFrame mem (opcode % 256) 24 (fun x status => (x.res 6).close (opcode % 256) 0 0 false status)

end Sys2Proof.Machine
end

