-- ==== Sys2Proof/Machine/NetPath.lean ====
section
/-! DEFINITION. What reaches the pages over Llyntal: cyclic pennants at a station and at the head (R460 to R465, R477, R478),
register access on channel 0 (R469) and timed write groups on channel 2 (R470). -/
namespace Sys2Proof.Machine

/-! ### Cyclic pennants at a station -/

/-- The frame as a station sends it on: HOP counted up and, in ACTIVE, its input slice and its status word (R448, R453,
R461). -/
def Dev.passOn (d : Dev) (p : PennantIn) : List Nat :=
  let g := hopUp p.frame
  if d.rd netState = 4 ∧ d.on netAddrValid then
    let stn := stnOf (d.rd netAddr)
    let g := d.insertSlice g (p.ta / 8)
    if stn ≤ pwNsta g then g.set (pwStatus g stn) (d.statusWord p.link.val) else g
  else g

/-- The station has reported in this pennant that an announced period passes R32 (R34, R465). -/
def Dev.reportAck (d : Dev) (p : PennantIn) : Dev :=
  match d.net.ann with
  | some a =>
    let told := d.rd netState == 4 && d.on netAddrValid && decide (stnOf (d.rd netAddr) ≤ pwNsta p.frame) && d.periodBar a.period true == 0
    d.when_ told (fun d => d.modNet (fun n => { n with ann := some { a with acked := true } }))
  | none => d

/-- UNFOLD_NEXT arrives in four pennants; then the stations at the former break stop turning around (R478). -/
def Dev.unfoldSeen (d : Dev) (flag : Bool) : Dev :=
  let seen := if flag then d.net.unfoldSeen + 1 else d.net.unfoldSeen
  if 4 ≤ seen ∨ (!flag ∧ seen ≠ 0) then
    (d.each (List.range 4) (fun m d => d.wr (lnkTurn m) 0)).modNet (fun n => { n with unfoldSeen := 0 })
  else d.modNet (fun n => { n with unfoldSeen := seen })

/-- A good cyclic pennant on its outbound pass (R45, R448, R462, R465, R478, R479). -/
def Dev.goodPennant (d : Dev) (p : PennantIn) (t : Nat) : Dev :=
  let d := (d.learnPennant p t).modNet (fun n => { n with good := n.good + 1 })
  let d := (d.periodSeen p.frame).unfoldSeen (pwFlag p.frame 6)
  let takes := d.rd netState == 1 && d.on devReady && decide (8 ≤ d.net.good)
  d.when_ takes Dev.timeAcquire

/-- Apply one entry with DIR 0 (R461): the high word first where it has 8 bytes (R13). -/
def Dev.applyEntry (d : Dev) (mem : Mem) (r : Req) (f : List Nat) (i t : Nat) : Dev :=
  let off := d.rd (netMapData i)
  if pwDataLen f < off + d.mapBytes i then d
  else
    let page := d.rd (netMapPage i)
    let o := d.rd (netMapOffset i)
    let d := d.when_ (d.on (netMapW8 i)) (fun d => (d.busWrite mem r page (o + 4) (pw f (pwData off + 1)) true t).2)
    (d.busWrite mem r page o (pw f (pwData off)) true t).2

/-- Apply the entries with DIR 0 of a side, in ascending order (R461). -/
def Dev.applyMap (d : Dev) (mem : Mem) (head : Bool) (link src : Nat) (f : List Nat) (t : Nat) : Dev :=
  (d.mapEntries head false).foldl (fun d i => d.applyEntry mem (.net link src) f i t) d

/-- PENNANT (R460 to R465): a cyclic pennant passes the station outbound and, later, on its return pass. -/
def effPennant (p : PennantIn) (t : Nat) (mem : Mem) (d : Dev) : Dev :=
  let d := d.netBegin
  let m := p.link.val
  if d.headLink m || d.rd netState == 5 then d
  else
    let good := decide (p.q = 0)
    let turn := d.turns m
    let cycle := if good then pw p.frame 1 else (d.rd netCycle + 1) % 2 ^ 32
    let d := (d.takeGrant cycle t).takeSlices cycle
    let g := d.passOn p
    let d := (d.transmit { link := if turn then m else mate m, kind := 1, words := g, marked := !good }).reportAck p
    let d := if good then d.goodPennant p t else d.badPennant m p.q
    let d := d.returnPass p 1 turn
    if good && (turn || p.qBack == 0) && d.rd netState == 4 then
      d.applyMap mem false m (d.ownAddress m) (if turn then g else p.back) t
    else d

/-! ### Cyclic pennants at the head -/

/-- A quotient that a register holds without its fraction: the spec does not say which neighbour of an inexact value it
reads, and that choice is free (log entry 1). -/
def Dev.eitherSide (d : Dev) (num : Int) (den : Nat) : Int × Dev :=
  let q := num / (den : Int)
  if num % (den : Int) = 0 then (q, d)
  else
    let (x, d) := d.free
    (q + (x % 2 : Nat), d)

/-- What the status area says of one station (R480). -/
def Member.heard (m : Member) (f : List Nat) : Member :=
  let w := pw f (pwStatus f m.stn)
  if m.stn ≤ pwNsta f ∧ bitAt w 31 then { m with miss := 0, word := w } else { m with miss := m.miss + 1 }

/-- The turnaround stations on both sides of the break report RESTORED; a side without stations ends at the head, whose
own link is UP (R478). -/
def Dev.breakRestored (d : Dev) : Bool :=
  let told := (d.net.members.filter (fun m => bitAt m.word 24 && m.miss == 0)).length
  let n := d.net.members.length
  let sides := (if d.net.foldPos = 0 then 0 else 1) + (if d.net.foldPos < n then 1 else 0)
  d.linkUp (2 * d.headPair) && d.linkUp (2 * d.headPair + 1) && decide (1 ≤ sides) && decide (sides ≤ told)

/-- PENNANT_RETURN (R461, R462, R465, R466, R477, R478, R480): a cyclic pennant returns to its head. -/
def effPennantReturn (p : PennantIn) (t : Nat) (mem : Mem) (d : Dev) : Dev :=
  let d := d.netBegin
  let m := p.link.val
  if !d.headLink m then d
  else if p.q ≠ 0 then ((d.badFrame m p.q).ev .net 1).modNet (fun n => { n with back := true })
  else
    let f := p.frame
    let y := pwFlag f 4
    let delta := p.tr - p.ta
    let d := d.modNet (fun n =>
      { n with back := true, delta0 := if y then n.delta0 else delta, deltaY := if y then delta else n.deltaY,
               members := n.members.map (fun m => m.heard f),
               foldX := if y then n.foldX else f, foldY := if y then f else n.foldY })
    let (round, d) := d.eitherSide (roundTime (pwDataLen f) (pwNsta f) delta) 40
    let (margin, d) := d.eitherSide (d.capacityAt (d.rd timeTickPeriod)) 40
    let d := (d.wrS netTRound round).wrS netMargin margin
    let d := d.when_ (d.on netFolded && (!y || (d.lineLink false).isNone)) (fun d =>
      let b := d.breakRestored
      d.modNet (fun n => { n with restoredRun := if b then n.restoredRun + 1 else 0 }))
    d.applyMap mem true m (d.ownAddress m) f t

/-! ### Register access (R469) -/

/-- Read words from an offset on; the first access that does not end with OK stops. -/
def Dev.readRun (d : Dev) (r : Req) (page off t : Nat) : Nat → Nat × List Nat × Dev
  | 0 => (0, [], d)
  | n + 1 =>
    let (x, v, d) := d.busRead r page off true t
    if x ≠ 0 then (x, [], d)
    else
      let (x, vs, d) := Dev.readRun d r page (off + 4) t n
      (x, v :: vs, d)

/-- Write words from an offset on: the result and how many were applied. -/
def Dev.writeRun (d : Dev) (mem : Mem) (r : Req) (page off t : Nat) : List Nat → Nat × Nat × Dev
  | [] => (0, 0, d)
  | w :: ws =>
    let (x, d) := d.busWrite mem r page off w true t
    if x ≠ 0 then (x, 0, d)
    else
      let (x, n, d) := Dev.writeRun d mem r page (off + 4) t ws
      (x, n + 1, d)

/-- OP of a command word. -/
def opOf (w : Nat) : Nat := bitsAt w 30 2
/-- COUNT. -/
def countOf (w : Nat) : Nat := bitsAt w 24 6 + 1

/-- A command word with its data is a valid register access (R469). -/
def accessValid (words : List Nat) : Bool :=
  match words with
  | [] => false
  | w :: ws => decide (countOf w ≤ 63) && ((opOf w == 1 && ws.isEmpty) || (opOf w == 2 && ws.length == countOf w))

/-- Run a register access. -/
def Dev.runAccess (d : Dev) (mem : Mem) (r : Req) (words : List Nat) (t : Nat) : Answer × Dev :=
  let w := words.getD 0 0
  if opOf w = 1 then
    let (x, vs, d) := d.readRun r (bitsAt w 12 12) (bitsAt w 0 12) t (countOf w)
    ({ result := x, data := vs }, d)
  else
    let (x, n, d) := d.writeRun mem r (bitsAt w 12 12) (bitsAt w 0 12) t (words.drop 1)
    ({ result := x, data := [n] }, d)

/-- A dispatch on channel 0 (R469, R473): a broadcast is allowed for writes. -/
def Dev.channel0 (d : Dev) (h : DispHdr) (words : List Nat) (t : Nat) (mem : Mem) : Dev × Mem :=
  d.receive h 0 words t (opOf (words.getD 0 0) == 2) mem (fun d mem =>
    if h.len ≠ 4 * words.length ∨ !accessValid words then (some (ans 16), d, mem)
    else
      let (a, d) := d.runAccess mem h.req words t
      (some a, d, mem))

/-- REGISTER_ACCESS_READ (R469). -/
def effAccessRead (h : DispHdr) (words : List Nat) (t : Nat) (mem : Mem) (d : Dev) : Dev × Mem := d.channel0 h words t mem

/-- REGISTER_ACCESS_WRITE (R469). -/
def effAccessWrite (h : DispHdr) (words : List Nat) (t : Nat) (mem : Mem) (d : Dev) : Dev × Mem := d.channel0 h words t mem

/-! ### Timed write groups (R470) -/

/-- The write groups of a payload are valid. -/
def groupsValid : Nat → List Nat → Bool
  | _, [] => true
  | 0, _ => false
  | k + 1, w :: ws => opOf w == 2 && decide (countOf w ≤ 63) && decide (countOf w ≤ ws.length) && groupsValid k (ws.drop (countOf w))

/-- Apply write groups in order; the first access that does not end with OK stops. -/
def Dev.runGroups (d : Dev) (mem : Mem) (r : Req) (t : Nat) : Nat → List Nat → Nat × Nat × Dev
  | 0, _ => (0, 0, d)
  | _, [] => (0, 0, d)
  | k + 1, w :: ws =>
    let (x, n, d) := d.writeRun mem r (bitsAt w 12 12) (bitsAt w 0 12) t (ws.take (countOf w))
    if x ≠ 0 then (x, n, d)
    else
      let (x, m, d) := Dev.runGroups d mem r t k (ws.drop (countOf w))
      (x, n + m, d)

/-- AXIS_COMMAND_QUEUE (R470): the groups wait for the tick of EXEC_T. -/
def effAxisQueue (h : DispHdr) (words : List Nat) (t : Nat) (mem : Mem) (d : Dev) : Dev × Mem :=
  d.receive h 2 words t true mem (fun d mem =>
    let groups := words.drop 2
    if h.len ≠ 4 * words.length ∨ groups.isEmpty ∨ !groupsValid groups.length groups then (some (ans 16), d, mem)
    else if d.rd timeState ≠ 2 then (some (ans 14), d, mem)
    else if 8 ≤ d.net.timed.length then (some (ans 10), d, mem)
    else
      (none, d.modNet (fun n =>
        { n with timed := n.timed ++ [{ req := h.req, src := h.key, seq := h.seq, bcast := h.bcast, exec := words.getD 0 0 + words.getD 1 0 * 2 ^ 32,
                                        groups := groups, at_ := t }] }), mem))

/-- A timed dispatch is due 150 ns before the coming boundary. -/
def Dev.timedDue (d : Dev) (x : Timed) (t : Nat) : Bool :=
  decide (d.nextTick ≤ t + 150) && decide ((x.exec : Int) ≤ d.sysTime d.nextTick) && decide (x.at_ + 250 ≤ d.nextTick)

/-- Apply one timed dispatch and acknowledge it. -/
def Dev.runTimed (d : Dev) (mem : Mem) (x : Timed) (t : Nat) : Dev :=
  let (r, n, d) := d.runGroups mem x.req t x.groups.length x.groups
  if x.bcast then d
  else d.giveAnswer (match x.req with | .net m _ => m | _ => 0) x.src 2 x.seq { result := r, data := [n] }

/-- TIMED_DISPATCH_APPLY (R470). -/
def effTimedApply (t : Nat) (mem : Mem) (d : Dev) : Dev :=
  let d := d.netBegin
  let due := d.net.timed.filter (fun x => d.timedDue x t)
  let d := d.modNet (fun n => { n with timed := n.timed.filter (fun x => !d.timedDue x t) })
  due.foldl (fun d x => d.runTimed mem x t) d

end Sys2Proof.Machine
end

