-- ==== Sys2Proof/Machine/StartUp.lean ====
section
/-! DEFINITION. The steps of the start-up sequence (R79 to R93): OTP load, parameter-store load, self-calibration, bank
initialisation and Meridian's checks. -/
namespace Sys2Proof.Machine

/-- Step k of start-up ends, and the next one begins (R80). -/
def Dev.stepEnds (d : Dev) (k : Nat) : Dev := ({ d with stepsDone := k } : Dev).wr devStartupStep (k + 1)

/-! ### Step 1 (R510 to R514, R542) -/

/-- What the ID and TRIM regions hold, whose layouts the spec does not give (log entry 18). -/
structure OtpNames where
  /-- DEV_PART: part, ordering code and revision. -/
  part : Nat
  /-- DEV_SERIAL. -/
  serial : Nat
  /-- CUR_FS of the phases and the link of axes 0 to 15. -/
  fullScale : List (Nat × Nat × Nat × Nat)
deriving DecidableEq, Repr

/-- The reaction table at start-up: each entry takes the larger of its default and its minimum from SAFE (R542). -/
def Dev.loadReactions (d : Dev) (safe : List Nat) : Dev :=
  let least := fun (e : Nat) => min 4 (bitsAt (safe.getD (110 + e / 8) 0) (4 * (e % 8)) 3)
  let d := { d with tableFixed := bitAt (safe.getD 126 0) 0, reactMin := some ((List.range 128).map (fun e => (e, least e))) }
  d.each (List.range 128) (fun e d =>
    match faultEntry? e with
    | some row => if row.kind = 0 ∨ row.kind = 3 then d else d.wr (fltReactReact e) (max (reactDefault e) (least e))
    | none => d)

/-- ID and TRIM are loaded. -/
def Dev.loadNames (d : Dev) (x : OtpNames) (id trim : Bool) : Dev :=
  let d := d.when_ id (fun d =>
    ((((d.wr devPart (bitsAt x.part 16 16)).wr devOrder (bitsAt x.part 8 8)).wr devRevMajor (bitsAt x.part 4 4)).wr devRevMinor (bitsAt x.part 0 4)).wr
      devSerial x.serial)
  d.when_ trim (fun d =>
    d.each (List.range 16) (fun n d =>
      match x.fullScale[n]? with
      | some (u, v, w, l) => (((d.wr (curFsU n) u).wr (curFsV n) v).wr (curFsW n) w).wr (curFsLink n) l
      | none => d))

/-- The NET region gives NET_CTRL and NET_SEG their reset values; AUTO_UNFOLD keeps its own. Without it the device only
listens (R92, R447, R448). -/
def Dev.loadNet (d : Dev) (ok : Bool) (t : Nat) : Dev :=
  if ok then
    let w := (d.regionWords 4).getD 0 0
    let role := bitsAt w 8 2
    let d := ((((d.wr netCfgRole (if role = 3 then 0 else role)).wr netCfgPair (bitsAt w 4 1)).wr netCfgAutoEnum (bitsAt w 3 1)).wr
      netCfgRetainEn (bitsAt w 2 1)).wr netCfgSegTick (bitsAt w 1 1)
    (d.wr timeSegTick (bitsAt w 1 1)).wr netSeg (min 1022 ((d.regionWords 4).getD 1 0 % 1024))
  else (d.wr netListenOnly 1).setNetState 2 t

/-- OTP_LOAD (R512, R513): step 1 ends. `over` lists the rows whose three readings differ from their burned bits. -/
def effOtpLoad (weak : List RowRead) (x : OtpNames) (t : Nat) (d : Dev) : Dev :=
  if d.stepsDone ≠ 0 then d
  else
    let d := d.reread weak
    let copies := d.tableCopies
    let d := d.wrB otpTableDis (copies.any (fun c => c != copies.getD 0 0))
    let ok := (List.range 6).filter d.regionOk
    let d := (d.wr otpValid (maskOf ok)).wr otpWeak (maskOf ((List.range 6).filter (fun i => !(d.weakRows i).isEmpty)))
    let d := [(0, 0x5101), (1, 0x5102), (2, 0x5103), (3, 0x5104), (4, 0x5105)].foldl (fun d p =>
      if ok.contains p.1 then d else d.raise p.2 0 10 0 t) d
    let d := d.each ok (fun i d => d.each (d.weakRows i) (fun r d => d.raise 0x5106 r 10 0 t))
    let d := { d with neverReady := !(ok.contains 0 && ok.contains 1), safe := if ok.contains 2 then some (d.regionWords 2) else none,
                      keys := if ok.contains 3 then (d.regionWords 3).take 16 else [] }
    let d := match d.safe with
      | some s => d.loadReactions s
      | none => d
    ((d.loadNames x (ok.contains 0) (ok.contains 1)).loadNet (ok.contains 4) t).stepEnds 1

/-! ### Step 2 (R82, R83, R519 to R521) -/

/-- A word of a page that holds something which is not a stored field: words computed when read, views and windows. -/
def unstored : Page → List (Nat × Nat)
  | .dev => [(0x048, 0x048), (0x058, 0x05C)]
  | .time => [(0x040, 0x044)]
  | .chron => [(0x048, 0x070)]
  | .flt => [(0x040, 0x044), (0x200, 0x3FC)]
  | .otp => [(0x060, 0x080), (0x0A0, 0x0BC)]
  | .bnk => [(0x1A4, 0x1B0)]
  | .pgr => [(0x060, 0x08C)]
  | .gpio => [(0x040, 0x040)]
  | .clu _ | .gln _ => [(0x040, 0x040), (0x04C, 0x04C), (0x070, 0x070)]
  | .prg _ => [(0x040, 0x050), (0x800, 0xBFC)]
  | .drv _ => [(0x090, 0x098)]
  | .cur _ => [(0x058, 0x058)]
  | _ => []

/-- The stored fields of the word at an offset. -/
def fieldsAt (p : Page) (off : Nat) : List Fld := (pageFields p).filter (fun f => f.off == off)

/-- The 64-bit field whose high word lies at an offset. -/
def highAt (p : Page) (off : Nat) : Option Fld := (pageFields p).find? (fun f => f.w == 64 && f.off + 4 == off)

/-- The offset is reserved. -/
def reservedAt (p : Page) (off : Nat) : Bool :=
  (fieldsAt p off).isEmpty && (highAt p off).isNone && (actOf p off).isNone && !(unstored p).any (fun (r : Nat × Nat) => decide (r.1 ≤ off) && decide (off ≤ r.2))

/-- A stored value as the SAFE region lets it stand (R83, R511): at its bound; a setting that the mode mask does not permit
keeps its reset value. -/
def Dev.safeFix (d : Dev) (f : Fld) (v : Nat) : Nat :=
  match f.pg with
  | .foc n =>
    if f = focIPeak n then min v (d.currentBound n)
    else if f = focICont n then min v (d.currentBound (24 + n))
    else if d.safeAllows f v then v else d.rd f
  | .drv n =>
    if d.safeAllows f v then v
    else if f = drvOcLeg n then bitsAt ((d.safeWord (48 + n)).getD 0) 0 12
    else if f = drvOcLink n then bitsAt ((d.safeWord (48 + n)).getD 0) 16 12
    else d.rd f
  | .axb _ => if d.safeAllows f v then v else d.rd f
  | .flt =>
    match (List.range 128).find? (fun e => decide (f = fltReactReact e)), d.reactMin with
    | some e, some l =>
      match faultEntry? e with
      | some row => if row.kind = 0 ∨ row.kind = 3 ∨ d.tableFixed then v else max v ((tabGet l e).getD 0)
      | none => v
    | _, _ => v
  | .pwd c =>
    if f = pwdVbusOv c ∧ d.safeVolts (72 + c) (2 ^ 31) < signedOf 32 v then (d.safeWord (72 + c)).getD 0
    else if f = pwdVbusUv c ∧ signedOf 32 v < d.safeVolts (76 + c) (-(2 ^ 31)) then (d.safeWord (76 + c)).getD 0
    else if f = pwdTempTrip c ∧ d.safeWord (82 + c) ≠ none ∧ signedOf 16 ((d.safeWord (82 + c)).getD 0) < signedOf 16 v then
      (d.safeWord (82 + c)).getD 0 % 2 ^ 16
    else v
  | .xst =>
    if f = xstVbusOv ∧ d.safeVolts 80 (2 ^ 31) < signedOf 32 v then (d.safeWord 80).getD 0
    else if f = xstVbusUv ∧ signedOf 32 v < d.safeVolts 81 (-(2 ^ 31)) then (d.safeWord 81).getD 0
    else v
  | _ => v

/-- The word of a record that is written: every field that takes a plain write, as SAFE lets it stand. A field with access
WO, W1C or RO is not written (R521). -/
def Dev.recordWord (d : Dev) (p : Page) (off v : Nat) : Nat :=
  if (fieldsAt p off).isEmpty then v
  else
    ((fieldsAt p off).filter (fun f => decide (f.acc = .rw) || decide (f.acc = .rwt))).foldl (fun s f =>
      s + (if f.w = 64 then v else d.safeFix f (bitsAt v f.lo f.w) % 2 ^ f.w * 2 ^ f.lo)) 0

/-- A record of a word of PROG_IDs replaces the stock assignments of its two slots (R356): the stock program that belongs to a slot, or
0 for an empty one; any other value leaves the slot (log entry 100). -/
def Dev.loadSlots (d : Dev) (n off v : Nat) : Dev :=
  let first := if off = 0x044 then 0 else 2
  let set := fun (d : Dev) (s id : Nat) =>
    if id = 0 ∨ (id = s + 1 ∧ s < 3) then d.modSlot n s (fun _ => { id := id }) else d
  let d := set (set d first (v % 2 ^ 16)) (first + 1) (v / 2 ^ 16 % 2 ^ 16)
  (axisLanes n).foldl (fun d l => d.admReadback l) (d.wrB (focStock n) ((d.slot n 0).id == 1))

/-- Write the value of a field record (R521). The two words of a 64-bit field are written each in its place, because the
records apply in one step (log entry 19). -/
def Dev.loadWord (d : Dev) (mem : Mem) (p : Page) (off v t : Nat) : Dev :=
  match highAt p off with
  | some f => d.writeField f ((if f.acc = .rwt then d.sh f else d.rd f) % 2 ^ 32 + v * 2 ^ 32) t
  | none =>
    let fs := fieldsAt p off
    if !fs.isEmpty && fs.all (fun f => !(decide (f.acc = .rw) || decide (f.acc = .rwt))) then d
    else
      let w := d.recordWord p off v
      let cut := d.safe.isSome && fs.any (fun f => decide (f.w ≠ 64) && d.safeFix f (bitsAt v f.lo f.w) != bitsAt v f.lo f.w)
      let d := d.when_ cut (fun d => d.raise 0x5112 (pageIndex p % 256) 10 0 t)
      d.writeWord mem .mer p off w none t

/-- The page of a record that can be applied. -/
def recordPage (r : Nat × Nat) : Option Page :=
  if recKind r.1 = 0 ∧ recOffset r.1 % 4 = 0 ∧ 0x040 ≤ recOffset r.1 then
    match pageAt (recPage r.1) with
    | some p => if reservedAt p (recOffset r.1) then none else some p
    | none => none
  else none

/-- Pages whose shadows the records of an image set, in their order. -/
def loadedPages : List (Nat × Nat) → List Page
  | [] => []
  | r :: rs =>
    let ps := loadedPages rs
    match recordPage r with
    | some p =>
      if ((fieldsAt p (recOffset r.1)) ++ (highAt p (recOffset r.1)).toList).any (fun f => decide (f.acc = .rwt)) && !ps.contains p then p :: ps else ps
    | none => ps

/-- Apply the records of an image in order. -/
def Dev.loadRecords (d : Dev) (mem : Mem) (t : Nat) (recs : List (Nat × Nat)) : Dev :=
  recs.foldl (fun d r =>
    match recordPage r with
    | some p =>
      match p with
      | .prg n => if recOffset r.1 = 0x044 ∨ recOffset r.1 = 0x048 then d.loadSlots n (recOffset r.1) r.2 else d.loadWord mem p (recOffset r.1) r.2 t
      | _ => d.loadWord mem p (recOffset r.1) r.2 t
    | none => d) d

/-- The receivers of the feedback ports go on (R75): each port begins with the levels at its pins, and in a counting mode
its position is valid (R236). -/
def Dev.startPorts (d : Dev) : Dev :=
  d.each (List.range 24) (fun p d =>
    let d := (d.wr (fbLines p) ((tabGet d.pins.fb p).getD 0)).restartPort p
    d.wrB (fbPosValid p) (decide (1 ≤ d.rd (fbMode p)) && decide (d.rd (fbMode p) ≤ 3)))

/-- PARAMETER_STORE_LOAD (R82, R521): step 2 ends. -/
def effStoreLoad (t : Nat) (mem : Mem) (d : Dev) : Dev :=
  if d.stepsDone ≠ 1 then d
  else
    let gen := fun (h : Nat) => ((d.half h).map Prod.fst).getD 0
    let sel := if gen 0 < gen 1 then 1 else 0
    let d := d.syncHalves
    let d := ((d.wr pstGen (gen sel)).wr pstGenOther (gen (1 - sel))).wr pstHalfAct sel
    let d := (d.wr pstWrites0 (d.nv.writes.getD 0 0)).wr pstWrites1 (d.nv.writes.getD 1 0)
    let d :=
      match d.half sel with
      | none => d.raise 0x5110 0 10 0 t
      | some (g, recs) =>
        let d := if (d.half (1 - sel)).isNone then d.raise 0x5111 (1 - sel) 10 0 t else d
        let d := ({ d with image := recs } : Dev).loadRecords mem t recs
        let reqs := (loadedPages recs).map (fun p => ({ page := p, at_ := t, src := 0, inst := 0, stn := 0, swap := 0, load := true } : CommitReq))
        let skipped := (recs.filter (fun (r : Nat × Nat) => recKind r.1 != 1 && (recordPage r).isNone)).length
        let d := (loadedPages recs).foldl (fun d p => Dev.wr d (pageCommit p) 1) { d with commits := d.commits ++ reqs }
        let d := ((d.wr pstLoaded 1).wr pstSkipped (min skipped 65535)).wr pstApplied (min (recs.length - skipped) 65535)
        let d := d.when_ (skipped != 0) (fun d => d.raise 0x5F04 sel 10 (min skipped 65535) t)
        d.note t 5 10 sel 0x0110 (min recs.length 65535 * 2 ^ 16 + g % 2 ^ 16)
    (d.startPorts).stepEnds 2

/-! ### Step 3 (R84, R85) -/

/-- The offsets measured for axis n at start-up: within ±2 % of the full scale they apply; beyond it the axis cannot be
armed (R84, R92). -/
def Dev.startOffsets (d : Dev) (n t : Nat) (l : List Int) : Dev :=
  let fs := [d.rdS (curFsU n), d.rdS (curFsV n), d.rdS (curFsW n), d.rdS (curFsLink n)]
  let bad := (List.range 4).filter (fun x => decide ((fs.getD x 0).natAbs < 50 * (l.getD x 0).natAbs))
  if bad.isEmpty then
    let d := ((d.wrSat (curOfsU n) (l.getD 0 0)).wrSat (curOfsV n) (l.getD 1 0)).wrSat (curOfsW n) (l.getD 2 0)
    (d.wrSat (curOfsLink n) (l.getD 3 0)).wr (curOfsValid n) 1
  else d.raise 0x1123 n 6 (maskOf bad) t

/-- SELF_CALIBRATION (R84, R85, R132): step 3 ends. `fine` is the set of clusters whose fine-delay calibration failed,
`coefs` what the five slices of each bank measured, `offsets` the four sense offsets of each axis. -/
def effSelfCalibration (fine : Nat) (coefs : List (List Coef)) (offsets : List (List Int)) (t : Nat) (d : Dev) : Dev :=
  if d.stepsDone ≠ 2 then d
  else
    let d := d.each (bitList 6 fine) (fun c d => d.raise 0x2122 c 0 0 t)
    let d := d.each (List.range 6) (fun c d =>
      let d := d.calibrateBank c (coefs.getD c []) t
      match 5 - (d.working c).length with
      | 0 => d
      | 1 => d.raise 0x2120 c 6 0 t
      | _ => d.raise 0x2121 c 6 0 t)
    let d := d.each (List.range 6) (fun c d =>
      if c < 4 ∧ !bitAt d.pins.vgd c then
        (d.each (List.range 4) (fun k d => d.modAx (4 * c + k) (fun a => { a with ofsPending := true }))).raise 0x4151 c 0 0 t
      else d.each (List.range 4) (fun k d => d.startOffsets (4 * c + k) t (offsets.getD (4 * c + k) [])))
    d.stepEnds 3

/-! ### Step 4 (R81, R86, R397) -/

/-- A row of bank b fails while it is zeroed: it moves to the lowest free spare row; with none left the bank is excluded
(R86, R92, R397). -/
def Dev.initFail (d : Dev) (b row t : Nat) : Dev :=
  match (d.mbank b).spares.findIdx? Option.isNone with
  | some _ => d.sweepFail b row t
  | none =>
    if d.rd (bnkPstate b) = 5 then d
    else
      let d := (((d.wr (bnkPstate b) 5).wr (bnkOwner b) 0).wr bnkAvail (clearBit (d.rd bnkAvail) b))
      if b = 31 then ({ d with neverReady := true } : Dev).raise 0x5131 31 8 0 t else d.raise 0x3130 b 8 0 t

/-- The permanent remaps apply. -/
def Dev.applyRemaps (d : Dev) : Dev :=
  d.image.foldl (fun d r =>
    if recKind r.1 = 1 then
      let x := recRemap r.1
      d.modMbank x.1 (fun b => { b with spares := b.spares.set x.2.1 (some (x.2.2, true)) })
    else d) d

/-- The start-up buffer is written to bank 31, and then one record of the entries that it could not hold (R81, R589). -/
def Dev.openChron (d : Dev) (mem : Mem) (t : Nat) : Dev × Mem :=
  if d.rd (bnkPstate 31) = 5 then (d, mem)
  else
    let held := chronSort d.startBuf
    let (d, mem) := ({ d with chronOn := true, startBuf := [] } : Dev).writeEntries mem t held
    if d.bufOver = 0 then (d, mem)
    else d.writeEntry mem { time := t, level := 5, src := 0, inst := 0, code := 0x0160, data := min d.bufOver 65535 } t

/-- Bank b takes its reset ownership (R86, R397). An EXCLUDED bank has owner 0 and refuses every request, those that wait for
it too (R397, R398, R407). -/
def Dev.resetBank (b : Nat) (d : Dev) : Dev :=
  if d.rd (bnkPstate b) = 5 then
    let d := d.when_ (d.mbank b).ho.isSome (fun d => (d.wr (bnkPendOwner b) 0).hoResult b 2)
    let d := d.when_ (d.mbank b).pwr.isSome (fun d => (d.wr bnkPwrrBank b).wr bnkPwrrResult 2)
    d.modMbank b (fun x => { x with ho := none, pwr := none })
  else (d.wr (bnkOwner b) (resetOwner b)).wr (bnkReaders b) (resetReaders b)

/-- BANK_INITIALISATION (R81, R86, R397): step 4 ends. `fails` lists the rows that failed while being zeroed. -/
def effBankInit (fails : List (Nat × Nat)) (t : Nat) (mem : Mem) (d : Dev) : Dev × Mem :=
  if d.stepsDone ≠ 3 then (d, mem)
  else
    let d := fails.foldl (fun d x => if x.1 < 32 then d.initFail x.1 (x.2 % 128) t else d) d.applyRemaps
    let on := (List.range 32).filter (fun b => d.rd (bnkPstate b) != 5)
    let d := (d.each on (fun b d => (d.wr (bnkPstate b) 0).modMbank b (fun x => { x with bad := [], told := [] }))).wr bnkOn (maskOf on)
    let d := d.each (List.range 32) Dev.resetBank
    let (d, mem) := (d.syncFrames).openChron (mem.filter (fun _ => false)) t
    (d.stepEnds 4, mem)

/-! ### Steps 5 and 6 (R87 to R93) -/

/-- The average of 8 conversions of one path with the test DAC (R87), in µV. -/
structure DacReading where
  /-- Converter bank. -/
  bank : Fin 6
  /-- Input path. -/
  path : Nat
  /-- Gain: 1, 2, 4, 8 or 16. -/
  gain : Nat
  /-- Value of the test DAC. -/
  dac : Int
  /-- The average. -/
  mean : Int
deriving DecidableEq, Repr

/-- The deviation of a reading. -/
def DacReading.off (r : DacReading) : Int := r.mean - r.dac

/-- A reading within ±0.5 % of the full scale at its gain, 1.2 V at gain ×1 (R87). -/
def DacReading.pass (r : DacReading) : Bool := decide (200 * r.gain * r.off.natAbs ≤ 1200000)

/-- Bank c has a failed path. -/
def pathFailed (l : List DacReading) (c : Nat) : Bool := l.any (fun r => decide (r.bank.val = c) && !r.pass)

/-- Every path of both banks of pair p fails by the same sign (R87). -/
def dacFailed (l : List DacReading) (p : Nat) : Bool :=
  let mine := l.filter (fun r => decide (r.bank.val / 2 = p))
  let bad := mine.filter (fun r => !r.pass)
  mine.any (fun r => decide (r.bank.val % 2 = 0)) && mine.any (fun r => decide (r.bank.val % 2 = 1)) &&
    mine.all (fun r => bad.any (fun x => decide (x.bank = r.bank) && x.path == r.path)) &&
    (bad.all (fun r => decide (0 < r.off)) || bad.all (fun r => decide (r.off < 0)))

/-- Every axis is in OFF when READY is set (R78): one in SERVICE or FAULT is put there (log entry 200). -/
def Dev.allOff (d : Dev) (t : Nat) : Dev :=
  d.each (List.range 24) (fun n d =>
    if d.st n = stOff then d else ((d.bridgeOff n t).setState n stOff causeInternal 0 t).admChange (axisLanes n) t)

/-- Step 6 (R78, R88, R90): READY, and the pins and blocks that wait for it; then steps 7 and 8 begin (R79, R456). -/
def Dev.reachReady (d : Dev) (t : Nat) : Dev :=
  let d := d.allOff t
  let d := ({ d with stepsDone := 6 } : Dev).wr devStartupStep (if d.keyValid then 7 else 8)
  let d := (d.syncReady t).gpioApply.takeRole t
  if d.on netHeadSide then d.startEnum false 0 else d

/-- MERIDIAN_CHECKS (R87 to R92): step 5 ends, and step 6 follows unless READY is never set. `lanes` is the set of lanes
whose program memory failed. -/
def effMeridianChecks (rom : Bool) (lanes : Nat) (clocks : Bool) (dac : List DacReading) (t : Nat) (d : Dev) : Dev :=
  if d.stepsDone ≠ 4 then d
  else
    let d := d.when_ rom (fun d => d.raise 0x5140 0 0 0 t)
    let d := d.each (bitList 6 lanes) (fun c d => d.raise 0x2141 c 0 0 t)
    let d := d.each (bitList 2 (lanes / 2 ^ 6)) (fun g d => d.raise 0x3141 g 0 0 t)
    let d := d.when_ clocks (fun d => d.raise 0x5142 0 0 0 t)
    let d := d.each (List.range 3) (fun p d =>
      if dacFailed dac p then d.raise 0x5125 p 0 0 t
      else d.each [2 * p, 2 * p + 1] (fun c d => if pathFailed dac c then d.raise 0x2124 c 0 0 t else d))
    let d := { d with stepsDone := 5, neverReady := d.neverReady || rom || clocks }
    if d.neverReady then d else d.reachReady t

end Sys2Proof.Machine
end

