-- ==== Sys2Proof/Machine/Tap.lean ====
section
/-! DEFINITION. The test access port (R583, R584): the controller of IEEE 1149.1 with a 4-bit instruction register. -/
namespace Sys2Proof.Machine

/-- The next state of the controller at a TCK cycle (R583, IEEE 1149.1). -/
def TapState.next (s : TapState) (tms : Bool) : TapState :=
  match s with
  | .reset => if tms then .reset else .idle
  | .idle => if tms then .selectDr else .idle
  | .selectDr => if tms then .selectIr else .captureDr
  | .captureDr => if tms then .exit1Dr else .shiftDr
  | .shiftDr => if tms then .exit1Dr else .shiftDr
  | .exit1Dr => if tms then .updateDr else .pauseDr
  | .pauseDr => if tms then .exit2Dr else .pauseDr
  | .exit2Dr => if tms then .updateDr else .shiftDr
  | .updateDr => if tms then .selectDr else .idle
  | .selectIr => if tms then .reset else .captureIr
  | .captureIr => if tms then .exit1Ir else .shiftIr
  | .shiftIr => if tms then .exit1Ir else .shiftIr
  | .exit1Ir => if tms then .updateIr else .pauseIr
  | .pauseIr => if tms then .exit2Ir else .pauseIr
  | .exit2Ir => if tms then .updateIr else .shiftIr
  | .updateIr => if tms then .selectDr else .idle

/-- BYPASS. -/
abbrev tapBypass : Nat := 0xF

/-- The instruction a code selects: every code without an instruction selects BYPASS (R583). -/
def tapInstr (code : Nat) : Nat := if code < 4 then code else tapBypass

/-- The instruction that acts: EXTEST, CLAMP and HIGHZ act as BYPASS while RESET_N is high (R584). -/
def Dev.tapActing (d : Dev) : Nat :=
  let i := tapInstr d.tap.ir
  if d.pins.resetN && i != 1 then tapBypass else i

/-- The boundary register lies between TDI and TDO: EXTEST and SAMPLE/PRELOAD. -/
def Dev.tapBoundary (d : Dev) : Bool := d.tapActing == 0 || d.tapActing == 1

/-- What the pins of the boundary register do (R584): 0 as in reset or operation, 1 driven from the latched values, 2 high
impedance. -/
def Dev.tapPins (d : Dev) : Nat := if d.tapActing = 0 ∨ d.tapActing = 2 then 1 else if d.tapActing = 3 then 2 else 0

/-- The controller is reset and BYPASS is selected (R583). -/
def Tap.toReset (x : Tap) : Tap := { x with st := .reset, ir := tapBypass }

/-- What a TCK cycle does in the state in which it finds the controller: a captured pin value has no stated place in the
boundary register, so it is free, and so are the two upper bits that Capture-IR loads (log entry 1). -/
def Dev.tapAct (d : Dev) (tdi : Bool) : Dev :=
  let bit := if tdi then 1 else 0
  let x := d.tap
  match x.st with
  | .captureIr =>
    let (v, d) := d.free
    { d with tap := { x with irShift := 1 + 4 * (v % 4) } }
  | .shiftIr => { d with tap := { x with tdo := bitAt x.irShift 0, irShift := x.irShift / 2 + 8 * bit } }
  | .updateIr => d
  | .captureDr =>
    if d.tapBoundary then
      let (v, d) := d.free
      { d with tap := { x with cells := v % 2 ^ Config.boundaryCells } }
    else { d with tap := { x with bypass := false } }
  | .shiftDr =>
    if d.tapBoundary then
      { d with tap := { x with tdo := bitAt x.cells 0, cells := x.cells / 2 + (if Config.boundaryCells = 0 then 0 else bit * 2 ^ (Config.boundaryCells - 1)) } }
    else { d with tap := { x with tdo := x.bypass, bypass := tdi } }
  | _ => d

/-- The controller enters its next state; the update states take what was shifted. -/
def Dev.tapEnter (d : Dev) (tms : Bool) : Dev :=
  let s := d.tap.st.next tms
  let x : Tap := { d.tap with st := s }
  match s with
  | .reset => { d with tap := x.toReset }
  | .updateIr => { d with tap := { x with ir := tapInstr x.irShift } }
  | .updateDr => { d with tap := if d.tapBoundary then { x with latch := x.cells } else x }
  | _ => { d with tap := x }

/-- TEST_ACCESS_PORT (R583): a TCK cycle, or a level of TRST_N; while TRST_N is low the controller stays reset. -/
def effTap (i : TapInput) (_t : Nat) (d : Dev) : Dev :=
  match i with
  | .trst high => { d with tap := if high then { d.tap with trstN := true } else { d.tap.toReset with trstN := false } }
  | .tck tms tdi => if d.tap.trstN then (d.tapAct tdi).tapEnter tms else d

end Sys2Proof.Machine
end

