-- ==== Sys2Proof/Syntax.lean ====
section
/-! DEFINITION. The commands of the block: one constructor for each row of the opcode table. A command that an event or a
requester sends carries first its device time t in ns; `r` is the requester of a register write, `n` an axis, `c` a
cluster or its converter bank, `p` a feedback port, `k` an event port, stream or slot as said there, `v` the word written. -/
namespace Sys2Proof

open Sys2Proof.Machine

/-- The commands. -/
inductive Instr
/-- SUPPLY_MONITOR_ASSERT (R567). -/
  | supplyMonitorAssert
/-- RESET_N_FALL (R94). -/
  | resetNFall
/-- RESET_N_RELEASE (R74). -/
  | resetNRelease
/-- CLOCK_GOOD (R74). -/
  | clockGood
/-- OTP_LOAD (R513): `weak` lists the physical rows whose three readings differ from their burned bits; `x` is what the
ID and TRIM regions hold. -/
  | otpLoad (t : Nat) (weak : List RowRead) (x : OtpNames)
/-- PARAMETER_STORE_LOAD (R521). -/
  | parameterStoreLoad (t : Nat)
/-- SELF_CALIBRATION (R84): `fine`: bit n, the fine-delay calibration of drive port n failed; `coefs`: the coefficients
measured, by bank and slice; `offsets`: the sense offsets measured, by axis and channel. -/
  | selfCalibration (t : Nat) (fine : Nat) (coefs : List (List Coef)) (offsets : List (List Int))
/-- BANK_INITIALISATION (R86): `fails` lists the bank and row of every row that fails during zeroing. -/
  | bankInitialisation (t : Nat) (fails : List (Nat × Nat))
/-- MERIDIAN_CHECKS (R87): `rom`, `clocks`: that check fails; `lanes`: bit l, the program memory of lane l fails; `dac`:
the readings of the test-DAC check. -/
  | meridianChecks (t : Nat) (rom : Bool) (lanes : Nat) (clocks : Bool) (dac : List DacReading)
/-- ALMANAC_IMAGE_VERIFIED (R496): what the reads of the boot slot and of the other slot return. -/
  | almanacImageVerified (t : Nat) (boot : SlotImage) (other : SlotImage)
/-- TICK_BOUNDARY (R29): `oc`: bit n, a comparator of axis n is beyond its threshold. -/
  | tickBoundary (oc : Nat)
/-- HOLDOVER_ENTRY (R45). -/
  | holdoverEntry (t : Nat)
/-- STEER_LIMIT (R52). -/
  | steerLimit (t : Nat)
/-- REGISTER_WRITE (R60): an internal address, the size of the access in bytes, and the value. -/
  | registerWrite (t : Nat) (r : Req) (a : Nat) (bytes : Nat) (v : Nat)
/-- PAGE_COMMIT (R30): a page index and the word written. -/
  | pageCommit (t : Nat) (r : Req) (page : Nat) (v : Nat)
/-- PAGE_EXPERT_KEY (R65): a page index and the word written. -/
  | pageExpertKey (t : Nat) (r : Req) (page : Nat) (v : Nat)
/-- EXPERT_AREA_TIMEOUT (R65): the requester and the page index of the open expert area. -/
  | expertAreaTimeout (t : Nat) (r : Req) (page : Nat)
/-- DEV_COMMIT_HOLD (R69). -/
  | devCommitHold (t : Nat) (r : Req) (hold : Bool)
/-- TICK_SLEW (R52). -/
  | tickSlew (t : Nat) (r : Req) (v : Nat)
/-- ARM (R294). -/
  | arm (t : Nat) (r : Req) (n : Fin 24)
/-- DISARM (R295). -/
  | disarm (t : Nat) (r : Req) (n : Fin 24)
/-- START (R295). -/
  | start (t : Nat) (r : Req) (n : Fin 24)
/-- STOP (R297). -/
  | stop (t : Nat) (r : Req) (n : Fin 24)
/-- STOP_HOLD (R298). -/
  | stopHold (t : Nat) (r : Req) (n : Fin 24)
/-- BRAKE (R266). -/
  | brake (t : Nat) (r : Req) (n : Fin 24)
/-- COAST (R295). -/
  | coast (t : Nat) (r : Req) (n : Fin 24)
/-- SERVICE (R299). -/
  | service (t : Nat) (r : Req) (n : Fin 24)
/-- RETURN (R299). -/
  | returnAxis (t : Nat) (r : Req) (n : Fin 24)
/-- BRAKE_START_AT_VALLEY (R121). -/
  | brakeStartAtValley (t : Nat) (n : Fin 24)
/-- MOVE_ABS (R310). -/
  | moveAbs (t : Nat) (r : Req) (n : Fin 24)
/-- MOVE_REL (R310). -/
  | moveRel (t : Nat) (r : Req) (n : Fin 24)
/-- HALT (R314). -/
  | halt (t : Nat) (r : Req) (n : Fin 24)
/-- EPH_START (R319). -/
  | ephStart (t : Nat) (r : Req) (n : Fin 24)
/-- EPH_CONTINUE (R320). -/
  | ephContinue (t : Nat) (r : Req) (n : Fin 24)
/-- EPH_RESUME (R323). -/
  | ephResume (t : Nat) (r : Req) (n : Fin 24)
/-- EPH_ABORT (R324). -/
  | ephAbort (t : Nat) (r : Req) (n : Fin 24)
/-- FOC_INT_RESET (R200). -/
  | focIntReset (t : Nat) (r : Req) (n : Fin 24)
/-- MOT_INT_RESET (R283). -/
  | motIntReset (t : Nat) (r : Req) (n : Fin 24)
/-- EXCITATION_START (R291): `v` is the word written to MOT_EXC_CTRL; its RUN bit is 1 whatever `v` has there. -/
  | excitationStart (t : Nat) (r : Req) (n : Fin 24) (v : Nat)
/-- EXCITATION_END (R291): `written`: RUN is written 0; otherwise N ticks have passed. -/
  | excitationEnd (t : Nat) (n : Fin 24) (written : Bool)
/-- SET_POS (R237). -/
  | setPos (t : Nat) (r : Req) (p : Fin 24)
/-- REFERENCE_SET_ARM (R237). -/
  | referenceSetArm (t : Nat) (r : Req) (p : Fin 24)
/-- FB_EDGE (R217): `fine`: quarters of a nanosecond of the edge time; `lines`: the levels of A, B and Z after the edge.
-/
  | fbEdge (t : Nat) (p : Fin 24) (fine : Fin 4) (lines : Fin 8)
/-- ILLEGAL_LIMIT (R218). -/
  | illegalLimit (t : Nat) (p : Fin 24)
/-- REF_MISMATCH_LIMIT (R226). -/
  | refMismatchLimit (t : Nat) (p : Fin 24)
/-- WIRE_DISAGREEMENT (R213): `pairs`: the pairs A, B, Z that disagree. -/
  | wireDisagreement (t : Nat) (p : Fin 24) (pairs : Fin 8)
/-- HALL_INVALID (R220). -/
  | hallInvalid (t : Nat) (p : Fin 24)
/-- SSER_FRAME_START (R227). -/
  | sserFrameStart (t : Nat) (p : Fin 24)
/-- SSER_FRAME_END (R230): `frame`: the bits received, the first one highest. -/
  | sserFrameEnd (t : Nat) (p : Fin 24) (frame : Nat)
/-- SSER_ERR_LIMIT (R231). -/
  | sserErrLimit (t : Nat) (p : Fin 24)
/-- ESTIMATOR_STILL (R239). -/
  | estimatorStill (t : Nat) (p : Fin 24)
/-- LATCH_CAPTURE (R242): `falling`: a falling edge of Z; otherwise the reference. -/
  | latchCapture (t : Nat) (p : Fin 24) (fine : Fin 4) (falling : Bool)
/-- DUTY_LOAD (R110). -/
  | dutyLoad (t : Nat) (n : Fin 24)
/-- CURRENT_WINDOW_END (R177): the raw codes of the conversions of the windows, in the order of their starts. -/
  | currentWindowEnd (t : Nat) (n : Fin 24) (codes : List Nat)
/-- STALE_LIMIT (R178). -/
  | staleLimit (t : Nat) (n : Fin 24)
/-- SUM_ERROR_LIMIT (R180). -/
  | sumErrorLimit (t : Nat) (n : Fin 24)
/-- OFFSET_MEASUREMENT_START (R184). -/
  | offsetMeasurementStart (t : Nat) (n : Fin 24)
/-- OFFSET_MEASUREMENT_END (R184). -/
  | offsetMeasurementEnd (t : Nat) (n : Fin 24)
/-- OVERCURRENT_TRIP (R117, R118): the leg or mirror comparators that cross since a time in quarters of a nanosecond, or the
link comparator. -/
  | overcurrentTrip (t : Nat) (n : Fin 24) (phases : Fin 8) (link : Bool) (since : Nat)
/-- XFLT_ASSERT (R116): the external axis 16 + j. -/
  | xfltAssert (t : Nat) (j : Fin 8)
/-- BRAKE_REGULATION (R122): the phase whose comparator crosses. -/
  | brakeRegulation (t : Nat) (n : Fin 24) (p : Fin 3)
/-- BRAKE_RECLOSE (R122): `crossing`: the phase whose comparator is still beyond the brake threshold. -/
  | brakeReclose (t : Nat) (n : Fin 24) (crossing : Option (Fin 3))
/-- BOOTSTRAP_LOW (R97). -/
  | bootstrapLow (t : Nat) (n : Fin 16) (leg : Fin 3)
/-- BOOTSTRAP_PRECHARGED (R97). -/
  | bootstrapPrecharged (t : Nat) (c : Fin 4)
/-- ENABLE_FALL (R100): DEN0 to DEN3, or DENX for 4. -/
  | enableFall (t : Nat) (i : Fin 5)
/-- VGD_OUT_OF_RANGE (R126). -/
  | vgdOutOfRange (t : Nat) (c : Fin 4)
/-- BUS_OUT_OF_RANGE (R126): 0 to 3 the buses of the power dies, 4 to 11 those of axes 16 to 23. -/
  | busOutOfRange (t : Nat) (u : Fin 12)
/-- DIE_OVER_TEMPERATURE (R126). -/
  | dieOverTemperature (t : Nat) (c : Fin 4)
/-- VBUS_STALE_LIMIT (R108). -/
  | vbusStaleLimit (t : Nat) (n : Fin 24)
/-- INJ_GO (R141). -/
  | injGo (t : Nat) (r : Req) (c : Fin 6) (mask : Nat)
/-- INJECTION_COMPLETE (R142): the raw code of the conversion. -/
  | injectionComplete (t : Nat) (c : Fin 6) (i : Fin 8) (code : Nat)
/-- SEQ_GO (R143). -/
  | seqGo (t : Nat) (r : Req) (c : Fin 6)
/-- SEQUENCE_PASS_END (R146): the raw codes of the conversions of the pass in entry order. -/
  | sequencePassEnd (t : Nat) (c : Fin 6) (codes : List Nat)
/-- SUPERVISION_SCAN (R149). -/
  | supervisionScan (t : Nat) (c : Fin 6)
/-- SUPERVISION_SCAN_END (R149): the raw codes of the conversions of the scan, and the words of the die sensors. -/
  | supervisionScanEnd (t : Nat) (c : Fin 6) (codes temps : List Nat)
/-- SUPERVISION_SCAN_LATE (R149). -/
  | supervisionScanLate (t : Nat) (c : Fin 6)
/-- CROSS_CHECK_EVALUATE (R154): the raw codes of the four conversions of the test DAC and the four of the bus node, in the even
and in the odd bank. -/
  | crossCheckEvaluate (t : Nat) (p : Fin 3) (codesE codesO : List Nat)
/-- XCK_CLEAR (R155). -/
  | xckClear (t : Nat) (r : Req) (p : Fin 3)
/-- FGCAL (R150). -/
  | fgcal (t : Nat) (r : Req) (c : Fin 6)
/-- FGCAL_END (R150): the coefficients measured, by slice. -/
  | fgcalEnd (t : Nat) (c : Fin 6) (ks : List Coef)
/-- BACKGROUND_CALIBRATION_END (R131). -/
  | backgroundCalibrationEnd (t : Nat) (c : Fin 6) (k : Coef)
/-- SLICE_RETRY (R132): the slice and the coefficients measured. -/
  | sliceRetry (t : Nat) (c : Fin 6) (k : Fin 5) (x : Coef)
/-- RESTORE_END (R158). -/
  | restoreEnd (t : Nat) (c : Fin 6) (ks : List Coef)
/-- CUR_PROGRAM_START (R39): the words of program memory read with an error: address, and whether it is uncorrectable.
-/
  | curProgramStart (t : Nat) (c : Fin 6) (errs : List (Nat × Bool))
/-- GLOBAL_LANE_START (R378): the words of program memory read with an error. -/
  | globalLaneStart (t : Nat) (g : Fin 2) (errs : List (Nat × Bool))
/-- PROGRAM_END (R359): `stalls`: the stall cycles of the run. -/
  | programEnd (t : Nat) (l : Fin 8) (stalls : Nat)
/-- CUR_DEADLINE (R377). -/
  | curDeadline (t : Nat) (n : Fin 24)
/-- GLOBAL_LANE_DEADLINE (R378). -/
  | globalLaneDeadline (t : Nat) (g : Fin 2)
/-- OVERRUN_LIMIT (R289): the slot. -/
  | overrunLimit (t : Nat) (n : Fin 24) (k : Fin 4)
/-- TRACKING_ERROR (R206). -/
  | trackingError (t : Nat) (n : Fin 24)
/-- FOLLOWING_ERROR (R285). -/
  | followingError (t : Nat) (n : Fin 24)
/-- FEEDBACK_FREEZE (R286). -/
  | feedbackFreeze (t : Nat) (n : Fin 24)
/-- OBSERVER_FALLBACK (R288). -/
  | observerFallback (t : Nat) (n : Fin 24)
/-- OVERSPEED (R290). -/
  | overspeed (t : Nat) (n : Fin 24)
/-- STOP_END (R297). -/
  | stopEnd (t : Nat) (n : Fin 24)
/-- STOP_TIMEOUT (R295). -/
  | stopTimeout (t : Nat) (n : Fin 24)
/-- CATCH_MEASURE_END (R261). -/
  | catchMeasureEnd (t : Nat) (n : Fin 24)
/-- ALIGN_END (R253). -/
  | alignEnd (t : Nat) (n : Fin 24)
/-- POLARITY_END (R258). -/
  | polarityEnd (t : Nat) (n : Fin 24)
/-- BLEND_START (R254). -/
  | blendStart (t : Nat) (n : Fin 24)
/-- HAND_TIMEOUT (R254). -/
  | handTimeout (t : Nat) (n : Fin 24)
/-- BLEND_END (R255). -/
  | blendEnd (t : Nat) (n : Fin 24)
/-- LOSS_OF_LOCK (R264). -/
  | lossOfLock (t : Nat) (n : Fin 24)
/-- RETRIES_CLEAR (R264). -/
  | retriesClear (t : Nat) (n : Fin 24)
/-- BRAKE_END (R267). -/
  | brakeEnd (t : Nat) (n : Fin 24)
/-- STILL_BRAKE_END (R267). -/
  | stillBrakeEnd (t : Nat) (n : Fin 24)
/-- BRAKE_HOLD_END (R267). -/
  | brakeHoldEnd (t : Nat) (n : Fin 24)
/-- BRAKE_TIMEOUT (R269). -/
  | brakeTimeout (t : Nat) (n : Fin 24)
/-- CURVE_STALE (R330). -/
  | curveStale (t : Nat) (n : Fin 24)
/-- CRV_NET_VAL (R326). -/
  | crvNetVal (t : Nat) (r : Req) (n : Fin 24) (v : Nat)
/-- RET_START (R345). -/
  | retStart (t : Nat) (r : Req) (k : Fin 12)
/-- RET_ABORT (R345). -/
  | retAbort (t : Nat) (r : Req) (k : Fin 12)
/-- RETICLE_PREDICTED_FIRE (R341). -/
  | reticlePredictedFire (t : Nat) (k : Fin 12)
/-- NET_SAMPLE (R341): `ts`: the value written to EVP_NET_TS. -/
  | netSample (t : Nat) (r : Req) (k : Fin 12) (ts : Nat)
/-- NET_SOURCE_STALE (R342). -/
  | netSourceStale (t : Nat) (k : Fin 12)
/-- EMU_EDGE (R346). -/
  | emuEdge (t : Nat) (k : Fin 12)
/-- LATCH_INPUT_EDGE (R349): `fine`: quarters of a nanosecond of the edge time. -/
  | latchInputEdge (t : Nat) (k : Fin 12) (fine : Fin 4) (rising : Bool)
/-- PWIDTH_EDGE (R351): `fine`: quarters of a nanosecond of the edge time. -/
  | pwidthEdge (t : Nat) (k : Fin 12) (fine : Fin 4) (rising : Bool)
/-- GPIO_EDGE (R586). -/
  | gpioEdge (t : Nat) (i : Fin 32) (rising : Bool)
/-- GPIO_SET (R586). -/
  | gpioSet (t : Nat) (r : Req) (mask : Nat)
/-- GPIO_CLR (R586). -/
  | gpioClr (t : Nat) (r : Req) (mask : Nat)
/-- INSTALL_CUSTOM (R380): the slot, and KEEP. -/
  | installCustom (t : Nat) (r : Req) (n : Fin 24) (k : Fin 4) (keep : Bool)
/-- INSTALL_STOCK (R380): the slot, and STOCK_ID. -/
  | installStock (t : Nat) (r : Req) (n : Fin 24) (k : Fin 4) (stock : Nat)
/-- REMOVE (R380): the slot. -/
  | remove (t : Nat) (r : Req) (n : Fin 24) (k : Fin 4)
/-- INSTALL_JUDGED (R381). -/
  | installJudged (t : Nat) (n : Fin 24)
/-- PRG_SWAP (R386). -/
  | prgSwap (t : Nat) (r : Req) (n : Fin 24) (mask : Nat)
/-- PB_WRITE (R385): the word of the window, and its value. -/
  | pbWrite (t : Nat) (r : Req) (n : Fin 24) (w : Fin 256) (v : Nat)
/-- ADMISSION_EVALUATION (R375). -/
  | admissionEvaluation (t : Nat) (l : Fin 8)
/-- SCRUB_READ (R387): the word read, and the error found: none, single-bit (false) or uncorrectable (true). -/
  | scrubRead (t : Nat) (l : Fin 8) (a : Nat) (err : Option Bool)
/-- CLU_CLEAR (R390). -/
  | cluClear (t : Nat) (r : Req) (c : Fin 6)
/-- GLN_CLEAR (R391). -/
  | glnClear (t : Nat) (r : Req) (g : Fin 2)
/-- BANK_ACCESS (R402): the accesses to the banks that masters issue together, each some system cycles after t. -/
  | bankAccess (t : Nat) (accs : List PortAccess)
/-- BNK_HANDOVER (R398). -/
  | bnkHandover (t : Nat) (r : Req) (force : Bool) (b : Fin 32) (owner : Fin 16) (readers : Nat)
/-- HANDOVER_APPLY (R399). -/
  | handoverApply (t : Nat) (b : Fin 32)
/-- BNK_HO_TIMEOUT (R400). -/
  | bnkHoTimeout (t : Nat) (b : Fin 32)
/-- BNK_PWR (R407): the STATE asked for. -/
  | bnkPwr (t : Nat) (r : Req) (b : Fin 32) (v : Nat)
/-- BANK_POWER_DONE (R407). -/
  | bankPowerDone (t : Nat) (b : Fin 32)
/-- SWEEP_BLOCK (R409): the region; the block fails its test; the block was late. -/
  | sweepBlock (t : Nat) (g : Fin 2) (failed : Bool) (late : Bool)
/-- SMP_SW_GO (R424). -/
  | smpSwGo (t : Nat) (r : Req) (q : Fin 2)
/-- SW_TRANSFER_END (R428): the bytes received. -/
  | swTransferEnd (t : Nat) (q : Fin 2) (rx : List Nat)
/-- WATCH_RELEASE (R427): the bits transferred before the release, and the bytes received. -/
  | watchRelease (t : Nat) (q : Fin 2) (bits : Nat) (rx : List Nat)
/-- WINDOW_LINE_FETCH (R421): k bytes at internal address a; `dqs`: the line was lost; the 8 words of the line. -/
  | windowLineFetch (t : Nat) (a : Nat) (k : Nat) (dqs : Bool) (line : List Nat) (code : Bool)
/-- OPEN (R433). -/
  | streamOpen (t : Nat) (r : Req)
/-- CLOSE (R434). -/
  | streamClose (t : Nat) (r : Req)
/-- RETRY (R436). -/
  | streamRetry (t : Nat) (r : Req)
/-- PAGER_PAGE_READ (R435): the stream; `dqs`: the read was lost; the words of the page. -/
  | pagerPageRead (t : Nat) (k : Fin 48) (dqs : Bool) (ws : List Nat)
/-- RING_WRITE (R431). -/
  | ringWrite (t : Nat) (r : Req) (v : Nat)
/-- EXPORT_FLUSH (R437): the stream. -/
  | exportFlush (t : Nat) (k : Fin 48)
/-- EXPORT_WRITE (R437): the stream. -/
  | exportWrite (t : Nat) (k : Fin 48)
/-- LINK_TRAIN (R445). -/
  | linkTrain (t : Nat) (m : Fin 4)
/-- LINK_UP (R445): `standby`: the partner sends STANDBY. -/
  | linkUp (t : Nat) (m : Fin 4) (standby : Bool)
/-- LINK_DOWN (R445): `errs`: symbol errors counted. -/
  | linkDown (t : Nat) (m : Fin 4) (errs : Nat)
/-- PENNANT_SEND (R464). -/
  | pennantSend (t : Nat)
/-- PENNANT (R461). -/
  | pennant (t : Nat) (p : PennantIn)
/-- PENNANT_MISS (R480). -/
  | pennantMiss (t : Nat)
/-- STATION_REJOIN (R480). -/
  | stationRejoin (t : Nat)
/-- ENUMERATE (R456). -/
  | enumerate (t : Nat) (r : Req)
/-- ENUMERATION_PENNANT (R457): the frame, and which of E1 to E8 it is. -/
  | enumerationPennant (t : Nat) (p : PennantIn) (k : Nat)
/-- UNFOLD (R478). -/
  | unfold (t : Nat) (r : Req)
/-- LEAVE (R480). -/
  | leave (t : Nat) (r : Req)
/-- RING_FOLD (R477): the position of the break. -/
  | ringFold (t : Nat)
/-- RING_UNFOLD (R478). -/
  | ringUnfold (t : Nat)
/-- STATION_LEFT (R480). -/
  | stationLeft (t : Nat) (stn : Nat)
/-- JOIN_START (R479). -/
  | joinStart (t : Nat)
/-- JOIN_TIMEOUT (R479). -/
  | joinTimeout (t : Nat)
/-- REGISTER_ACCESS_READ (R469): the dispatch and its payload words. -/
  | registerAccessRead (t : Nat) (h : DispHdr) (ws : List Nat)
/-- REGISTER_ACCESS_WRITE (R469): the dispatch and its payload words. -/
  | registerAccessWrite (t : Nat) (h : DispHdr) (ws : List Nat)
/-- PARAMETER_STORE_DISPATCH (R527): the dispatch and its payload words. -/
  | parameterStoreDispatch (t : Nat) (h : DispHdr) (ws : List Nat)
/-- AXIS_COMMAND_QUEUE (R470): the dispatch and its payload words. -/
  | axisCommandQueue (t : Nat) (h : DispHdr) (ws : List Nat)
/-- TIMED_DISPATCH_APPLY (R470). -/
  | timedDispatchApply (t : Nat)
/-- CHRONOGRAPH_FETCH (R553): the dispatch and its payload words. -/
  | chronographFetch (t : Nat) (h : DispHdr) (ws : List Nat)
/-- JOIN (R479): the dispatch; the serial number and the retained STN of the device. -/
  | join (t : Nat) (h : DispHdr) (serial : Nat) (stn : Nat)
/-- GRANT (R479): the dispatch; the device it names; STN, slice and first cycle; `capacity`: refused for lack of
capacity. -/
  | grant (t : Nat) (h : DispHdr) (serial : Nat) (stn : Nat) (sl : Slice) (cg : Nat) (capacity : Bool)
/-- SLICE (R460): the dispatch; the new slice and its first cycle. -/
  | slice (t : Nat) (h : DispHdr) (sl : Slice) (cycle : Nat)
/-- NOTICE (R480): the dispatch; the address of a device that joined or left. -/
  | notice (t : Nat) (h : DispHdr) (addr : Nat) (joined : Bool)
/-- SERVICE_DIRECTORY (R493): the dispatch; the channels served by Almanac and their words. -/
  | serviceDirectory (t : Nat) (h : DispHdr) (ws : List Nat) (served : List (Nat × Nat))
/-- ALMANAC_SERVICE (R474): the dispatch, its channel and payload words. -/
  | almanacService (t : Nat) (h : DispHdr) (chan : Nat) (ws : List Nat)
/-- ALMANAC_ANSWER (R493): the source and channel answered, the result and the payload words. -/
  | almanacAnswer (t : Nat) (src : Nat) (chan : Nat) (result : Nat) (ws : List Nat)
/-- DISPATCH_OTHER_CHANNEL (R468). -/
  | dispatchOtherChannel (t : Nat) (h : DispHdr) (chan : Nat) (ws : List Nat)
/-- DISPATCH_FORWARD (R476): the frame to be forwarded; `full`: the forward buffer of the outgoing link is full. -/
  | dispatchForward (t : Nat) (h : DispHdr) (ack : Bool) (chan : Nat) (result : Nat) (ws : List Nat) (full : Bool)
/-- ACKNOWLEDGE (R472). -/
  | acknowledge (t : Nat) (h : DispHdr) (chan : Nat) (result : Nat) (ws : List Nat)
/-- DISPATCH_RETRANSMIT (R472). -/
  | dispatchRetransmit (t : Nat) (dst : Nat) (chan : Nat)
/-- DISPATCH_TIMEOUT (R472). -/
  | dispatchTimeout (t : Nat) (dst : Nat) (chan : Nat)
/-- CONTEXT_EXPIRY (R471). -/
  | contextExpiry (t : Nat) (src : Nat) (chan : Nat)
/-- ANNOUNCE_DECISION (R465). -/
  | announceDecision (t : Nat)
/-- ANNOUNCED_PERIOD_APPLY (R465). -/
  | announcedPeriodApply (t : Nat)
/-- FAULT_CLEAR (R545). -/
  | faultClear (t : Nat) (r : Req) (entry : Fin 128) (inst : Fin 32)
/-- CLEAR_ALL (R546). -/
  | clearAll (t : Nat) (r : Req)
/-- CONDITION_END (R533): entry and instance of the condition that has ended. -/
  | conditionEnd (t : Nat) (entry : Fin 128) (inst : Fin 256)
/-- REACTION_TABLE_WRITE (R541). -/
  | reactionTableWrite (t : Nat) (r : Req) (e : Fin 128) (v : Nat)
/-- CHRON_WRITE (R551). -/
  | chronWrite (t : Nat)
/-- ALMANAC_RECORD (R550): the word written to the record register. -/
  | almanacRecord (t : Nat) (r : Req) (v : Nat)
/-- PACKAGE_TEMP_READ (R537): the reading of the package sensor. -/
  | packageTempRead (t : Nat) (v : Nat)
/-- CLOCK_DEPARTURE (R536): the region whose monitor departs, and by how much. -/
  | clockDeparture (t : Nat) (g : Fin 2) (ppm : Int)
/-- RECHECK (R489): the argument: the cluster. -/
  | recheck (t : Nat) (r : Req) (v : Nat)
/-- RECHECK_END (R489): which of the repeated checks fail. -/
  | recheckEnd (t : Nat) (c : Fin 6) (fineFail : Bool) (laneFail : Bool) (dacFail : Bool)
/-- ALM_VERIFY (R487): the argument: the slot. -/
  | almVerify (t : Nat) (r : Req) (v : Nat)
/-- ALM_SWITCH (R497): the argument: the slot. -/
  | almSwitch (t : Nat) (r : Req) (v : Nat)
/-- ALM_RESTART (R492). -/
  | almRestart (t : Nat) (r : Req)
/-- ALM_STOP (R492). -/
  | almStop (t : Nat) (r : Req)
/-- ALM_START (R492). -/
  | almStart (t : Nat) (r : Req)
/-- ALMANAC_VERIFY_END (R495): what the reads of the slot returned. -/
  | almanacVerifyEnd (t : Nat) (img : SlotImage)
/-- ALM_HEARTBEAT (R491). -/
  | almHeartbeat (t : Nat) (r : Req) (v : Nat)
/-- ALM_QUIET (R497). -/
  | almQuiet (t : Nat) (r : Req) (v : Nat)
/-- ALM_QUIET_TIMEOUT (R497). -/
  | almQuietTimeout (t : Nat)
/-- ALM_WATCHDOG (R491). -/
  | almWatchdog (t : Nat)
/-- ALM_CORE_EXCEPTION (R491). -/
  | almCoreException (t : Nat)
/-- STATUS (R500): the frame ends after this many bits. -/
  | status (t : Nat) (bits : Nat)
/-- PAGE_WRITE (R499): the frame: bits of the address that arrived, the address, the units that arrived and the bits of
a last incomplete one. -/
  | pageWrite (t : Nat) (ab : Nat) (a : Nat) (us : List Nat) (part : Nat)
/-- PAGE_READ (R501): the frame: bits of the address that arrived, the address, the clocks after it, and the words that
are not ready in time. -/
  | pageRead (t : Nat) (ab : Nat) (a : Nat) (clocks : Nat) (late : List Nat)
/-- BANK_WRITE32 (R499): the frame: bits of the address that arrived, the address, the units that arrived and the bits
of a last incomplete one. -/
  | bankWrite32 (t : Nat) (ab : Nat) (a : Nat) (us : List Nat) (part : Nat)
/-- BANK_WRITE16 (R499): the frame: bits of the address that arrived, the address, the units that arrived and the bits
of a last incomplete one. -/
  | bankWrite16 (t : Nat) (ab : Nat) (a : Nat) (us : List Nat) (part : Nat)
/-- BANK_WRITE8 (R499): the frame: bits of the address that arrived, the address, the units that arrived and the bits of
a last incomplete one. -/
  | bankWrite8 (t : Nat) (ab : Nat) (a : Nat) (us : List Nat) (part : Nat)
/-- BANK_READ32 (R499): the frame: bits of the address that arrived, the address, the clocks after it, and the words
that are not ready in time. -/
  | bankRead32 (t : Nat) (ab : Nat) (a : Nat) (clocks : Nat) (late : List Nat)
/-- EXT_READ (R499): the frame: bits of the address that arrived, the address, the clocks after it, and the words that
are not ready in time; the line fetches: whether a fetch was lost, and its words. -/
  | extRead (t : Nat) (ab : Nat) (a : Nat) (clocks : Nat) (late : List Nat) (lines : List (Bool × List Nat))
/-- HOST_OPCODE_UNKNOWN (R499). -/
  | hostOpcodeUnknown (t : Nat) (opcode : Nat)
/-- PROGRAM (R516). -/
  | program (t : Nat) (r : Req) (region : Fin 16)
/-- REBURN (R516). -/
  | reburn (t : Nat) (r : Req) (region : Fin 16)
/-- LOCK (R516). -/
  | lock (t : Nat) (r : Req) (region : Fin 16)
/-- CHECK (R516). -/
  | check (t : Nat) (r : Req)
/-- OTP_RAW_GO (R518): the rows whose three readings differ from their burned bits after the pulses. -/
  | otpRawGo (t : Nat) (r : Req) (weak : List RowRead)
/-- OTP_COMMAND_END (R516): the rows whose three readings differ from their burned bits after the pulses. -/
  | otpCommandEnd (t : Nat) (weak : List RowRead)
/-- STORE (R523). -/
  | store (t : Nat) (r : Req) (merge : Bool)
/-- STORE_COPY_END (R525). -/
  | storeCopyEnd (t : Nat)
/-- STORE_VERIFY_END (R525): the words read back agree. -/
  | storeVerifyEnd (t : Nat) (good : Bool)
/-- VOK_FALL (R522). -/
  | vokFall (t : Nat)
/-- SUPPLY_MONITOR_RELEASE (R567). -/
  | supplyMonitorRelease
/-- VGD_IN_RANGE (R97). -/
  | vgdInRange (t : Nat) (c : Fin 4)
/-- ENABLE_RISE (R100): DEN0 to DEN3, or DENX for 4. -/
  | enableRise (t : Nat) (i : Fin 5)
/-- XFLT_DEASSERT (R99): the external axis 16 + j. -/
  | xfltDeassert (t : Nat) (j : Fin 8)
/-- CLOCK_RETURN (R536): the region. -/
  | clockReturn (t : Nat) (g : Fin 2)
/-- VDDSM_FALL (R422). -/
  | vddsmFall (t : Nat)
/-- VDDSM_RISE (R422). -/
  | vddsmRise (t : Nat)
/-- VOK_RISE (R522). -/
  | vokRise (t : Nat)
/-- REGISTER_READ (R12): an internal address and the size of the access in bytes. -/
  | registerRead (t : Nat) (r : Req) (a : Nat) (bytes : Nat)
/-- PENNANT_RETURN (R462). -/
  | pennantReturn (t : Nat) (p : PennantIn)
/-- RETICLE_PULSE_END (R343). -/
  | reticlePulseEnd (t : Nat) (k : Fin 12)
/-- TEST_ACCESS_PORT (R583): an edge of TCK with TMS and TDI, or a level of TRST_N. -/
  | testAccessPort (t : Nat) (i : TapInput)
deriving DecidableEq, Repr

end Sys2Proof
end

