-- ==== Sys2Proof/Machine/Handover.lean ====
section
/-! DEFINITION. When a bank changes its owner or its power state: the quiet rule, forced handovers, and the end of a power
change (R399 to R401, R407, R429). -/
namespace Sys2Proof.Machine

/-! ### Quiet banks (R399) -/

/-- The bank of the buffer of a software transfer. -/
def Transfer.bank (x : Transfer) : Nat := bankOf x.buf

/-- A loader read of R381 from bank b is outstanding: an install of custom code waits for its judgement. -/
def Dev.loading (d : Dev) (b : Nat) : Bool :=
  (List.range 24).any (fun n => (d.install n).any (fun i => i.action == 1 && i.judgedAt.isNone && bankOf (4 * d.rd (prgInstSrc n)) == b))

/-- No transaction that the block knows of is outstanding at bank b (R399, R425): no software transfer, no loader read, no access that
waits for a later cycle. Host frames act at one time (log entry 17), and frames of the pager hold a handover by themselves (R429). -/
def Dev.quiet (d : Dev) (b : Nat) : Bool :=
  !(List.range 2).any (fun q => (d.smpOf q).sw.any (fun x => x.bank == b)) && !d.loading b
    && (d.mbank b).grants.all (fun g => decide (g.cycle ≤ d.cycle))

/-- A request written at a time is judged at the boundary that began the present tick, within its 4 withheld cycles (R399). -/
def Dev.judgedNow (d : Dev) (written t : Nat) : Bool := decide (written + 100 ≤ d.tickStart) && decide (t ≤ d.tickStart + 20)

/-! ### What a forced handover cuts (R401, R429) -/

/-- Bits that a software transfer has moved at a time (R423, R424). -/
def Transfer.moved (x : Transfer) (t : Nat) : Nat :=
  match x.since with
  | none => 0
  | some s => min x.len ((t - s - 5 * x.setup) / (5 * max x.div 1) * x.perCycle)

/-- The software transfers of bank b are cut: the words moved by then stand (R401). -/
def Dev.cutTransfers (d : Dev) (b t : Nat) : Dev :=
  d.each (List.range 2) (fun q d => d.modSmp q (fun p => { p with sw := p.sw.map (fun x =>
    if x.bank = b ∧ x.cut.isNone then { x with cut := some (x.moved t / 32) } else x) }))

/-- Stream s loses its frames in bank b: a page held in one, or being read into one, counts as read with an error of cause FRAME and is
read again, and a stream left without a frame stops (R401, R429, R435). -/
def Dev.cutStream (d : Dev) (b s t : Nat) : Dev :=
  let x := d.stream s
  let mine := fun (f : Nat) => f / framesPerBank == b
  if !x.frames.any mine then d
  else
    let filling := x.wantsPage && (d.smpOf (portOf (x.base + 4096 * x.page))).cur == some (.page s) && mine x.fillFrame
    let lost := ((x.held.filter (fun h => mine h.1)).map Prod.snd).min?
    let d := d.modStream s (fun x => { x with frames := x.frames.filter (fun f => !mine f), held := x.held.filter (fun h => !mine h.1) })
    match lost with
    | some p => d.pageLost s p t
    | none => if filling ∨ (x.wantsPage ∧ (d.stream s).frames = []) then d.attemptFails s 3 t else d

/-- A forced handover cuts the transactions of bank b (R401). -/
def Dev.cutBank (d : Dev) (b t : Nat) : Dev := (d.cutTransfers b t).each (List.range 48) (fun s d => d.cutStream b s t)

/-! ### Handover (R399 to R401) -/

/-- A handover takes effect (R399, R414). -/
def Dev.handOver (d : Dev) (b : Nat) (q : HoReq) (t : Nat) : Dev :=
  let old := d.owner b
  let d := d.when_ q.force (fun d => d.cutBank b t)
  let d := ((d.modMbank b (fun x => { x with ho := none })).wr (bnkPendOwner b) 0).hoResult b 1
  let d := ((d.wr (bnkOwner b) q.owner).wr (bnkReaders b) q.readers).syncFrames
  d.note t 3 q.src b 0x0050 (q.readers * 2 ^ 16 + (if q.force then 2 ^ 8 else 0) + old * 16 + q.owner)

/-- HANDOVER_APPLY (R399, R401, R429): at an eligible boundary the bank is quiet and none of its frames is reserved, or the request is
forced. -/
def effHandoverApply (b : Nat) (t : Nat) (d : Dev) : Dev :=
  match (d.mbank b).ho with
  | none => d
  | some q => if d.judgedNow q.at_ t ∧ (q.force ∨ (d.quiet b ∧ !d.frameReserved b)) then d.handOver b q t else d

/-- A boundary judges the pending handovers (R399 to R401): a forced one takes effect at its first eligible boundary, another has been
judged once more. -/
def Dev.countHandovers (d : Dev) (t : Nat) : Dev :=
  d.each (List.range 32) (fun b d =>
    match (d.mbank b).ho with
    | some q =>
      if t < q.at_ + 100 then d
      else if q.force then d.handOver b q t
      else d.modMbank b (fun x => { x with ho := some { q with judged := q.judged + 1 } })
    | none => d)

/-! ### Power (R407) -/

/-- BANK_POWER_DONE (R407): the change completes: from ON under the quiet rule, towards ON only after WAKE or INIT; a bank that went OFF or
passed through INIT has lost its contents. -/
def effBankPowerDone (b : Nat) (t : Nat) (mem : Mem) (d : Dev) : Dev × Mem :=
  match (d.mbank b).pwr with
  | none => (d, mem)
  | some q =>
    let ready := if q.new = 0 ∧ q.old ≠ 0 then d.rd (bnkPstate b) ≠ q.old else d.judgedNow q.at_ t ∧ (q.old ≠ 0 ∨ d.quiet b)
    if d.stepsDone < 4 ∨ d.rd (bnkPstate b) = 5 ∨ 32 ≤ b ∨ ¬ready then (d, mem)
    else
      let lost := q.new = 2 ∨ d.rd (bnkPstate b) = 3
      let d := (d.modMbank b (fun x => { x with pwr := none, bad := if lost then [] else x.bad, told := if lost then [] else x.told })).setPstate b q.new
      let d := ((d.wr bnkPwrrBank b).wr bnkPwrrResult 1).ev .bnk 7
      (d.note t 3 q.src b 0x0060 (q.old * 16 + q.new), if lost then mem.clear (b * bankSize) ((b + 1) * bankSize) else mem)

end Sys2Proof.Machine
end

