-- ==== Sys2Proof/Machine/Tick.lean ====
section
/-! DEFINITION. A tick boundary (R27 to R30, R307): reactions, commits and swaps, outputs of the outer loops, commands,
the generators, the tick snapshot, and what the units evaluate once per tick. -/
namespace Sys2Proof.Machine

/-! ### The grid of boundaries (R27, R47, R48) -/

/-- The least multiple of 5 that is not below x. -/
def upTo5 (x : Int) : Nat := (5 * ((x + 4) / 5)).toNat

/-- An axis that keeps R48 from lengthening one tick by the whole offset. -/
def Dev.axisBusy (d : Dev) (n : Nat) : Bool :=
  d.st n == stArmed || d.st n == stRun || d.st n == stCatch || d.st n == stBrake || d.st n == stStopping

/-- The boundary after b of a locked station: the system-cycle edge of the next grid point of R47. -/
def Dev.lockedNext (d : Dev) (b : Nat) : Nat :=
  let period : Int := d.tickNs
  let o := d.rdS timeTickOrigin
  let x := (b : Int) + period + d.timeOfs - o
  let i := (2 * x + period) / (2 * max period 1)
  max (b + 5) (upTo5 (o + i * period - d.timeOfs))

/-- System cycles by which the tick that begins now is lengthened in ACQUIRE (R48). -/
def Dev.lengthen (d : Dev) : Nat :=
  if d.rd timeState ≠ 1 then 0
  else if (List.range 24).any (fun n => d.axisBusy n) then min (d.rd timeTickSlew) d.alignLeft
  else d.alignLeft

/-- The side of a short of axis n changes at the first valley of the tick that begins at boundary b (R36, R123). -/
def Dev.turnShort (d : Dev) (n b : Nat) : Dev :=
  let side := d.shortSide n (d.rd timeTickCount) (d.ax n).regTick
  let q := axisTick (d.tcNow (n / 4)) n b
  let now := d.axNow n
  d.when_ (now.bridge == 2 || now.bridge == 3) (fun d => d.modAx n (fun _ => { now with sideTo := if now.bridge = side then none else some (q, side) }))

/-- The tick that begins at boundary b: the boundary that ends it falls due (R27, R47, R48). -/
def Dev.nextBoundary (d : Dev) (b : Nat) : Dev :=
  let k := d.lengthen
  let due := d.nextTick
  let d := { d with tickStart := b, alignLeft := d.alignLeft - k, stretch := k,
                    nextTick := if d.rd timeState = 2 then d.lockedNext b else b + d.tickNs + 5 * k }
  (d.alignRots b).each (List.range 24) (fun n d => (d.retime n b due).turnShort n b)

/-- Ticks without a time correction, and ticks with a time error beyond 10 ns (R45, R52). -/
def Dev.countTime (d : Dev) : Dev :=
  let s := d.rd timeState
  let far := s == 2 && decide (10 < (d.rdS timeTimeErr).natAbs)
  { d with noTime := if s == 2 || s == 3 then d.noTime + 1 else d.noTime, errRun := if far then d.errRun + 1 else 0 }

/-! ### What a new tick forgets -/

/-- The once-per-tick marks of R71, R396 and R539. -/
def Dev.newTick (d : Dev) : Dev :=
  { d with evtTick := [], refused5 := [], banks := tabMap d.banks (fun x => { x with refused := [] }) }

/-- What the boundary of tick j does to the regulation marks and the program state of axis n (R123, R248, R267, R377). -/
def Dev.tickAxis (d : Dev) (n j : Nat) : Dev :=
  let runs := d.runsPrograms n
  d.modAx n (fun a => { a with sinceRun := a.sinceRun + 1, curRun := if a.curKeep.isSome then a.curRun else if runs then 0 else 2, regSeen := false,
                               regTick := j % 2 == 1 && a.regTick })

/-! ### The excitation (R291) -/

/-- The excitation of axis n at a boundary: x_k of the tick, or the start at k = 0. -/
def Dev.excite (d : Dev) (n : Nat) : Dev :=
  let a := d.ax n
  let set := fun (d : Dev) (x : Int) => d.modAx n (fun a => { a with snap := { a.snap with exc := x } })
  let len := d.rd (motExcT n)
  if !d.on (motExcRun n) then set d 0
  else if a.excStart then
    set (d.modAx n (fun a => { a with excStart := false, excK := 0, excPhi := 0, excBase := d.pFb n })) 0
  else if len ≠ 0 ∧ len ≤ a.excK then set d 0
  else
    let f0 : Int := d.rd (motExcF0 n)
    let num : Int := if d.on (motExcChirp n) then f0 * len + ((d.rd (motExcF1 n) : Int) - f0) * a.excK else f0 * max len 1
    let step := divRound (num * d.tickNs * 65536) (1000000000 * (max len 1 : Nat))
    let phi := wrapTo 32 ((a.excPhi : Int) + step)
    let k := a.excK + 1
    let x := if len ≠ 0 ∧ len ≤ k then 0 else divRound (d.rdS (motExcAmp n) * sinQ30 phi) (2 ^ 30)
    set (d.modAx n (fun a => { a with excK := k, excPhi := phi })) x

/-! ### The tick snapshot (R29, R361) -/

/-- The speed of the observer block that reaches the velocity loop, Q28.4 counts/s: that of θ_h in HFI (R251, R258). -/
def Dev.obsVel (d : Dev) (n : Nat) : Int :=
  if d.phase n = 5 then saturate 32 (countsOf (d.ax n).wH (d.rd (focEcounts n))) else d.rdS (obsSpeedCnt n)

/-- Feedback in the snapshot of axis n: positions, speeds and the port's words. -/
def Dev.snapFeedback (d : Dev) (n b : Nat) : Dev :=
  let c := d.commPort n
  let s := { (d.ax n).snap with
    posComm := d.rdS (fbPosSnap c), posPos := d.rdS (fbPosSnap (d.posPort n)), speed := d.rdS (fbSpeed c),
    portAngle := d.rd (fbAngle c), fbStatus := d.fbStatusWord c, obsSpeed := d.rdS (obsSpeedCnt n), velSpeed := d.obsVel n,
    obsAngle := d.rd (obsAngle n), obsPos := d.rdS (obsPos n), time := b, tick := d.rd timeTickCount }
  d.modAx n (fun a => { a with snap := s })

/-- v_ref of R279 before floor and clamp. -/
def Dev.vRefNow (d : Dev) (n : Nat) : Int :=
  match d.mode n with
  | 3 | 4 | 5 => (d.ax n).vRefApp
  | _ => if d.st n == stStopping then (d.ax n).stopRef else d.rdS (prfV n)

/-- The axis word of input port 0x14. -/
def Dev.axisPort (d : Dev) (n : Nat) : Nat :=
  d.st n + 16 * d.mode n + 256 * d.bridge n + 2048 * d.rd (curStale n) + 4096 * d.rd (axbFrozen n)

/-- The rest of the snapshot of axis n, after its generator; the excitation of POINT 2 adds to p_cmd in the modes that form it (R291, R306). -/
def Dev.snapRest (d : Dev) (n : Nat) : Dev :=
  let c := n / 4
  let p := (d.ax n).snap
  let x := if d.on (motExcRun n) && d.rd (motExcPoint n) == 2 && d.posMode n then p.exc else 0
  let (th, w) := d.angleOf n p.posComm p.speed p.portAngle
  let s := { p with
    pCmd := d.rdS (prfP n) + x, vGen := d.rdS (prfV n), vFf := if d.posMode n then d.rdS (prfV n) else 0,
    aCmd := if d.mode n ≤ 1 then 0 else d.rdS (prfA n), iSrc := d.rdS (motIOut n), vRef := d.vRefNow n, idCmd := d.rdS (focIdCmd n),
    iqCmd := d.rdS (focIqCmd n), axisWord := d.axisPort n, iLim := d.rdS (focILimAct n),
    adcRes := (List.range 16).map (fun e => d.rd (adcRes c e)), hostIn := (List.range 8).map (fun i => d.rd (prgHostIn n i)),
    outs := (List.range 8).map (fun i => d.rd (prgOut n i)), obsSpeed := d.rdS (obsSpeedCnt n), obsAngle := d.rd (obsAngle n),
    wE := w, theta := th, vStop := (d.ax n).stopRef, iPh := [d.rdS (curIU n), d.rdS (curIV n), d.rdS (curIW n)],
    vBus := signedOf 32 (d.vBus n), vApp := (d.ax n).vRefApp }
  let d := d.modAx n (fun a => { a with snap := s })
  ((d.wrS (motPCmd n) s.pCmd).wrS (motPFb n) (d.pFb n)).wrS (motPErr n) (d.pErr n)

/-- The commanded speed of an axis whose generator is not followed yet (R252, log entry 20): the target of SPEED or CURVE,
otherwise v_ref. -/
def Dev.wantedSpeed (d : Dev) (n : Nat) : Int :=
  match d.mode n with
  | 2 => d.speedTarget n
  | 0 => d.rdS (crvVTgt n)
  | _ => (d.ax n).snap.vRef

/-- The start direction of a start that takes effect at this boundary (R252). -/
def Dev.takeSigma (d : Dev) (n : Nat) : Dev :=
  if (d.ax n).sigmaInit then
    let v := d.wantedSpeed n
    d.modAx n (fun a => { a with sigmaInit := false, sigma := signOf v })
  else d

/-- The synchronisation of R262 in the snapshot of the first boundary in RUN. -/
def Dev.syncAt (d : Dev) (n b : Nat) : Dev := if d.moves n then d.applySync n b else d

/-- The generator of axis n, the snapshot, and the tests of the supervision block on it (R29, R285 to R290, R297). -/
def Dev.snapAxis (d : Dev) (n b j : Nat) : Dev :=
  let d := ((d.evalGen n b j).i2tIdle n).formILim n
  let d := ((d.syncAt n b).excite n).snapRest n
  let d := ((d.takeSigma n).evalFollowing n j).evalFreeze n
  ((d.evalSpeed n).evalStop n).evalReversal n

/-! ### The mapped values of the pennants (R461) -/

/-- The words that map entry i carries from this boundary on. -/
def Dev.mapWords (d : Dev) (b i : Nat) : List Nat :=
  if !d.on (netMapEn i) || !d.on (netMapDir i) then []
  else
    match pageAt (d.rd (netMapPage i)) with
    | none => [0, 0]
    | some p =>
      let off := d.rd (netMapOffset i)
      let word := fun o => d.liveWord (.net 0 0) p o b
      [word off, if d.on (netMapW8 i) then word (off + 4) else 0]

/-- The mapped values of this boundary replace those of the boundary before it. -/
def Dev.captureMap (d : Dev) (b : Nat) : Dev :=
  let now := (List.range 32).map (fun i => d.mapWords b i)
  d.modNet (fun n => { n with mapPrev := n.mapNow, prevAt := n.mapAt, mapNow := now, mapAt := b })

/-! ### The boundary -/

/-- Reactions, the pending clear, and the transitions that wait for a boundary (R307, R538, R544). -/
def Dev.boundaryReactions (d : Dev) (b : Nat) : Dev :=
  let d := ((d.applyDeferred b).applyClear b).leaveFault causeInternal b
  d.each (List.range 24) (fun n d => (d.evalLowSpeed n b).takeNext n b)

/-- Step 1 and step 2 of R29, the installs, and the axis commands (R307, R382). -/
def Dev.boundaryCommits (d : Dev) (b : Nat) : Dev :=
  let d := ((d.commitAll b).takeSegPeriod b).restartDue b
  let d := d.each (List.range 24) (fun n d => ((d.applyInstall n b).applyOffsets n).applyOutputs n)
  d.each (List.range 24) (fun n d => d.applyAxb n b)

/-- Step 3 of R29 for every feedback port and axis, then the commands of the generators and event ports (R307, R345). -/
def Dev.boundarySnapshot (d : Dev) (mem : Mem) (b j : Nat) : Dev :=
  let d := d.each (List.range 24) (fun p d => (d.tickSets mem p b).tickPort p b)
  let d := d.each (List.range 24) (fun n d => d.snapFeedback n b)
  let d := d.each (List.range 24) (fun n d => (d.tickAxis n j).snapAxis n b j)
  let d := d.each (List.range 24) (fun p d => d.takeToothDir p)
  let d := d.each (List.range 24) (fun n d => d.judgePrf mem n b)
  d.each (List.range 12) (fun k d => d.judgeEvp mem k b)

/-- A pending list starts (R345), the wait for network samples counts (R342), and emulations of OBS_POS follow (R346). -/
def Dev.tickEvp (d : Dev) (k b : Nat) : Dev :=
  let d := d.modEvp k (fun e => { e with noSample := e.noSample + 1 })
  let d := d.when_ (d.rd (evpRetState k) == retPending) (fun d => d.startList k b)
  d.when_ (d.on (evpEmuObs k)) (fun d => d.emuFollow k b (4 * d.tickNs))

/-- A periodic pass of the sequence of bank c starts (R143). -/
def Dev.tickSequence (d : Dev) (c j : Nat) : Dev :=
  if decide (3 ≤ d.stepsDone) && d.rd (adcSeqTrig c) == 0 && j % max (d.rd (adcSeqPeriod c)) 1 == 0 then d.startPass c else d

/-- What the other units do once per tick. -/
def Dev.boundaryUnits (d : Dev) (mem : Mem) (b j : Nat) : Dev :=
  let d := d.each (List.range 6) (fun c d => d.tickSequence c j)
  let d := d.each (List.range 3) (fun p d => d.crossDue p)
  let d := ((d.tickBus.tickLanes).tickExport b).countHandovers b
  let d := (d.startPower b).each (List.range 12) (fun k d => d.tickEvp k b)
  let d := d.each (List.range 24) (fun n d => d.curveAuto n b)
  ((d.admTidy b).captureMap b).pump mem b

/-- The steps of R29 and everything else that happens at boundary b, which begins tick j. -/
def Dev.boundary (d : Dev) (mem : Mem) (b j : Nat) : Dev :=
  let d := d.each (List.range 24) (fun n d => d.keepCurrent n b)
  let d := ((d.newTick.countTime).boundaryReactions b).boundaryCommits b
  ((d.boundarySnapshot mem b j).boundaryUnits mem b j).nextBoundary b

/-- TICK_BOUNDARY (R29): the boundary that is due. `over` lists the axes whose comparators are beyond their threshold, for
the causes of R545; the boundary falls at the time at which it is due, or at the latest event where that is later (log
entry 21). TICK_COUNT and TICK_LAST are those of the new tick from its first step on, and no step of the boundary changes
them. -/
def effTick (oc : Nat) (mem : Mem) (d : Dev) : Dev :=
  let b := max d.nextTick d.now
  let d := { d with now := b, pins := { d.pins with oc := oc } }
  let j := (d.rd timeTickCount + 1) % 2 ^ timeTickCount.w
  let count := fun (d : Dev) => (d.wr timeTickCount j).wr timeTickLast b
  count ((count d).boundary mem b j)

end Sys2Proof.Machine
end

