-- ==== Sys2Proof/Machine/Reset.lean ====
section
/-! DEFINITION. The supply monitor, RESET_N, the reference clock and the instant at which the block begins to run (R73 to
R76, R79, R94, R95, R567). -/
namespace Sys2Proof.Machine

/-- Some of the bits: which ones is a free value (log entry 1). -/
def Dev.someBits (d : Dev) (bits : Nat) : Nat × Dev :=
  let (v, d) := d.free
  (v &&& bits, d)

/-- Burn a part of the bits of each row of a list (log entry 22). -/
def Dev.burnPart (d : Dev) : List Nat → List Nat → Dev
  | [], _ => d
  | r :: rs, ws =>
    let (v, d) := d.someBits (rowBits ws)
    Dev.burnPart (d.burn (d.physRow r) v) rs (ws.drop 8)

/-- A reset cuts off the OTP command under way: PROGRAM and LOCK leave some of their bits burned (R517). -/
def Dev.cutBurn (d : Dev) : Dev :=
  match d.eng.cmd with
  | 1 => d.burnPart (rowsOf d.eng.region) (d.eng.image ++ [crcWords d.eng.image])
  | 3 =>
    let (v, d) := d.someBits (2 ^ 256 - 1)
    d.burn (120 + d.eng.region) v
  | _ => d

/-- The block is taken into reset (R73, R94). -/
def Dev.toReset (d : Dev) : Dev := if d.running then d.cutBurn.fresh else d.fresh

/-- RESET_N release takes effect (R74, R79): TIME_NOW is 0, the first tick begins, and step 1 runs. No step of the boundary
touches the pins, the fuses and the store, the test access port or the progress of start-up. -/
def Dev.begin_ (d : Dev) (mem : Mem) : Dev :=
  let cause := if d.pins.powerOn then 1 else 2
  let d : Dev := { d.fresh with running := true, pins := { d.pins with powerOn := false } }
  let d := ((d.wr netState 1).wr devStartupStep 1).note 0 5 0 0 0x0600 cause
  let x := d.boundary mem 0 0
  { x with now := 0, running := true, pins := d.pins, nv := d.nv, tap := d.tap, stepsDone := 0 }

/-- The block begins to run once nothing holds it any more. -/
def Dev.tryBegin (d : Dev) (mem : Mem) : Dev :=
  if !d.running && d.pins.supplies && d.pins.resetN && d.pins.clockGood then d.begin_ mem else d

/-- SUPPLY_MONITOR_ASSERT (R73, R567). -/
def effSupplyAssert (d : Dev) : Dev :=
  let d := d.toReset
  { d with pins := { d.pins with supplies := false, clockGood := false, powerOn := true }, tap := { trstN := d.tap.trstN } }

/-- SUPPLY_MONITOR_RELEASE (R567). -/
def effSupplyRelease (mem : Mem) (d : Dev) : Dev :=
  ({ d with pins := { d.pins with supplies := true } } : Dev).tryBegin mem

/-- RESET_N_FALL (R94). -/
def effResetFall (d : Dev) : Dev :=
  let d := d.toReset
  { d with pins := { d.pins with resetN := false } }

/-- RESET_N_RELEASE (R74). -/
def effResetRelease (mem : Mem) (d : Dev) : Dev :=
  ({ d with pins := { d.pins with resetN := true } } : Dev).tryBegin mem

/-- CLOCK_GOOD (R74): the supply monitor must be released for the reference to be qualified. -/
def effClockGood (mem : Mem) (d : Dev) : Dev :=
  if d.pins.supplies then ({ d with pins := { d.pins with clockGood := true } } : Dev).tryBegin mem else d

end Sys2Proof.Machine
end

