-- ==== Sys2Proof/Machine/State.lean ====
section
/-! DEFINITION. The state of the model: the block, the bytes of its memory banks, and the queue of waiting commands. -/
namespace Sys2Proof.Machine

/-- Everything the spec gives the block, and the queue of the commands that wait, first in, first out. -/
structure State where
  /-- Registers, units, pins and what survives a reset. -/
  dev : Dev
  /-- The bytes of the 32 memory banks (R393), as a list in the form of `Memory.wf`. -/
  mem : Mem
  /-- The commands that wait. -/
  pending : List Instr
deriving DecidableEq, Repr

/-- Why a step stops. -/
inductive Fault
  /-- A command would move TIME_NOW to 2^64 ns or beyond, which its 64 bits cannot hold (R42). Raised by the combinators
  of Effect.lean. Safe: the spec says nothing of a TIME_NOW that wraps. -/
  | timeWraps
deriving DecidableEq, Repr

/-- Why a command has no meaning. -/
inductive Refusal
  /-- The command has no meaning in the model yet. Raised by the dispatch alone. Safe: the run stops. -/
  | notModelled (mnemonic : String)
deriving DecidableEq, Repr

/-- The machine right after reset: the supplies are in reset, RESET_N is low, every register has its reset value, nothing
is burned, stored or queued, and the links are in the reset bypass (R17, R73, R76, log entries 2 and 24). -/
def State.reset : State := { dev := ({} : Dev).fresh, mem := [], pending := [] }

end Sys2Proof.Machine
end

