-- ==== Sys2Proof/Machine/Effect.lean ====
section
/-! DEFINITION. How a command acts on the state: its device time, what it may touch, and the few effects that no unit's
file holds. -/
namespace Sys2Proof.Machine

/-- The outcome of a command. -/
abbrev Result := Host.Outcome State Fault Refusal

/-! ### What a command leaves alone, whatever its effect is -/

/-- The pins, the fuses, the parameter store and the test access port stay, and the block goes on running: only the
commands of the pins, of the persistence engine and of the reset change them. -/
def Dev.keepAll (d new : Dev) : Dev :=
  { new with now := d.now, running := d.running, pins := d.pins, nv := d.nv, tap := d.tap }

/-- As `keepAll`, for a command that may burn fuses or write the parameter store. -/
def Dev.keepPins (d new : Dev) : Dev := { new with now := d.now, running := d.running, pins := d.pins, tap := d.tap }

/-- As `keepAll`, for a command that changes a level at the pins. -/
def Dev.keepNv (d new : Dev) : Dev := { new with now := d.now, running := d.running, nv := d.nv }

/-! ### Time -/

/-- The block at device time t: TIME_NOW does not decrease (R42), so an event that is reported late happens now (log
entry 25). The rotations of the converter banks have gone on to that time (R129), a serial memory port without a transaction has begun
its first pending one (R423), and the answer of the command before is gone. -/
def Dev.at_ (d : Dev) (t : Nat) : Dev :=
  let e : Dev := { d with now := max d.now t }
  { e with rots := e.turnedRots, smps := e.servedPorts, answer := none, served := [] }

/-- A command at device time t; while the block is held in reset nothing happens (R73). -/
def onAll (keep : Dev → Dev → Dev) (t : Nat) (s : State) (f : Nat → Mem → Dev → Dev × Mem) : Result :=
  let d := s.dev.at_ t
  if 2 ^ 64 ≤ d.now then .fault .timeWraps
  else if !s.dev.running then .next s
  else .next { s with dev := keep d (f d.now s.mem d).1, mem := (f d.now s.mem d).2 }

/-- A command that touches neither the memory banks nor the pins. -/
def onDev (t : Nat) (s : State) (f : Nat → Dev → Dev) : Result := onAll Dev.keepAll t s (fun t mem d => (f t d, mem))

/-- A command that may read the memory banks. -/
def onRead (t : Nat) (s : State) (f : Nat → Mem → Dev → Dev) : Result := onAll Dev.keepAll t s (fun t mem d => (f t mem d, mem))

/-- A command that may write the memory banks. -/
def onMem (t : Nat) (s : State) (f : Nat → Mem → Dev → Dev × Mem) : Result := onAll Dev.keepAll t s f

/-- A command of the persistence engine. -/
def onDevNv (t : Nat) (s : State) (f : Nat → Dev → Dev) : Result := onAll Dev.keepPins t s (fun t mem d => (f t d, mem))

/-- A command that may reach the persistence engine and read the memory banks. -/
def onReadNv (t : Nat) (s : State) (f : Nat → Mem → Dev → Dev) : Result :=
  onAll Dev.keepPins t s (fun t mem d => (f t mem d, mem))

/-- A command that may reach the persistence engine and write the memory banks. -/
def onMemNv (t : Nat) (s : State) (f : Nat → Mem → Dev → Dev × Mem) : Result := onAll Dev.keepPins t s f

/-- A change of a level at the pins: while the block is held in reset, only the level changes. -/
def onPinRead (t : Nat) (s : State) (f : Nat → Mem → Dev → Dev) : Result :=
  if s.dev.running then onAll Dev.keepNv t s (fun t mem d => (f t mem d, mem))
  else
    let d := f s.dev.now s.mem s.dev
    .next { s with dev := { s.dev with pins := d.pins, tap := d.tap } }

/-- A change of a level at the pins that reads no memory bank. -/
def onPin (t : Nat) (s : State) (f : Nat → Dev → Dev) : Result := onPinRead t s (fun t _ d => f t d)

/-- Requester r, who reaches pages (R77), writes a word whose register has a row of its own: a high word it holds is dropped
(R13); in an expert area that is not open to it the write ends with LOCKED (R58, R63); otherwise it is accepted and ends with
OK. -/
def Dev.written (r : Req) (p : Page) (off t : Nat) (f : Dev → Dev) (d : Dev) : Dev :=
  if !d.reaches r then d
  else
    let d := d.dropHigh r
    if 0x400 ≤ off ∧ !d.expertOpen r p then (d.accessRefused r (pageIndex p) off 3 true t).answered 3 []
    else (d.accept r p off t f).answered 0 []

/-- A register write with a row of its own, at a word of a page. -/
def onWrite (r : Req) (p : Page) (off t : Nat) (s : State) (f : Nat → Mem → Dev → Dev) : Result :=
  onRead t s (fun t mem d => Dev.written r p off t (f t mem) d)

/-- A register write with a row of its own that may burn fuses. -/
def onWriteNv (r : Req) (p : Page) (off t : Nat) (s : State) (f : Nat → Mem → Dev → Dev) : Result :=
  onReadNv t s (fun t mem d => Dev.written r p off t (f t mem) d)

/-- The tick boundary that is due (R27). -/
def onTick (oc : Nat) (s : State) : Result :=
  if 2 ^ 64 ≤ max s.dev.nextTick s.dev.now then .fault .timeWraps
  else if !s.dev.running then .next s
  else
    let d := s.dev.at_ s.dev.nextTick
    let d := { d with pins := { d.pins with oc := oc } }
    .next { s with dev := d.keepAll (effTick oc s.mem d) }

/-! ### Effects that belong to no unit -/

/-- A write of a header word of the page at an index (R61). -/
def effPageWord (r : Req) (page off v t : Nat) (mem : Mem) (d : Dev) : Dev :=
  if !d.reaches r then d
  else
  let (x, d) := d.busWrite mem r page off v true t
  d.answered x []

/-- EXPERT_AREA_TIMEOUT on the page at an index (R65). -/
def effExpertEnd (r : Req) (page t : Nat) (d : Dev) : Dev :=
  match pageAt page with
  | some p => effExpertTimeout r p t d
  | none => d

/-- PAGER_PAGE_READ (R435), and the entries it makes available to the stream's consumer. -/
def effPageReadPump (k : Nat) (dqs : Bool) (ws : List Nat) (t : Nat) (mem : Mem) (d : Dev) : Dev × Mem :=
  let (d, mem) := effPageRead k dqs ws t mem d
  (d.pump mem t, mem)

/-- VDDSM crosses the threshold of the serial memory ports (R422). -/
def effVddsm (good : Bool) (_t : Nat) (d : Dev) : Dev := { d with pins := { d.pins with vddsm := good } }

end Sys2Proof.Machine
end

