-- ==== Sys2Proof/Machine/CmdAxis.lean ====
section
/-! DEFINITION. The meanings of the commands of the axis commands, moves, ephemerides and excitation. -/
namespace Sys2Proof.Machine

/-- ARM (R294): The ARM command takes the axis from OFF to ARMED when every arming condition holds, and is refused with
a result code otherwise. -/
def execArm (t : Nat) (r : Req) (n : Fin 24) (s : State) : Host.Outcome State Fault Refusal :=
  onWrite r (.axb n) 0x04C t s (fun t _mem d => d.axbCommand n 1 r.src t)

/-- DISARM (R295): The DISARM command takes the axis from ARMED to OFF. -/
def execDisarm (t : Nat) (r : Req) (n : Fin 24) (s : State) : Host.Outcome State Fault Refusal :=
  onWrite r (.axb n) 0x04C t s (fun t _mem d => d.axbCommand n 2 r.src t)

/-- START (R295): The START command takes an ARMED axis to RUN, or to CATCH or RUN under R270 on a sensorless axis. -/
def execStart (t : Nat) (r : Req) (n : Fin 24) (s : State) : Host.Outcome State Fault Refusal :=
  onWrite r (.axb n) 0x04C t s (fun t _mem d => d.axbCommand n 3 r.src t)

/-- STOP (R297): The STOP command takes a RUN axis to STOPPING with a ramp to zero, or to BRAKE in TORQUE with an empty
VEL slot. -/
def execStop (t : Nat) (r : Req) (n : Fin 24) (s : State) : Host.Outcome State Fault Refusal :=
  onWrite r (.axb n) 0x04C t s (fun t _mem d => d.axbCommand n 4 r.src t)

/-- STOP_HOLD (R298): The STOP_HOLD command stops the axis by ramp and leaves it in RUN with FROZEN set at the end. -/
def execStopHold (t : Nat) (r : Req) (n : Fin 24) (s : State) : Host.Outcome State Fault Refusal :=
  onWrite r (.axb n) 0x04C t s (fun t _mem d => d.axbCommand n 5 r.src t)

/-- BRAKE (R266): The BRAKE command takes a RUN or STOPPING axis to BRAKE with stop purpose. -/
def execBrake (t : Nat) (r : Req) (n : Fin 24) (s : State) : Host.Outcome State Fault Refusal :=
  onWrite r (.axb n) 0x04C t s (fun t _mem d => d.axbCommand n 6 r.src t)

/-- COAST (R295): The COAST command takes a RUN or STOPPING axis to ARMED with the bridge in HIZ at once. -/
def execCoast (t : Nat) (r : Req) (n : Fin 24) (s : State) : Host.Outcome State Fault Refusal :=
  onWrite r (.axb n) 0x04C t s (fun t _mem d => d.axbCommand n 7 r.src t)

/-- SERVICE (R299): The SERVICE command takes an OFF or FAULT axis to SERVICE and releases its lane slots and converter
windows. -/
def execService (t : Nat) (r : Req) (n : Fin 24) (s : State) : Host.Outcome State Fault Refusal :=
  onWrite r (.axb n) 0x04C t s (fun t _mem d => d.axbCommand n 8 r.src t)

/-- RETURN (R299): The RETURN command repeats admission and re-inserts the axis with its stagger into OFF, or is refused
with ADMISSION. -/
def execReturnAxis (t : Nat) (r : Req) (n : Fin 24) (s : State) : Host.Outcome State Fault Refusal :=
  onWrite r (.axb n) 0x04C t s (fun t _mem d => d.axbCommand n 9 r.src t)

/-- BRAKE_START_AT_VALLEY (R121): A commanded brake begins at the next valley of the axis's carrier, with all switches
off for the dead time before the short closes. -/
def execBrakeStartAtValley (t : Nat) (n : Fin 24) (s : State) : Host.Outcome State Fault Refusal :=
  onDev t s (fun t d => effBrakeStart n t d)

/-- MOVE_ABS (R310): MOVE_ABS sets the active target to PRF_TARGET and plans or replans a jerk-limited move. -/
def execMoveAbs (t : Nat) (r : Req) (n : Fin 24) (s : State) : Host.Outcome State Fault Refusal :=
  onWrite r (.prf n) 0x044 t s (fun t _mem d => d.prfCommand n 1 r t)

/-- MOVE_REL (R310): MOVE_REL adds PRF_DELTA to the active target and plans or replans a jerk-limited move. -/
def execMoveRel (t : Nat) (r : Req) (n : Fin 24) (s : State) : Host.Outcome State Fault Refusal :=
  onWrite r (.prf n) 0x044 t s (fun t _mem d => d.prfCommand n 2 r t)

/-- HALT (R314): HALT replans to the stopping point of an S-ramp from the current velocity, or sets the SPEED target to
0. -/
def execHalt (t : Nat) (r : Req) (n : Fin 24) (s : State) : Host.Outcome State Fault Refusal :=
  onWrite r (.prf n) 0x044 t s (fun t _mem d => d.prfCommand n 3 r t)

/-- EPH_START (R319): EPH_START binds the named stream and starts the ephemeris list at once or at a timed boundary. -/
def execEphStart (t : Nat) (r : Req) (n : Fin 24) (s : State) : Host.Outcome State Fault Refusal :=
  onWrite r (.prf n) 0x044 t s (fun t _mem d => d.prfCommand n 4 r t)

/-- EPH_CONTINUE (R320): EPH_CONTINUE ends the WAIT state and starts the next entry at its boundary. -/
def execEphContinue (t : Nat) (r : Req) (n : Fin 24) (s : State) : Host.Outcome State Fault Refusal :=
  onWrite r (.prf n) 0x044 t s (fun t _mem d => d.prfCommand n 5 r t)

/-- EPH_RESUME (R323): EPH_RESUME runs the entry at EPH_IDX as a replacement cubic from the current state, after which
the list continues. -/
def execEphResume (t : Nat) (r : Req) (n : Fin 24) (s : State) : Host.Outcome State Fault Refusal :=
  onWrite r (.prf n) 0x044 t s (fun t _mem d => d.prfCommand n 6 r t)

/-- EPH_ABORT (R324): EPH_ABORT ends the list, releases the stream and hands over to a HALT of the profile generator. -/
def execEphAbort (t : Nat) (r : Req) (n : Fin 24) (s : State) : Host.Outcome State Fault Refusal :=
  onWrite r (.prf n) 0x044 t s (fun t _mem d => d.prfCommand n 7 r t)

/-- FOC_INT_RESET (R200): A write of 1 sets INT_D, INT_Q and i_d_fw to 0 at the start of the next current program run.
-/
def execFocIntReset (t : Nat) (r : Req) (n : Fin 24) (s : State) : Host.Outcome State Fault Refusal :=
  onWrite r (.foc n) 0x04C t s (fun t _mem d => effFocReset n t d)

/-- MOT_INT_RESET (R283): A write of 1 sets INT_V, INT_P, v_f and the applied outputs to 0 at the start of the next run
of each program. -/
def execMotIntReset (t : Nat) (r : Req) (n : Fin 24) (s : State) : Host.Outcome State Fault Refusal :=
  onWrite r (.mot n) 0x04C t s (fun t _mem d => effMotReset n t d)

/-- EXCITATION_START (R291): A write of 1 to MOT_EXC_CTRL.RUN in RUN starts the sine or chirp excitation at the next
boundary, and is refused in other states. -/
def execExcitationStart (t : Nat) (r : Req) (n : Fin 24) (v : Nat) (s : State) : Host.Outcome State Fault Refusal :=
  onWrite r (.mot n) 0x0C0 t s (fun t _mem d => d.writeExc n (setBit v 0) t)

/-- EXCITATION_END (R291): The excitation ends after EXC_T ticks, at a write of 0 or when the axis leaves RUN, and
EXC_DONE is set. -/
def execExcitationEnd (t : Nat) (n : Fin 24) (written : Bool) (s : State) : Host.Outcome State Fault Refusal :=
  onDev t s (fun t d => effExcEnd n written t d)

end Sys2Proof.Machine
end

