-- ==== Sys2Proof/Machine/CmdConverter.lean ====
section
/-! DEFINITION. The meanings of the commands of the converter banks. -/
namespace Sys2Proof.Machine

/-- INJ_GO (R141): A write to ADC_INJ_GO triggers each injection slot whose bit is 1 and whose TRIG is 1. -/
def execInjGo (t : Nat) (r : Req) (c : Fin 6) (mask : Nat) (s : State) : Host.Outcome State Fault Refusal :=
  onWrite r (.adc c) 0x1E0 t s (fun t _mem d => effInjGo c mask t d)

/-- INJECTION_COMPLETE (R142): An injected conversion completes and writes its record and sampling time and sets
INJ_DONE. -/
def execInjectionComplete (t : Nat) (c : Fin 6) (i : Fin 8) (code : Nat) (s : State) : Host.Outcome State Fault Refusal :=
  onMem t s (fun t mem d => effInjComplete c i code t mem d)

/-- SEQ_GO (R143): A write of 1 to ADC_SEQ_CTRL.GO with TRIG 1 starts a sequence pass, or drops it when a pass still
runs. -/
def execSeqGo (t : Nat) (r : Req) (c : Fin 6) (s : State) : Host.Outcome State Fault Refusal :=
  onWrite r (.adc c) 0x060 t s (fun t _mem d => effSeqGo c t d)

/-- SEQUENCE_PASS_END (R146): A sequence pass completes, each entry has delivered its filtered record and SEQ_DONE is
set. -/
def execSequencePassEnd (t : Nat) (c : Fin 6) (codes : List Nat) (s : State) : Host.Outcome State Fault Refusal :=
  onMem t s (fun t mem d => effPassEnd c codes t mem d)

/-- SUPERVISION_SCAN (R149): Every 100 µs, at the next tick boundary, the bank converts the bus, gate-supply and
temperature channels. -/
def execSupervisionScan (t : Nat) (c : Fin 6) (s : State) : Host.Outcome State Fault Refusal :=
  onDev t s (fun t d => effScan c t d)

/-- SUPERVISION_SCAN_END (R149): The supervision scan completes and delivers its results to the PWD and XST fields. -/
def execSupervisionScanEnd (t : Nat) (c : Fin 6) (codes temps : List Nat) (s : State) : Host.Outcome State Fault Refusal :=
  onMem t s (fun t mem d => effScanEnd c codes temps t mem d)

/-- SUPERVISION_SCAN_LATE (R149): A scan that has not completed 1 ms after it fell due raises 0x2304. -/
def execSupervisionScanLate (t : Nat) (c : Fin 6) (s : State) : Host.Outcome State Fault Refusal :=
  onDev t s (fun t d => effScanLate c t d)

/-- CROSS_CHECK_EVALUATE (R154): The cross-check conversions of both banks complete, the means are compared and MISMATCH
and 0x2301 follow on failure. -/
def execCrossCheckEvaluate (t : Nat) (p : Fin 3) (codesE codesO : List Nat) (s : State) : Host.Outcome State Fault Refusal :=
  onMem t s (fun t mem d => effCross p codesE codesO t mem d)

/-- XCK_CLEAR (R155): A write of 1 to XCK_CLEAR clears MISMATCH. -/
def execXckClear (t : Nat) (r : Req) (p : Fin 3) (s : State) : Host.Outcome State Fault Refusal :=
  onWrite r (.xck p) 0x070 t s (fun t _mem d => effXckClear p t d)

/-- FGCAL (R150): A write of 1 to ADC_CTRL.FGCAL starts a foreground calibration of every working active slice. -/
def execFgcal (t : Nat) (r : Req) (c : Fin 6) (s : State) : Host.Outcome State Fault Refusal :=
  onWrite r (.adc c) 0x044 t s (fun t _mem d => effFgcal c t d)

/-- FGCAL_END (R150): A foreground calibration completes, the new coefficients apply, and a slice that fails is retired.
-/
def execFgcalEnd (t : Nat) (c : Fin 6) (ks : List Coef) (s : State) : Host.Outcome State Fault Refusal :=
  onDev t s (fun t d => effFgcalEnd c ks t d)

/-- BACKGROUND_CALIBRATION_END (R131): The spare slice's background calibration ends, and on a pass the spare replaces
the next active slice, or on a failure it is retired. -/
def execBackgroundCalibrationEnd (t : Nat) (c : Fin 6) (k : Coef) (s : State) : Host.Outcome State Fault Refusal :=
  onDev t s (fun t d => effBgEnd c k t d)

/-- SLICE_RETRY (R132): Every 10 s the background calibrator retries a retired slice, which becomes the spare if it
passes. -/
def execSliceRetry (t : Nat) (c : Fin 6) (k : Fin 5) (x : Coef) (s : State) : Host.Outcome State Fault Refusal :=
  onDev t s (fun t d => effSliceRetry c k x t d)

/-- RESTORE_END (R158): The RESTORE calibration of all five slices completes and the bank enters FULL or a degraded
mode. -/
def execRestoreEnd (t : Nat) (c : Fin 6) (ks : List Coef) (s : State) : Host.Outcome State Fault Refusal :=
  onDev t s (fun t d => effRestoreEnd c ks t d)

end Sys2Proof.Machine
end

