-- ==== Sys2Proof/Machine/CmdDrive.lean ====
section
/-! DEFINITION. The meanings of the commands of the drive stages, current measurement and supplies. -/
namespace Sys2Proof.Machine

/-- DUTY_LOAD (R110): At the load instant t_p, the drive stage processes the duty vector through compensation, minimum
pulse, plan, shift and edge placement. -/
def execDutyLoad (t : Nat) (n : Fin 24) (s : State) : Host.Outcome State Fault Refusal :=
  onDev t s (fun t d => effDutyLoad n t d)

/-- CURRENT_WINDOW_END (R177): The last window of a plan ends, the bank delivers averaged records and the block forms
the phase currents or marks the tick stale. -/
def execCurrentWindowEnd (t : Nat) (n : Fin 24) (codes : List Nat) (s : State) : Host.Outcome State Fault Refusal :=
  onMem t s (fun t mem d => effWindowEnd n codes t mem d)

/-- STALE_LIMIT (R178): STALE_LIMIT consecutive stale ticks in PWM raise 0x1402. -/
def execStaleLimit (t : Nat) (n : Fin 24) (s : State) : Host.Outcome State Fault Refusal :=
  onDev t s (fun t d => effStaleLimit n t d)

/-- SUM_ERROR_LIMIT (R180): SUM_N consecutive checked ticks with |s| above CUR_SUM_TOL raise 0x1401. -/
def execSumErrorLimit (t : Nat) (n : Fin 24) (s : State) : Host.Outcome State Fault Refusal :=
  onDev t s (fun t d => effSumLimit n t d)

/-- OFFSET_MEASUREMENT_START (R184): At the first tick at rest after the period or a pending offset, an offset
measurement over N ticks begins. -/
def execOffsetMeasurementStart (t : Nat) (n : Fin 24) (s : State) : Host.Outcome State Fault Refusal :=
  onDev t s (fun t d => effOffsetStart n t d)

/-- OFFSET_MEASUREMENT_END (R184): After N ticks at rest, the new offsets apply when they are within ±2 %, or 0x1403 is
raised. -/
def execOffsetMeasurementEnd (t : Nat) (n : Fin 24) (s : State) : Host.Outcome State Fault Refusal :=
  onDev t s (fun t d => effOffsetEnd n t d)

/-- OVERCURRENT_TRIP (R118): A comparator crossing turns the axis off within 30 ns, latches the trip, raises 0x1201 or
0x1202 and triggers the injected conversion. -/
def execOvercurrentTrip (t : Nat) (n : Fin 24) (phases : Fin 8) (link : Bool) (since : Nat) (s : State) :
    Host.Outcome State Fault Refusal :=
  onPin t s (fun t d => effOvercurrent n phases link since t d)

/-- XFLT_ASSERT (R116): Xn_FLT_N stays low past its filter, the gate outputs go low within 30 ns and 0x1203 is latched.
-/
def execXfltAssert (t : Nat) (j : Fin 8) (s : State) : Host.Outcome State Fault Refusal :=
  onPin t s (fun t d => effXfltAssert (16 + j) t d)

/-- BRAKE_REGULATION (R122): While shorting, a phase current crosses DRV_BRAKE_ILIM, all switches turn off without a
fault and the bridge becomes BRAKE_OFF. -/
def execBrakeRegulation (t : Nat) (n : Fin 24) (p : Fin 3) (s : State) : Host.Outcome State Fault Refusal :=
  onDev t s (fun t d => effBrakeRegulation n p t d)

/-- BRAKE_RECLOSE (R122): At the next valley or peak after a regulation opening, the short closes again after the dead
time. -/
def execBrakeReclose (t : Nat) (n : Fin 24) (crossing : Option (Fin 3)) (s : State) :
    Host.Outcome State Fault Refusal :=
  onDev t s (fun t d => effBrakeReclose n (crossing.map Fin.val) t d)

/-- BOOTSTRAP_LOW (R97): A bootstrap voltage falls below 8.5 V while the axis drives, the axis turns off and 0x1204 is
raised. -/
def execBootstrapLow (t : Nat) (n : Fin 16) (leg : Fin 3) (s : State) : Host.Outcome State Fault Refusal :=
  onDev t s (fun t d => effBootstrapLow n leg t d)

/-- BOOTSTRAP_PRECHARGED (R97): Within 200 µs after VGD enters its range, every bootstrap is precharged and BOOT_READY
is set. -/
def execBootstrapPrecharged (t : Nat) (c : Fin 4) (s : State) : Host.Outcome State Fault Refusal :=
  onDev t s (fun t d => effBootstrapPrecharged c t d)

/-- ENABLE_FALL (R100): DENc or DENX goes low, the governed switches turn off within 100 ns, and each driving axis
raises 0x1205. -/
def execEnableFall (t : Nat) (i : Fin 5) (s : State) : Host.Outcome State Fault Refusal :=
  onPin t s (fun t d => effEnableFall i t d)

/-- VGD_OUT_OF_RANGE (R126): The die comparator finds VGD out of range, the cluster's bridges turn off within 100 ns,
and 0x4204 is raised when an axis drives. -/
def execVgdOutOfRange (t : Nat) (c : Fin 4) (s : State) : Host.Outcome State Fault Refusal :=
  onPin t s (fun t d => effVgdOut c t d)

/-- BUS_OUT_OF_RANGE (R126): The bus is out of range on two consecutive ticks while an axis drives, raising 0x4201,
0x4202 or 0x1207. -/
def execBusOutOfRange (t : Nat) (u : Fin 12) (s : State) : Host.Outcome State Fault Refusal :=
  onDev t s (fun t d => effBusOut u t d)

/-- DIE_OVER_TEMPERATURE (R126): A power-die sensor reads above PWDc_TEMP_TRIP on two consecutive readings and 0x4203 is
raised. -/
def execDieOverTemperature (t : Nat) (c : Fin 4) (s : State) : Host.Outcome State Fault Refusal :=
  onDev t s (fun t d => effDieHot c t d)

/-- VBUS_STALE_LIMIT (R108): Four consecutive ticks without a valid bus measurement while the axis drives raise 0x1206.
-/
def execVbusStaleLimit (t : Nat) (n : Fin 24) (s : State) : Host.Outcome State Fault Refusal :=
  onDev t s (fun t d => effVbusStale n t d)

end Sys2Proof.Machine
end

