-- ==== Sys2Proof/Machine/CmdEvent.lean ====
section
/-! DEFINITION. The meanings of the commands of the event ports and GPIO. -/
namespace Sys2Proof.Machine

/-- RET_START (R345): RET_START binds the reticle stream and makes the list PLAYING, or PENDING for a timed start. -/
def execRetStart (t : Nat) (r : Req) (k : Fin 12) (s : State) : Host.Outcome State Fault Refusal :=
  onWrite r (.evp k) 0x04C t s (fun t _mem d => effRetStart k r t d)

/-- RET_ABORT (R345): RET_ABORT makes the list ABORTED at its boundary and releases the stream. -/
def execRetAbort (t : Nat) (r : Req) (k : Fin 12) (s : State) : Host.Outcome State Fault Refusal :=
  onWrite r (.evp k) 0x04C t s (fun t _mem d => effRetAbort k r t d)

/-- RETICLE_PREDICTED_FIRE (R341): The predicted crossing time of a network-sourced head is reached and its pulse
begins. -/
def execReticlePredictedFire (t : Nat) (k : Fin 12) (s : State) : Host.Outcome State Fault Refusal :=
  onRead t s (fun t mem d => (effPredictedFire k t mem d).pump mem t)

/-- NET_SAMPLE (R341): The low-word write of EVP_NET_TS completes a network sample, which recomputes the pending
crossings and fires late heads. -/
def execNetSample (t : Nat) (r : Req) (k : Fin 12) (ts : Nat) (s : State) : Host.Outcome State Fault Refusal :=
  onWrite r (.evp k) 0x0A0 t s (fun t mem d => (effNetSample k ts t mem d).pump mem t)

/-- NET_SOURCE_STALE (R342): EVP_NET_HOLD ticks without a new sample make the network source stale and set SRC_STALE. -/
def execNetSourceStale (t : Nat) (k : Fin 12) (s : State) : Host.Outcome State Fault Refusal :=
  onDev t s (fun t d => effNetStale k t d)

/-- EMU_EDGE (R346): The emulation emits one quadrature step from its backlog no closer than EVP_EMU_MIN after the
previous one. -/
def execEmuEdge (t : Nat) (k : Fin 12) (s : State) : Host.Outcome State Fault Refusal :=
  onDev t s (fun t d => effEmuEdge k t d)

/-- LATCH_INPUT_EDGE (R349): An edge on an event port in LATCH is admitted by the window and ARM, and latches time and
position, or is counted in LAT_GATED. -/
def execLatchInputEdge (t : Nat) (k : Fin 12) (fine : Fin 4) (rising : Bool) (s : State) : Host.Outcome State Fault Refusal :=
  onPin t s (fun t d => effLatchEdge k fine rising t d)

/-- PWIDTH_EDGE (R351): The closing edge of a pulse on a PWIDTH port writes its width and period and raises PW_NEW. -/
def execPwidthEdge (t : Nat) (k : Fin 12) (fine : Fin 4) (rising : Bool) (s : State) : Host.Outcome State Fault Refusal :=
  onPin t s (fun t d => effPwidthEdge k fine rising t d)

/-- GPIO_EDGE (R586): A selected rising or falling edge on a GPIO pin sets its PAGE_EVENT bit. -/
def execGpioEdge (t : Nat) (i : Fin 32) (rising : Bool) (s : State) : Host.Outcome State Fault Refusal :=
  onPin t s (fun t d => effGpioEdge i rising t d)

/-- GPIO_SET (R586): A write to GPIO_SET sets each OUT bit that is written as 1. -/
def execGpioSet (t : Nat) (r : Req) (mask : Nat) (s : State) : Host.Outcome State Fault Refusal :=
  onWrite r .gpio 0x048 t s (fun t _mem d => effGpioSet mask t d)

/-- GPIO_CLR (R586): A write to GPIO_CLR clears each OUT bit that is written as 1. -/
def execGpioClr (t : Nat) (r : Req) (mask : Nat) (s : State) : Host.Outcome State Fault Refusal :=
  onWrite r .gpio 0x04C t s (fun t _mem d => effGpioClr mask t d)

end Sys2Proof.Machine
end

