-- ==== Sys2Proof/Machine/CmdFault.lean ====
section
/-! DEFINITION. The meanings of the commands of faults, records and clocks. -/
namespace Sys2Proof.Machine

/-- FAULT_CLEAR (R545): A single FLT_CLEAR request clears one entry and instance at the next boundary, or is refused. -/
def execFaultClear (t : Nat) (r : Req) (entry : Fin 128) (inst : Fin 32) (s : State) : Host.Outcome State Fault Refusal :=
  onWrite r .flt 0x048 t s (fun t _mem d => d.requestClear false entry inst r.src t)

/-- CLEAR_ALL (R546): A FLT_CLEAR with ALL visits every active latched fault from level 6 down and clears each clearable
one. -/
def execClearAll (t : Nat) (r : Req) (s : State) : Host.Outcome State Fault Refusal :=
  onWrite r .flt 0x048 t s (fun t _mem d => d.requestClear true 0 0 r.src t)

/-- CONDITION_END (R533): The condition of a condition fault ends and the fault clears itself, releasing axes to OFF at
the next boundary. -/
def execConditionEnd (t : Nat) (entry : Fin 128) (inst : Fin 256) (s : State) : Host.Outcome State Fault Refusal :=
  onDev t s (fun t d => effConditionEnd entry inst t d)

/-- REACTION_TABLE_WRITE (R541): A write to FLT_REACT_e sets the entry under its bounds and writes record 0x0150. -/
def execReactionTableWrite (t : Nat) (r : Req) (e : Fin 128) (v : Nat) (s : State) : Host.Outcome State Fault Refusal :=
  onWrite r .flt (0x400 + 4 * e) t s (fun t _mem d => d.writeReact e v r t)

/-- CHRON_WRITE (R551): 2 µs after their time, held entries are written to bank 31 in order, or counted lost with a
later 0x0160 record. -/
def execChronWrite (t : Nat) (s : State) : Host.Outcome State Fault Refusal :=
  onMem t s (fun t mem d => effChronWrite t mem d)

/-- ALMANAC_RECORD (R550): Almanac's write of CHRON_ALM submits a record with the data of CHRON_ALM_DATA. -/
def execAlmanacRecord (t : Nat) (r : Req) (v : Nat) (s : State) : Host.Outcome State Fault Refusal :=
  onWrite r .chron 0x058 t s (fun t _mem d => effAlmanacRecord r v t d)

/-- PACKAGE_TEMP_READ (R537): Each millisecond Meridian reads the control-die temperature, and two readings above
FLT_PKG_TRIP raise 0x5001. -/
def execPackageTempRead (t : Nat) (v : Nat) (s : State) : Host.Outcome State Fault Refusal :=
  onDev t s (fun t d => effPackageTemp v t d)

/-- CLOCK_DEPARTURE (R536): A region clock departs by more than ±2 % for 16 cycles, the region's bridges turn off and
0x3001 is raised. -/
def execClockDeparture (t : Nat) (g : Fin 2) (ppm : Int) (s : State) : Host.Outcome State Fault Refusal :=
  onPin t s (fun t d => effClockDeparture g ppm t d)

end Sys2Proof.Machine
end

