-- ==== Sys2Proof/Machine/CmdFeedback.lean ====
section
/-! DEFINITION. The meanings of the commands of the feedback ports. -/
namespace Sys2Proof.Machine

/-- SET_POS (R237): A write of 1 to FB_CMD.SET_POS sets the counter to FB_POS_SET at the next boundary, or is refused
while a naming axis drives. -/
def execSetPos (t : Nat) (r : Req) (p : Fin 24) (s : State) : Host.Outcome State Fault Refusal :=
  onWrite r (.fb p) 0x054 t s (fun t _mem d => effSetPos p t d)

/-- REFERENCE_SET_ARM (R237): A write of 1 to FB_REF_CTRL.ARM arms a set of the counter to FB_REF_VALUE at the next
reference. -/
def execReferenceSetArm (t : Nat) (r : Req) (p : Fin 24) (s : State) : Host.Outcome State Fault Refusal :=
  onWrite r (.fb p) 0x0C0 t s (fun t _mem d => effRefArm p t d)

/-- FB_EDGE (R217): An accepted transition on a feedback receiver counts in QUAD, HALL or TOOTH mode and updates the
counter, direction and estimator. -/
def execFbEdge (t : Nat) (p : Fin 24) (fine : Fin 4) (lines : Fin 8) (s : State) : Host.Outcome State Fault Refusal :=
  onPinRead t s (fun t mem d => effFbEdge p fine lines t mem d)

/-- ILLEGAL_LIMIT (R218): More than FB_ILLEGAL_LIMIT illegal transitions within 1 ms raise 0x1602. -/
def execIllegalLimit (t : Nat) (p : Fin 24) (s : State) : Host.Outcome State Fault Refusal :=
  onDev t s (fun t d => effIllegalLimit p t d)

/-- REF_MISMATCH_LIMIT (R226): REF_LIMIT consecutive tooth-reference mismatches raise 0x1604. -/
def execRefMismatchLimit (t : Nat) (p : Fin 24) (s : State) : Host.Outcome State Fault Refusal :=
  onDev t s (fun t d => effRefLimit p t d)

/-- WIRE_DISAGREEMENT (R213): A differential pair has disagreed for FB_WIRE_T cycles, so its transitions are ignored,
POS_VALID is cleared and 0x1601 is raised. -/
def execWireDisagreement (t : Nat) (p : Fin 24) (pairs : Fin 8) (s : State) : Host.Outcome State Fault Refusal :=
  onDev t s (fun t d => effWire p pairs t d)

/-- HALL_INVALID (R220): An invalid Hall state has lasted FB_WIRE_T cycles, so HALL_BAD is set and 0x1606 is raised. -/
def execHallInvalid (t : Nat) (p : Fin 24) (s : State) : Host.Outcome State Fault Refusal :=
  onDev t s (fun t d => effHallInvalid p t d)

/-- SSER_FRAME_START (R227): LEAD cycles before the next boundary, the port checks the data line, drops SCK and begins
clocking a serial frame. -/
def execSserFrameStart (t : Nat) (p : Fin 24) (s : State) : Host.Outcome State Fault Refusal :=
  onDev t s (fun t d => effFrameStart p t d)

/-- SSER_FRAME_END (R230): A serial frame completes; it is CRC-checked and decoded and updates the absolute count, or it
fails. -/
def execSserFrameEnd (t : Nat) (p : Fin 24) (frame : Nat) (s : State) : Host.Outcome State Fault Refusal :=
  onRead t s (fun t mem d => effFrameEnd p frame t mem d)

/-- SSER_ERR_LIMIT (R231): ERR_LIMIT consecutive failed frames raise 0x1603. -/
def execSserErrLimit (t : Nat) (p : Fin 24) (s : State) : Host.Outcome State Fault Refusal :=
  onDev t s (fun t d => effSserLimit p t d)

/-- ESTIMATOR_STILL (R239): No count has arrived for FB_T_STILL, so the speed estimator enters STILL and raises the
STILL event. -/
def execEstimatorStill (t : Nat) (p : Fin 24) (s : State) : Host.Outcome State Fault Refusal :=
  onDev t s (fun t d => effStill p t d)

/-- LATCH_CAPTURE (R242): A latch edge captures the counter and its edge time into FB_LATCH_POS and FB_LATCH_TIME. -/
def execLatchCapture (t : Nat) (p : Fin 24) (fine : Fin 4) (falling : Bool) (s : State) : Host.Outcome State Fault Refusal :=
  onDev t s (fun t d => effLatchCapture p fine falling t d)

end Sys2Proof.Machine
end

