-- ==== Sys2Proof/Machine/CmdFirmware.lean ====
section
/-! DEFINITION. The meanings of the commands of Meridian's commands and Almanac. -/
namespace Sys2Proof.Machine

/-- RECHECK (R489): The RECHECK command repeats the fine-delay, lane-memory and test-DAC checks of one cluster. -/
def execRecheck (t : Nat) (r : Req) (v : Nat) (s : State) : Host.Outcome State Fault Refusal :=
  onWrite r .mer 0x044 t s (fun t _mem d => effRecheck r v t d)

/-- RECHECK_END (R489): A recheck completes, clearing passed start-up faults or raising them again. -/
def execRecheckEnd (t : Nat) (c : Fin 6) (fineFail : Bool) (laneFail : Bool) (dacFail : Bool) (s : State) : Host.Outcome State Fault Refusal :=
  onDev t s (fun t d => effRecheckEnd c fineFail laneFail dacFail t d)

/-- ALM_VERIFY (R487): The ALM_VERIFY command verifies an image slot. -/
def execAlmVerify (t : Nat) (r : Req) (v : Nat) (s : State) : Host.Outcome State Fault Refusal :=
  onWrite r .mer 0x044 t s (fun t _mem d => effAlmVerify r v t d)

/-- ALM_SWITCH (R497): The ALM_SWITCH command requests quiet, restarts Almanac on the named slot and falls back on
failure. -/
def execAlmSwitch (t : Nat) (r : Req) (v : Nat) (s : State) : Host.Outcome State Fault Refusal :=
  onWrite r .mer 0x044 t s (fun t _mem d => effAlmSwitch r v t d)

/-- ALM_RESTART (R492): The ALM_RESTART command restarts Almanac under the start sequence. -/
def execAlmRestart (t : Nat) (r : Req) (s : State) : Host.Outcome State Fault Refusal :=
  onWrite r .mer 0x044 t s (fun t _mem d => effAlmRestart r t d)

/-- ALM_STOP (R492): The ALM_STOP command stops Almanac and answers its held dispatches. -/
def execAlmStop (t : Nat) (r : Req) (s : State) : Host.Outcome State Fault Refusal :=
  onWrite r .mer 0x044 t s (fun t _mem d => effAlmStop r t d)

/-- ALM_START (R492): The ALM_START command verifies the boot slot and starts a stopped Almanac. -/
def execAlmStart (t : Nat) (r : Req) (s : State) : Host.Outcome State Fault Refusal :=
  onWrite r .mer 0x044 t s (fun t _mem d => effAlmStart r t d)

/-- ALMANAC_VERIFY_END (R495): Meridian ends a slot verification with its cause, and a start releases the core or 0x5E03
is raised. -/
def execAlmanacVerifyEnd (t : Nat) (img : SlotImage) (s : State) : Host.Outcome State Fault Refusal :=
  onDev t s (fun t d => effVerifyEnd img t d)

/-- ALM_HEARTBEAT (R491): Almanac writes ALM_HEARTBEAT, resetting the watchdog and setting ALM_READY on the first write
after a start. -/
def execAlmHeartbeat (t : Nat) (r : Req) (v : Nat) (s : State) : Host.Outcome State Fault Refusal :=
  onWrite r .alm 0x050 t s (fun t _mem d => effHeartbeat r v t d)

/-- ALM_QUIET (R497): Almanac writes 1 to ALM_QUIET, ending the switch's wait for a quiet point. -/
def execAlmQuiet (t : Nat) (r : Req) (v : Nat) (s : State) : Host.Outcome State Fault Refusal :=
  onWrite r .alm 0x054 t s (fun t _mem d => effQuiet r v t d)

/-- ALM_QUIET_TIMEOUT (R497): QUIET_TMAX elapses without a quiet point and the switch proceeds. -/
def execAlmQuietTimeout (t : Nat) (s : State) : Host.Outcome State Fault Refusal :=
  onDev t s (fun t d => effQuietTimeout t d)

/-- ALM_WATCHDOG (R491): A heartbeat missed for WDT ms restarts Almanac with 0x5E01, or stops it with 0x5E02 at the
restart limit. -/
def execAlmWatchdog (t : Nat) (s : State) : Host.Outcome State Fault Refusal :=
  onDev t s (fun t d => effWatchdog t d)

/-- ALM_CORE_EXCEPTION (R491): An Almanac core exception restarts Almanac with cause 5. -/
def execAlmCoreException (t : Nat) (s : State) : Host.Outcome State Fault Refusal :=
  onDev t s (fun t d => effCoreException t d)

end Sys2Proof.Machine
end

