-- ==== Sys2Proof/Machine/CmdHost.lean ====
section
/-! DEFINITION. The meanings of the commands of the host port. -/
namespace Sys2Proof.Machine

/-- STATUS (R500): A host STATUS frame returns the status byte and HSP_LAST. -/
def execStatus (t : Nat) (bits : Nat) (s : State) : Host.Outcome State Fault Refusal :=
  onDev t s (fun t d => effStatus bits t d)

/-- PAGE_WRITE (R499): A host PAGE_WRITE frame writes successive page units. -/
def execPageWrite (t : Nat) (ab : Nat) (a : Nat) (us : List Nat) (part : Nat) (s : State) : Host.Outcome State Fault Refusal :=
  onMemNv t s (fun t mem d => effHostPageWrite ab a us part t mem d)

/-- PAGE_READ (R501): A host PAGE_READ frame reads successive page units after the dummy clocks. -/
def execPageRead (t : Nat) (ab : Nat) (a : Nat) (clocks : Nat) (late : List Nat) (s : State) : Host.Outcome State Fault Refusal :=
  onMem t s (fun t mem d => effHostPageRead ab a clocks late t mem d)

/-- BANK_WRITE32 (R499): A host BANK_WRITE32 frame writes 32-bit units to a bank. -/
def execBankWrite32 (t : Nat) (ab : Nat) (a : Nat) (us : List Nat) (part : Nat) (s : State) : Host.Outcome State Fault Refusal :=
  onMem t s (fun t mem d => effBankWrite32 ab a us part t mem d)

/-- BANK_WRITE16 (R499): A host BANK_WRITE16 frame writes 16-bit units to a bank. -/
def execBankWrite16 (t : Nat) (ab : Nat) (a : Nat) (us : List Nat) (part : Nat) (s : State) : Host.Outcome State Fault Refusal :=
  onMem t s (fun t mem d => effBankWrite16 ab a us part t mem d)

/-- BANK_WRITE8 (R499): A host BANK_WRITE8 frame writes 8-bit units to a bank. -/
def execBankWrite8 (t : Nat) (ab : Nat) (a : Nat) (us : List Nat) (part : Nat) (s : State) : Host.Outcome State Fault Refusal :=
  onMem t s (fun t mem d => effBankWrite8 ab a us part t mem d)

/-- BANK_READ32 (R499): A host BANK_READ32 frame reads 32-bit units from a bank. -/
def execBankRead32 (t : Nat) (ab : Nat) (a : Nat) (clocks : Nat) (late : List Nat) (s : State) : Host.Outcome State Fault Refusal :=
  onMem t s (fun t mem d => effBankRead32 ab a clocks late t mem d)

/-- EXT_READ (R499): A host EXT_READ frame reads the external windows through HSP_XBASE. -/
def execExtRead (t : Nat) (ab : Nat) (a : Nat) (clocks : Nat) (late : List Nat) (lines : List (Bool × List Nat)) (s : State) : Host.Outcome State Fault Refusal :=
  onMem t s (fun t mem d => effExtRead ab a clocks late lines t mem d)

/-- HOST_OPCODE_UNKNOWN (R499): A host frame with an unknown opcode is ignored with result OPCODE. -/
def execHostOpcodeUnknown (t : Nat) (opcode : Nat) (s : State) : Host.Outcome State Fault Refusal :=
  onMem t s (fun t mem d => effUnknownOpcode opcode t mem d)

end Sys2Proof.Machine
end

