-- ==== Sys2Proof/Machine/CmdLane.lean ====
section
/-! DEFINITION. The meanings of the commands of the lanes of the loop engine. -/
namespace Sys2Proof.Machine

/-- CUR_PROGRAM_START (R39): A current program becomes ready and the cluster lane starts it once the previous program
has ended. -/
def execCurProgramStart (t : Nat) (c : Fin 6) (errs : List (Nat × Bool)) (s : State) : Host.Outcome State Fault Refusal :=
  onRead t s (fun t mem d => effCurStart c errs t mem d)

/-- GLOBAL_LANE_START (R378): At the boundary + 200 ns, a global lane starts the due VEL, POS and AUX programs in axis
and slot order. -/
def execGlobalLaneStart (t : Nat) (g : Fin 2) (errs : List (Nat × Bool)) (s : State) : Host.Outcome State Fault Refusal :=
  onRead t s (fun t mem d => effGlobalStart g errs t mem d)

/-- PROGRAM_END (R359): A program run completes END, commits all its held stores, outputs and requests in one step and
sets any sticky flags. -/
def execProgramEnd (t : Nat) (l : Fin 8) (stalls : Nat) (s : State) : Host.Outcome State Fault Refusal :=
  onMem t s (fun t mem d => effProgramEnd l stalls t mem d)

/-- CUR_DEADLINE (R377): A current program has not completed END at t_p − 1 µs; it is aborted, its stores are discarded
and the previous duties are held. -/
def execCurDeadline (t : Nat) (n : Fin 24) (s : State) : Host.Outcome State Fault Refusal :=
  onRead t s (fun t mem d => effCurDeadline n t mem d)

/-- GLOBAL_LANE_DEADLINE (R378): At the boundary + T_tick − 1 µs, the running program is aborted and unstarted due
programs are skipped as overruns. -/
def execGlobalLaneDeadline (t : Nat) (g : Fin 2) (s : State) : Host.Outcome State Fault Refusal :=
  onRead t s (fun t mem d => effGlobalDeadline g t mem d)

/-- OVERRUN_LIMIT (R289): SUP_OVR_LIMIT consecutive overruns of one slot raise 0x1803. -/
def execOverrunLimit (t : Nat) (n : Fin 24) (k : Fin 4) (s : State) : Host.Outcome State Fault Refusal :=
  onDev t s (fun t d => effOverrunLimit n k t d)

end Sys2Proof.Machine
end

