-- ==== Sys2Proof/Machine/CmdMemory.lean ====
section
/-! DEFINITION. The meanings of the commands of the memory banks, the serial memory ports and the pager. -/
namespace Sys2Proof.Machine

/-- BANK_ACCESS (R402): A master accesses a bank word through its port and is arbitrated, checked for ownership and ECC,
or refused with record 0x0080. -/
def execBankAccess (t : Nat) (accs : List PortAccess) (s : State) : Host.Outcome State Fault Refusal :=
  onMem t s (fun t mem d => effBankAccess accs t mem d)

/-- BNK_HANDOVER (R398): A write to BNK_HANDOVER requests a new owner and reader set for a bank, or is refused. -/
def execBnkHandover (t : Nat) (r : Req) (force : Bool) (b : Fin 32) (owner : Fin 16) (readers : Nat) (s : State) : Host.Outcome State Fault Refusal :=
  onWrite r .bnk 0x050 t s (fun t _mem d => effHandover r force b owner readers t d)

/-- HANDOVER_APPLY (R399): At an eligible boundary the bank is found quiet, or the request is forced, and the new
ownership takes effect with record 0x0050. -/
def execHandoverApply (t : Nat) (b : Fin 32) (s : State) : Host.Outcome State Fault Refusal :=
  onDev t s (fun t d => effHandoverApply b t d)

/-- BNK_HO_TIMEOUT (R400): A handover not done after BNK_HO_TMAX boundaries is refused with TIMEOUT. -/
def execBnkHoTimeout (t : Nat) (b : Fin 32) (s : State) : Host.Outcome State Fault Refusal :=
  onDev t s (fun t d => effHandoverTimeout b t d)

/-- BNK_PWR (R407): A write to BNK_PWR requests a power state change for one bank. -/
def execBnkPwr (t : Nat) (r : Req) (b : Fin 32) (v : Nat) (s : State) : Host.Outcome State Fault Refusal :=
  onWrite r .bnk 0x05C t s (fun t _mem d => effBankPower r b v t d)

/-- BANK_POWER_DONE (R407): A bank power change completes, through WAKE or INIT towards ON, and writes record 0x0060. -/
def execBankPowerDone (t : Nat) (b : Fin 32) (s : State) : Host.Outcome State Fault Refusal :=
  onMem t s (fun t mem d => effBankPowerDone b t mem d)

/-- SWEEP_BLOCK (R409): Every BNK_SWEEP_INT cycles the sweeper copies, March-tests and writes back one block of an ON
bank. -/
def execSweepBlock (t : Nat) (g : Fin 2) (failed : Bool) (late : Bool) (s : State) : Host.Outcome State Fault Refusal :=
  onDev t s (fun t d => effSweepBlock g failed late t d)

/-- SMP_SW_GO (R424): A write of 1 to SMP_SW_CMD.GO starts a software transfer, or is refused. -/
def execSmpSwGo (t : Nat) (r : Req) (q : Fin 2) (s : State) : Host.Outcome State Fault Refusal :=
  onWrite r (.smp q) 0x06C t s (fun t _mem d => effSwGo q r t d)

/-- SW_TRANSFER_END (R428): A software transfer ends, and BITS_DONE, RESULT and SW_DONE are set. -/
def execSwTransferEnd (t : Nat) (q : Fin 2) (rx : List Nat) (s : State) : Host.Outcome State Fault Refusal :=
  onMem t s (fun t mem d => effSwEnd q rx t mem d)

/-- WATCH_RELEASE (R427): The watched GPIO select is released during a transfer, which stops short with SHORT set. -/
def execWatchRelease (t : Nat) (q : Fin 2) (bits : Nat) (rx : List Nat) (s : State) : Host.Outcome State Fault Refusal :=
  onMem t s (fun t mem d => effWatchRelease q bits rx t mem d)

/-- WINDOW_LINE_FETCH (R421): A window read miss fetches a 32-byte line into a line buffer, or ends as a read error. -/
def execWindowLineFetch (t : Nat) (a : Nat) (k : Nat) (dqs : Bool) (line : List Nat) (code : Bool) (s : State) : Host.Outcome State Fault Refusal :=
  onDev t s (fun t d => effLine a k dqs line code t d)

/-- OPEN (R433): The OPEN stream command reserves frames and opens a pager stream. -/
def execStreamOpen (t : Nat) (r : Req) (s : State) : Host.Outcome State Fault Refusal :=
  onWrite r .pgr 0x088 t s (fun t _mem d => effOpen t d)

/-- CLOSE (R434): The CLOSE stream command returns the stream's frames and closes it, unless it is bound. -/
def execStreamClose (t : Nat) (r : Req) (s : State) : Host.Outcome State Fault Refusal :=
  onWrite r .pgr 0x088 t s (fun t _mem d => effClose t d)

/-- RETRY (R436): The RETRY stream command re-reads from the page of the first undelivered entry and returns the stream
to OPEN. -/
def execStreamRetry (t : Nat) (r : Req) (s : State) : Host.Outcome State Fault Refusal :=
  onWrite r .pgr 0x088 t s (fun t mem d => (effRetry t d).pump mem t)

/-- PAGER_PAGE_READ (R435): A pager page read completes and delivers good entries, or is repeated, or after RETRY
failures stops the stream with record 0x0090. -/
def execPagerPageRead (t : Nat) (k : Fin 48) (dqs : Bool) (ws : List Nat) (s : State) : Host.Outcome State Fault Refusal :=
  onMem t s (fun t mem d => effPageReadPump k dqs ws t mem d)

/-- RING_WRITE (R431): A write of PGR_S_WR makes the bank-ring entries below it available for delivery. -/
def execRingWrite (t : Nat) (r : Req) (v : Nat) (s : State) : Host.Outcome State Fault Refusal :=
  onWrite r .pgr 0x078 t s (fun t mem d => (effRingWrite v t d).pump mem t)

/-- EXPORT_FLUSH (R437): At the FLUSH-th boundary after its first entry, a partial export frame is written out. -/
def execExportFlush (t : Nat) (k : Fin 48) (s : State) : Host.Outcome State Fault Refusal :=
  onDev t s (fun t d => effExportFlush k t d)

/-- EXPORT_WRITE (R437): A full or flushed export frame is written to external RAM in bursts with its check word. -/
def execExportWrite (t : Nat) (k : Fin 48) (s : State) : Host.Outcome State Fault Refusal :=
  onDev t s (fun t d => effExportWrite k t d)

end Sys2Proof.Machine
end

