-- ==== Sys2Proof/Machine/CmdNetwork.lean ====
section
/-! DEFINITION. The meanings of the commands of the Llyntal network. -/
namespace Sys2Proof.Machine

/-- LINK_TRAIN (R445): A signal is detected on a DOWN link, which enters TRAIN. -/
def execLinkTrain (t : Nat) (m : Fin 4) (s : State) : Host.Outcome State Fault Refusal :=
  onDev t s (fun t d => effLinkTrain m t d)

/-- LINK_UP (R445): After comma alignment and 1,024 valid symbols, the link becomes UP, and a head with AUTO_ENUM
enumerates. -/
def execLinkUp (t : Nat) (m : Fin 4) (standby : Bool) (s : State) : Host.Outcome State Fault Refusal :=
  onDev t s (fun t d => effLinkUp m standby t d)

/-- LINK_DOWN (R445): A link goes DOWN on loss of signal or errors, and a station turns around, raising 0x6D01. -/
def execLinkDown (t : Nat) (m : Fin 4) (errs : Nat) (s : State) : Host.Outcome State Fault Refusal :=
  onDev t s (fun t d => effLinkDown m errs t d)

/-- PENNANT_SEND (R464): At each cycle boundary plus SEND_OFS, the head sends a pennant. -/
def execPennantSend (t : Nat) (s : State) : Host.Outcome State Fault Refusal :=
  onDev t s (fun t d => effPennantSend t d)

/-- PENNANT (R461): A cyclic pennant passes the station, which inserts its status and input slice, takes a time sample
and applies its outputs after the return pass. -/
def execPennant (t : Nat) (p : PennantIn) (s : State) : Host.Outcome State Fault Refusal :=
  onReadNv t s (fun t mem d => effPennant p t mem d)

/-- PENNANT_MISS (R480): No good pennant for MISS_N cycles raises 0x6D02 with the address kept. -/
def execPennantMiss (t : Nat) (s : State) : Host.Outcome State Fault Refusal :=
  onDev t s (fun t d => effPennantMiss t d)

/-- STATION_REJOIN (R480): No good pennant for 256 cycles returns the station to RELAY to rejoin. -/
def execStationRejoin (t : Nat) (s : State) : Host.Outcome State Fault Refusal :=
  onDev t s (fun t d => effStationRejoin t d)

/-- ENUMERATE (R456): The ENUMERATE command makes the head send eight enumeration pennants in place of cyclic ones. -/
def execEnumerate (t : Nat) (r : Req) (s : State) : Host.Outcome State Fault Refusal :=
  onWrite r .net 0x088 t s (fun t _mem d => effEnumerate t d)

/-- ENUMERATION_PENNANT (R457): An enumeration pennant passes, stations take addresses and write entries, and the head
checks the returned pennant. -/
def execEnumerationPennant (t : Nat) (p : PennantIn) (k : Nat) (s : State) : Host.Outcome State Fault Refusal :=
  onDev t s (fun t d => effEnumPennant p k t d)

/-- UNFOLD (R478): The UNFOLD command makes the head unfold a folded ring. -/
def execUnfold (t : Nat) (r : Req) (s : State) : Host.Outcome State Fault Refusal :=
  onWrite r .net 0x088 t s (fun t _mem d => effUnfold t d)

/-- LEAVE (R480): The LEAVE command puts the device in RELAY and its time state in FREE after a NOTICE. -/
def execLeave (t : Nat) (r : Req) (s : State) : Host.Outcome State Fault Refusal :=
  onWrite r .net 0x088 t s (fun t _mem d => effLeave t d)

/-- RING_FOLD (R477): The head detects a ring break and folds the ring, writing record 0x00D0 and raising 0x6D03. -/
def execRingFold (t : Nat) (s : State) : Host.Outcome State Fault Refusal :=
  onDev t s (fun t d => effRingFold t d)

/-- RING_UNFOLD (R478): After 16 cycles of RESTORED with AUTO_UNFOLD, the head unfolds the ring. -/
def execRingUnfold (t : Nat) (s : State) : Host.Outcome State Fault Refusal :=
  onDev t s (fun t d => effRingUnfold t d)

/-- STATION_LEFT (R480): A station's ALIVE is missing for MISS_N pennants; the head declares it left, broadcasts NOTICE
and raises 0x6D07. -/
def execStationLeft (t : Nat) (stn : Nat) (s : State) : Host.Outcome State Fault Refusal :=
  onDev t s (fun t d => effStationLeft stn t d)

/-- JOIN_START (R479): A device in RELAY that is LOCKED after eight good pennants sends JOIN and enters JOINING. -/
def execJoinStart (t : Nat) (s : State) : Host.Outcome State Fault Refusal :=
  onDev t s (fun t d => effJoinStart t d)

/-- JOIN_TIMEOUT (R479): A JOIN without a GRANT within the retransmission span returns the device to step 1 of joining.
-/
def execJoinTimeout (t : Nat) (s : State) : Host.Outcome State Fault Refusal :=
  onDev t s (fun t d => effJoinTimeout t d)

/-- REGISTER_ACCESS_READ (R469): A channel 0 dispatch with OP 1 reads COUNT page words and returns them. -/
def execRegisterAccessRead (t : Nat) (h : DispHdr) (ws : List Nat) (s : State) : Host.Outcome State Fault Refusal :=
  onMem t s (fun t mem d => effAccessRead h ws t mem d)

/-- REGISTER_ACCESS_WRITE (R469): A channel 0 dispatch with OP 2 writes COUNT page words and returns the number applied.
-/
def execRegisterAccessWrite (t : Nat) (h : DispHdr) (ws : List Nat) (s : State) : Host.Outcome State Fault Refusal :=
  onMemNv t s (fun t mem d => effAccessWrite h ws t mem d)

/-- PARAMETER_STORE_DISPATCH (R527): A channel 1 dispatch starts a STORE and is acknowledged at once with PST_RESULT. -/
def execParameterStoreDispatch (t : Nat) (h : DispHdr) (ws : List Nat) (s : State) : Host.Outcome State Fault Refusal :=
  onMem t s (fun t mem d => effPstDispatch h ws t mem d)

/-- AXIS_COMMAND_QUEUE (R470): A channel 2 dispatch queues write groups for a tick at EXEC_T, or is answered UNSYNCED or
BUSY. -/
def execAxisCommandQueue (t : Nat) (h : DispHdr) (ws : List Nat) (s : State) : Host.Outcome State Fault Refusal :=
  onMemNv t s (fun t mem d => effAxisQueue h ws t mem d)

/-- TIMED_DISPATCH_APPLY (R470): 150 ns before the due boundary, the groups of a timed dispatch apply in one step and
are acknowledged. -/
def execTimedDispatchApply (t : Nat) (s : State) : Host.Outcome State Fault Refusal :=
  onReadNv t s (fun t mem d => effTimedApply t mem d)

/-- CHRONOGRAPH_FETCH (R553): A channel 3 dispatch returns up to 15 chronograph entries from an index. -/
def execChronographFetch (t : Nat) (h : DispHdr) (ws : List Nat) (s : State) : Host.Outcome State Fault Refusal :=
  onMem t s (fun t mem d => effChronFetch h ws t mem d)

/-- JOIN (R479): The head judges a JOIN dispatch and broadcasts a GRANT with an STN and slice, or CAPACITY. -/
def execJoin (t : Nat) (h : DispHdr) (serial : Nat) (stn : Nat) (s : State) : Host.Outcome State Fault Refusal :=
  onMem t s (fun t mem d => effJoin h serial stn t mem d)

/-- GRANT (R479): The device whose serial matches a GRANT switches to ACTIVE before cycle C_g. -/
def execGrant (t : Nat) (h : DispHdr) (serial : Nat) (stn : Nat) (sl : Slice) (cg : Nat) (capacity : Bool) (s : State) : Host.Outcome State Fault Refusal :=
  onMem t s (fun t mem d => effGrant h serial stn sl cg capacity t mem d)

/-- SLICE (R460): A SLICE dispatch sets a station's slice entry from a named cycle. -/
def execSlice (t : Nat) (h : DispHdr) (sl : Slice) (cycle : Nat) (s : State) : Host.Outcome State Fault Refusal :=
  onMem t s (fun t mem d => effSlice h sl cycle t mem d)

/-- NOTICE (R480): A NOTICE of a join or departure frees the contexts and closes the expert areas of that source. -/
def execNotice (t : Nat) (h : DispHdr) (addr : Nat) (joined : Bool) (s : State) : Host.Outcome State Fault Refusal :=
  onMem t s (fun t mem d => effNotice h addr joined t mem d)

/-- SERVICE_DIRECTORY (R493): A channel 8 dispatch with an empty payload returns the served channels and versions. -/
def execServiceDirectory (t : Nat) (h : DispHdr) (ws : List Nat) (served : List (Nat × Nat)) (s : State) : Host.Outcome State Fault Refusal :=
  onMem t s (fun t mem d => effServiceDirectory h ws served t mem d)

/-- ALMANAC_SERVICE (R474): A dispatch on channels 8 to 15 is queued for Almanac, or answered NO_SERVICE or BUSY. -/
def execAlmanacService (t : Nat) (h : DispHdr) (chan : Nat) (ws : List Nat) (s : State) : Host.Outcome State Fault Refusal :=
  onMem t s (fun t mem d => effAlmanacService h chan ws t mem d)

/-- ALMANAC_ANSWER (R493): Almanac answers a queued dispatch once, and the answer becomes its stored acknowledge. -/
def execAlmanacAnswer (t : Nat) (src : Nat) (chan : Nat) (result : Nat) (ws : List Nat) (s : State) : Host.Outcome State Fault Refusal :=
  onDev t s (fun t d => effAlmanacAnswer src chan result ws t d)

/-- DISPATCH_OTHER_CHANNEL (R468): A dispatch on an unlisted channel is answered CHANNEL. -/
def execDispatchOtherChannel (t : Nat) (h : DispHdr) (chan : Nat) (ws : List Nat) (s : State) : Host.Outcome State Fault Refusal :=
  onDev t s (fun t d => effOtherChannel h chan ws t d)

/-- DISPATCH_FORWARD (R476): A bridge routes a dispatch between segments with TTL decremented, or discards it at TTL 0.
-/
def execDispatchForward (t : Nat) (h : DispHdr) (ack : Bool) (chan : Nat) (result : Nat) (ws : List Nat) (full : Bool) (s : State) : Host.Outcome State Fault Refusal :=
  onDev t s (fun t d => effForward h ack chan result ws full t d)

/-- ACKNOWLEDGE (R472): An acknowledge ends the sender's outstanding dispatch with its result. -/
def execAcknowledge (t : Nat) (h : DispHdr) (chan : Nat) (result : Nat) (ws : List Nat) (s : State) : Host.Outcome State Fault Refusal :=
  onDev t s (fun t d => effAcknowledge h chan result ws t d)

/-- DISPATCH_RETRANSMIT (R472): With no acknowledge after RETX_T, the sender repeats the dispatch. -/
def execDispatchRetransmit (t : Nat) (dst : Nat) (chan : Nat) (s : State) : Host.Outcome State Fault Refusal :=
  onDev t s (fun t d => effRetransmit dst chan t d)

/-- DISPATCH_TIMEOUT (R472): After RETX_N repeats, the dispatch ends with TIMEOUT and 0x6D05 is raised. -/
def execDispatchTimeout (t : Nat) (dst : Nat) (chan : Nat) (s : State) : Host.Outcome State Fault Refusal :=
  onDev t s (fun t d => effDispTimeout dst chan t d)

/-- CONTEXT_EXPIRY (R471): A receiver context is freed CTX_HOLD after its last use. -/
def execContextExpiry (t : Nat) (src : Nat) (chan : Nat) (s : State) : Host.Outcome State Fault Refusal :=
  onDev t s (fun t d => effContextExpiry src chan t d)

/-- ANNOUNCE_DECISION (R465): Two cycles before ANN_TIME, the head sets CONFIRM if every station acknowledged, or clears
ANN and refuses the period. -/
def execAnnounceDecision (t : Nat) (s : State) : Host.Outcome State Fault Refusal :=
  onDev t s (fun t d => effAnnounceDecision t d)

/-- ANNOUNCED_PERIOD_APPLY (R465): At ANN_TIME the head and confirmed stations take the announced period into effect. -/
def execAnnouncedPeriodApply (t : Nat) (s : State) : Host.Outcome State Fault Refusal :=
  onDev t s (fun t d => effAnnouncedApply t d)

end Sys2Proof.Machine
end

