-- ==== Sys2Proof/Machine/CmdPersistence.lean ====
section
/-! DEFINITION. The meanings of the commands of the OTP memory and the parameter store. -/
namespace Sys2Proof.Machine

/-- PROGRAM (R516): The OTP PROGRAM command burns a staged region image and its CRC and verifies it. -/
def execProgram (t : Nat) (r : Req) (region : Fin 16) (s : State) : Host.Outcome State Fault Refusal :=
  onWrite r .otp 0x044 t s (fun t mem d => effProgram r region t mem d)

/-- REBURN (R516): The OTP REBURN command re-pulses weak rows and redirects those that stay weak. -/
def execReburn (t : Nat) (r : Req) (region : Fin 16) (s : State) : Host.Outcome State Fault Refusal :=
  onWrite r .otp 0x044 t s (fun t mem d => effReburn r region t mem d)

/-- LOCK (R516): The OTP LOCK command burns a valid region's lock row. -/
def execLock (t : Nat) (r : Req) (region : Fin 16) (s : State) : Host.Outcome State Fault Refusal :=
  onWrite r .otp 0x044 t s (fun t mem d => effLock r region t mem d)

/-- CHECK (R516): The OTP CHECK command reads every row three ways and raises 0x5F02 or 0x5F03. -/
def execCheck (t : Nat) (r : Req) (s : State) : Host.Outcome State Fault Refusal :=
  onWrite r .otp 0x044 t s (fun t mem d => effCheck r t mem d)

/-- OTP_RAW_GO (R518): A write of 1 to OTP_RAW_GO burns the raw data bits into one physical row unless it is locked. -/
def execOtpRawGo (t : Nat) (r : Req) (weak : List RowRead) (s : State) : Host.Outcome State Fault Refusal :=
  onWriteNv r .otp 0x424 t s (fun t _mem d => d.otpRaw r weak t)

/-- OTP_COMMAND_END (R516): An OTP command completes, sets its RESULT and the DONE event, and writes record 0x0130 when
fuses were burned. -/
def execOtpCommandEnd (t : Nat) (weak : List RowRead) (s : State) : Host.Outcome State Fault Refusal :=
  onDevNv t s (fun t d => effOtpEnd weak t d)

/-- STORE (R523): The STORE command builds a new parameter image from the image in force, the staged records and the
automatic records for the target half. -/
def execStore (t : Nat) (r : Req) (merge : Bool) (s : State) : Host.Outcome State Fault Refusal :=
  onWrite r .pst 0x054 t s (fun t mem d => effStore r merge t mem d)

/-- STORE_COPY_END (R525): The copy phase of a STORE ends, COPIED is set and the write phase begins. -/
def execStoreCopyEnd (t : Nat) (s : State) : Host.Outcome State Fault Refusal :=
  onReadNv t s (fun t mem d => effStoreCopied t mem d)

/-- STORE_VERIFY_END (R525): A STORE's read-back check ends APPLIED with record 0x0120, or VERIFY with 0x5F01. -/
def execStoreVerifyEnd (t : Nat) (good : Bool) (s : State) : Host.Outcome State Fault Refusal :=
  onDevNv t s (fun t d => effStoreVerified good t d)

/-- VOK_FALL (R522): VOK falls while a STORE runs, which is abandoned with VOLTAGE and 0x5F01. -/
def execVokFall (t : Nat) (s : State) : Host.Outcome State Fault Refusal :=
  onPin t s (fun t d => effVokFall t d)

end Sys2Proof.Machine
end

