-- ==== Sys2Proof/Machine/CmdPin.lean ====
section
/-! DEFINITION. The meanings of the commands of levels at the pins, register reads and the test access port. -/
namespace Sys2Proof.Machine

/-- SUPPLY_MONITOR_RELEASE (R567): Every logic supply has risen above its rising threshold, the supply monitor releases
the device, and a start-up with cause 1 follows. -/
def execSupplyMonitorRelease (s : State) : Host.Outcome State Fault Refusal :=
  .next { s with dev := effSupplyRelease s.mem s.dev }

/-- VGD_IN_RANGE (R97): The die comparator finds VGD back in range above 10.8 V, the hardware hold of the cluster's
bridges ends and the bootstrap precharge starts. -/
def execVgdInRange (t : Nat) (c : Fin 4) (s : State) : Host.Outcome State Fault Refusal :=
  onPin t s (fun t d => effVgdIn c t d)

/-- ENABLE_RISE (R100): DENc or DENX goes high, the DISABLED hold ends and the enable status and arming condition
follow. -/
def execEnableRise (t : Nat) (i : Fin 5) (s : State) : Host.Outcome State Fault Refusal :=
  onPin t s (fun t d => effEnableRise i t d)

/-- XFLT_DEASSERT (R99): Xn_FLT_N returns high, XST_STATUS.FLT clears and the arming condition of R101 can hold again.
-/
def execXfltDeassert (t : Nat) (j : Fin 8) (s : State) : Host.Outcome State Fault Refusal :=
  onPin t s (fun t d => effXfltDeassert (16 + j) t d)

/-- CLOCK_RETURN (R536): A region clock returns within ±2 % of nominal, the hold on the region's bridges ends and 0x3001
becomes clearable. -/
def execClockReturn (t : Nat) (g : Fin 2) (s : State) : Host.Outcome State Fault Refusal :=
  onPin t s (fun t d => effClockReturn g t d)

/-- VDDSM_FALL (R422): VDDSM falls below 1.55 V, the port stops serving and SMP_STATUS.ENABLED reads 0. -/
def execVddsmFall (t : Nat) (s : State) : Host.Outcome State Fault Refusal :=
  onPin t s (fun t d => effVddsm false t d)

/-- VDDSM_RISE (R422): VDDSM rises above 1.55 V and a port with EN set serves traffic again. -/
def execVddsmRise (t : Nat) (s : State) : Host.Outcome State Fault Refusal :=
  onPin t s (fun t d => effVddsm true t d)

/-- VOK_RISE (R522): VDDIO and VDDC return above the store thresholds and PST_STATUS.VOK becomes 1. -/
def execVokRise (t : Nat) (s : State) : Host.Outcome State Fault Refusal :=
  onPin t s (fun t d => effVokRise t d)

/-- REGISTER_READ (R12): Meridian or Almanac reads a page word, and a low-word read of a 64-bit register captures the
holding copy. -/
def execRegisterRead (t : Nat) (r : Req) (a : Nat) (bytes : Nat) (s : State) : Host.Outcome State Fault Refusal :=
  onDev t s (fun t d => effRegRead r a bytes t d)

/-- PENNANT_RETURN (R462): A returned cyclic pennant reaches the head, which measures Δ_0 and reads the status area for
ALIVE and TICK_ACK. -/
def execPennantReturn (t : Nat) (p : PennantIn) (s : State) : Host.Outcome State Fault Refusal :=
  onReadNv t s (fun t mem d => effPennantReturn p t mem d)

/-- RETICLE_PULSE_END (R343): An event-port pulse reaches its WIDTH and ends, and a pulse queued back-to-back begins
EVP_PULSE_GAP later. -/
def execReticlePulseEnd (t : Nat) (k : Fin 12) (s : State) : Host.Outcome State Fault Refusal :=
  onDev t s (fun t d => effPulseEnd k t d)

/-- TEST_ACCESS_PORT (R583): TCK, TMS or TRST_N advance the test access port controller, which loads an instruction or
resets to BYPASS and acts on the pins while RESET_N is low. -/
def execTestAccessPort (t : Nat) (i : TapInput) (s : State) : Host.Outcome State Fault Refusal :=
  onPin t s (fun t d => effTap i t d)

end Sys2Proof.Machine
end

