-- ==== Sys2Proof/Machine/CmdProgram.lean ====
section
/-! DEFINITION. The meanings of the commands of programs, parameter blocks and admission. -/
namespace Sys2Proof.Machine

/-- INSTALL_CUSTOM (R380): A PRG_INST_CMD with action 1 requests that a custom program be loaded, validated and judged
into a slot. -/
def execInstallCustom (t : Nat) (r : Req) (n : Fin 24) (k : Fin 4) (keep : Bool) (s : State) : Host.Outcome State Fault Refusal :=
  onWrite r (.prg n) 0x05C t s (fun t _mem d => effInstallCustom r n k keep t d)

/-- INSTALL_STOCK (R380): A PRG_INST_CMD with action 2 requests the installation of stock program STOCK_ID into a slot.
-/
def execInstallStock (t : Nat) (r : Req) (n : Fin 24) (k : Fin 4) (stock : Nat) (s : State) : Host.Outcome State Fault Refusal :=
  onWrite r (.prg n) 0x05C t s (fun t _mem d => effInstallStock r n k stock t d)

/-- REMOVE (R380): A PRG_INST_CMD with action 3 requests that a slot be emptied. -/
def execRemove (t : Nat) (r : Req) (n : Fin 24) (k : Fin 4) (s : State) : Host.Outcome State Fault Refusal :=
  onWrite r (.prg n) 0x05C t s (fun t _mem d => effRemove r n k t d)

/-- INSTALL_JUDGED (R381): The loader finishes the copy, validation and admission judgement of an install request, which
is accepted or refused. -/
def execInstallJudged (t : Nat) (n : Fin 24) (s : State) : Host.Outcome State Fault Refusal :=
  onRead t s (fun t mem d => effInstallJudged n t mem d)

/-- PRG_SWAP (R386): A write to PRG_SWAP requests a coefficient-bank swap of a custom slot at the next commit boundary.
-/
def execPrgSwap (t : Nat) (r : Req) (n : Fin 24) (mask : Nat) (s : State) : Host.Outcome State Fault Refusal :=
  onWrite r (.prg n) 0x064 t s (fun t _mem d => effPrgSwap r n mask t d)

/-- PB_WRITE (R385): A window write to a parameter block applies, or is refused with record 0x0030. -/
def execPbWrite (t : Nat) (r : Req) (n : Fin 24) (w : Fin 256) (v : Nat) (s : State) : Host.Outcome State Fault Refusal :=
  onWrite r (.prg n) (0x800 + 4 * w) t s (fun t _mem d => effPbWrite r n w v t d)

/-- ADMISSION_EVALUATION (R375): Within 2 µs of a change to an admission input, the admission unit completes its
evaluation of the lanes. -/
def execAdmissionEvaluation (t : Nat) (l : Fin 8) (s : State) : Host.Outcome State Fault Refusal :=
  onDev t s (fun t d => effAdmEval l t d)

/-- SCRUB_READ (R387): Every 100 ms each lane reads its program memory, rewriting and counting correctable errors. -/
def execScrubRead (t : Nat) (l : Fin 8) (a : Nat) (err : Option Bool) (s : State) : Host.Outcome State Fault Refusal :=
  onDev t s (fun t d => effScrub l a err t d)

/-- CLU_CLEAR (R390): A write of 1 to CLU CLEAR clears MAX_k and STALL_MAX. -/
def execCluClear (t : Nat) (r : Req) (c : Fin 6) (s : State) : Host.Outcome State Fault Refusal :=
  onWrite r (.clu c) 0x078 t s (fun t _mem d => effCluClear c t d)

/-- GLN_CLEAR (R391): A write of 1 to GLN CLEAR clears BUSY_MAX and STALL_MAX. -/
def execGlnClear (t : Nat) (r : Req) (g : Fin 2) (s : State) : Host.Outcome State Fault Refusal :=
  onWrite r (.gln g) 0x078 t s (fun t _mem d => effGlnClear g t d)

end Sys2Proof.Machine
end

