-- ==== Sys2Proof/Machine/CmdStart.lean ====
section
/-! DEFINITION. The meanings of the commands of the supply monitor, reset and the steps of start-up. -/
namespace Sys2Proof.Machine

/-- SUPPLY_MONITOR_ASSERT (R567): A logic supply falls below its falling threshold; the device is held in reset, bridges
turn off and gate outputs go low within 100 ns. -/
def execSupplyMonitorAssert (s : State) : Host.Outcome State Fault Refusal :=
  .next { s with dev := effSupplyAssert s.dev }

/-- RESET_N_FALL (R94): RESET_N goes low; every integrated bridge turns off and every external gate output goes low
within 100 ns, and the links pass symbols through the reset bypass. -/
def execResetNFall (s : State) : Host.Outcome State Fault Refusal :=
  .next { s with dev := effResetFall s.dev }

/-- RESET_N_RELEASE (R74): RESET_N release takes effect; TIME_NOW starts at 0, the first tick boundary falls, the links
relay and start-up step 1 begins with record 0x0600. -/
def execResetNRelease (s : State) : Host.Outcome State Fault Refusal :=
  .next { s with dev := effResetRelease s.mem s.dev }

/-- CLOCK_GOOD (R74): The reference qualifies as clock-good after 65,536 cycles within ±1 %, and a release of RESET_N
made earlier takes effect. -/
def execClockGood (s : State) : Host.Outcome State Fault Refusal :=
  .next { s with dev := effClockGood s.mem s.dev }

/-- OTP_LOAD (R513): Start-up step 1 ends: the redirection table is built, the rows are read three ways, the regions are
judged and loaded, and step 2 begins. -/
def execOtpLoad (t : Nat) (weak : List RowRead) (x : OtpNames) (s : State) : Host.Outcome State Fault Refusal :=
  onDev t s (fun t d => effOtpLoad weak x t d)

/-- PARAMETER_STORE_LOAD (R521): Start-up step 2 ends: the selected image is applied in one atomic step, a commit of the
pages with RWT records is requested, and the host port and feedback ports start. -/
def execParameterStoreLoad (t : Nat) (s : State) : Host.Outcome State Fault Refusal :=
  onRead t s (fun t mem d => effStoreLoad t mem d)

/-- SELF_CALIBRATION (R84): Start-up step 3 ends after the fine-delay lines, the converter slices and the sense offsets
have been calibrated. -/
def execSelfCalibration (t : Nat) (fine : Nat) (coefs : List (List Coef)) (offsets : List (List Int)) (s : State) : Host.Outcome State Fault Refusal :=
  onDev t s (fun t d => effSelfCalibration fine coefs offsets t d)

/-- BANK_INITIALISATION (R86): Start-up step 4 ends: the permanent remaps are applied, all banks are zeroed and set ON,
and reset ownership is set. -/
def execBankInitialisation (t : Nat) (fails : List (Nat × Nat)) (s : State) : Host.Outcome State Fault Refusal :=
  onMem t s (fun t mem d => effBankInit fails t mem d)

/-- MERIDIAN_CHECKS (R87): Start-up step 5 ends after the ROM CRC, the lane memory tests, the clock monitor comparison
and the test-DAC check, and step 6 follows. -/
def execMeridianChecks (t : Nat) (rom : Bool) (lanes : Nat) (clocks : Bool) (dac : List DacReading) (s : State) : Host.Outcome State Fault Refusal :=
  onDev t s (fun t d => effMeridianChecks rom lanes clocks dac t d)

/-- ALMANAC_IMAGE_VERIFIED (R496): Start-up step 7 ends with the boot slot, or the other slot, verified and started, or
with 0x5150 raised. -/
def execAlmanacImageVerified (t : Nat) (boot : SlotImage) (other : SlotImage) (s : State) : Host.Outcome State Fault Refusal :=
  onDev t s (fun t d => effImageVerified boot other t d)

end Sys2Proof.Machine
end

