-- ==== Sys2Proof/Machine/CmdSupervision.lean ====
section
/-! DEFINITION. The meanings of the commands of supervision, sensorless operation and curves. -/
namespace Sys2Proof.Machine

/-- TRACKING_ERROR (R206): FOC_ERR_N consecutive tracked error ticks raise 0x1501. -/
def execTrackingError (t : Nat) (n : Fin 24) (s : State) : Host.Outcome State Fault Refusal :=
  onDev t s (fun t d => effTracking n t d)

/-- FOLLOWING_ERROR (R285): SUP_FE_TIME consecutive exceeding evaluations of |e_p| raise 0x1801. -/
def execFollowingError (t : Nat) (n : Fin 24) (s : State) : Host.Outcome State Fault Refusal :=
  onDev t s (fun t d => effFollowing n t d)

/-- FEEDBACK_FREEZE (R286): SUP_FRZ_T consecutive freeze ticks on one port raise 0x1802 and start the response of R287.
-/
def execFeedbackFreeze (t : Nat) (n : Fin 24) (s : State) : Host.Outcome State Fault Refusal :=
  onDev t s (fun t d => effFreeze n t d)

/-- OBSERVER_FALLBACK (R288): At the boundary after a feedback-loss fault with ACT 2, the observer is synchronised and
takes over the angle, or a short-brake stop follows. -/
def execObserverFallback (t : Nat) (n : Fin 24) (s : State) : Host.Outcome State Fault Refusal :=
  onDev t s (fun t d => effFallback n t d)

/-- OVERSPEED (R290): |v_fb| above SUP_V_TRIP on two consecutive boundaries raises 0x1805. -/
def execOverspeed (t : Nat) (n : Fin 24) (s : State) : Host.Outcome State Fault Refusal :=
  onDev t s (fun t d => effOverspeed n t d)

/-- STOP_END (R297): v_ref is 0 and |v_f| ≤ SUP_STOP_VTOL on SUP_STOP_HOLD boundaries, so the stop ends in ARMED, frozen
RUN or FAULT. -/
def execStopEnd (t : Nat) (n : Fin 24) (s : State) : Host.Outcome State Fault Refusal :=
  onDev t s (fun t d => effStopEnd n t d)

/-- STOP_TIMEOUT (R295): A stop not ended within SUP_STOP_TMAX sends the axis to BRAKE with stop purpose and raises
0x1804. -/
def execStopTimeout (t : Nat) (n : Fin 24) (s : State) : Host.Outcome State Fault Refusal :=
  onDev t s (fun t d => effStopTimeout n t d)

/-- CATCH_MEASURE_END (R261): MEASURE ends with enough samples, the catch outcome is decided, record 0x0C00 is written
and the next state follows. -/
def execCatchMeasureEnd (t : Nat) (n : Fin 24) (s : State) : Host.Outcome State Fault Refusal :=
  onDev t s (fun t d => effCatchEnd n t d)

/-- ALIGN_END (R253): ALIGN has lasted OBS_ALIGN_T and the phase becomes RAMP, or FORCED with ANGLE_SRC 2. -/
def execAlignEnd (t : Nat) (n : Fin 24) (s : State) : Host.Outcome State Fault Refusal :=
  onDev t s (fun t d => effAlignEnd n t d)

/-- POLARITY_END (R258): The two polarity pulses complete, θ_h is set to the north pole or 0x1705 is raised, and HFI
begins. -/
def execPolarityEnd (t : Nat) (n : Fin 24) (s : State) : Host.Outcome State Fault Refusal :=
  onDev t s (fun t d => effPolarityEnd n t d)

/-- BLEND_START (R254): Eight consecutive agreeing ticks start BLEND. -/
def execBlendStart (t : Nat) (n : Fin 24) (s : State) : Host.Outcome State Fault Refusal :=
  onDev t s (fun t d => effBlendStart n t d)

/-- HAND_TIMEOUT (R254): BLEND has not started OBS_HAND_TMAX after the speed reached OBS_VMIN, or BLEND agreement fails
OBS_LOSS_N times, and 0x1703 is raised. -/
def execHandTimeout (t : Nat) (n : Fin 24) (s : State) : Host.Outcome State Fault Refusal :=
  onDev t s (fun t d => effHandTimeout n t d)

/-- BLEND_END (R255): The blend weight reaches 1 after OBS_HAND_T and the phase becomes TRACK. -/
def execBlendEnd (t : Nat) (n : Fin 24) (s : State) : Host.Outcome State Fault Refusal :=
  onDev t s (fun t d => effBlendEnd n t d)

/-- LOSS_OF_LOCK (R264): OBS_LOSS_N residuals above the limit turn the bridge off, write record 0x0D00, and lead to a
re-catch or to 0x1701. -/
def execLossOfLock (t : Nat) (n : Fin 24) (s : State) : Host.Outcome State Fault Refusal :=
  onDev t s (fun t d => effLoss n t d)

/-- RETRIES_CLEAR (R264): OBS_RETRY_CLR consecutive ticks in TRACK return RETRIES to 0. -/
def execRetriesClear (t : Nat) (n : Fin 24) (s : State) : Host.Outcome State Fault Refusal :=
  onDev t s (fun t d => effRetriesClear n t d)

/-- BRAKE_END (R267): Four brake-measured ticks below the purpose's threshold, or STILL of a sensored port, end the
brake with the next state of its purpose. -/
def execBrakeEnd (t : Nat) (n : Fin 24) (s : State) : Host.Outcome State Fault Refusal :=
  onDev t s (fun t d => effBrakeEnd n t d)

/-- STILL_BRAKE_END (R267): A brake with still purpose ends after OBS_STILL_BRK_T and the axis starts in ALIGN or
POLARITY. -/
def execStillBrakeEnd (t : Nat) (n : Fin 24) (s : State) : Host.Outcome State Fault Refusal :=
  onDev t s (fun t d => effStillBrakeEnd n t d)

/-- BRAKE_HOLD_END (R267): A stop-purpose brake ends OBS_BRAKE_HOLD after its count with the bridge in HIZ and the axis
ARMED or in FAULT. -/
def execBrakeHoldEnd (t : Nat) (n : Fin 24) (s : State) : Host.Outcome State Fault Refusal :=
  onDev t s (fun t d => effBrakeHoldEnd n t d)

/-- BRAKE_TIMEOUT (R269): A brake not ended after OBS_BRAKE_TMAX raises 0x1704. -/
def execBrakeTimeout (t : Nat) (n : Fin 24) (s : State) : Host.Outcome State Fault Refusal :=
  onDev t s (fun t d => effBrakeTimeout n t d)

/-- CURVE_STALE (R330): No new curve input value arrives for CRV_STALE_T boundaries, so the state becomes OFF and 0x1903
is raised. -/
def execCurveStale (t : Nat) (n : Fin 24) (s : State) : Host.Outcome State Fault Refusal :=
  onDev t s (fun t d => effCurveStale n t d)

/-- CRV_NET_VAL (R326): A write to CRV_NET_VAL delivers a new curve input value for SRC 1. -/
def execCrvNetVal (t : Nat) (r : Req) (n : Fin 24) (v : Nat) (s : State) : Host.Outcome State Fault Refusal :=
  onWrite r (.crv n) 0x064 t s (fun t _mem d => effCrvNet n v t d)

end Sys2Proof.Machine
end

