-- ==== Sys2Proof/Machine/CmdTick.lean ====
section
/-! DEFINITION. The meanings of the commands of ticks, time and register pages. -/
namespace Sys2Proof.Machine

/-- TICK_BOUNDARY (R29): A tick boundary falls: pending shadows and swaps apply, outer-loop outputs apply and the tick
snapshot is captured. -/
def execTickBoundary (oc : Nat) (s : State) : Host.Outcome State Fault Refusal :=
  onTick oc s

/-- HOLDOVER_ENTRY (R45): No time correction is received for HOLD_LIMIT ticks, so LOCKED becomes HOLDOVER and 0x6D04 is
raised. -/
def execHoldoverEntry (t : Nat) (s : State) : Host.Outcome State Fault Refusal :=
  onDev t s (fun t d => effHoldover t d)

/-- STEER_LIMIT (R52): In LOCKED, |TIME_ERR| has exceeded 10 ns for 16 consecutive ticks and the STEER_LIMIT sticky bit
is set. -/
def execSteerLimit (t : Nat) (s : State) : Host.Outcome State Fault Refusal :=
  onDev t s (fun t d => effSteerLimit t d)

/-- REGISTER_WRITE (R60): A requester writes a page word that has no row of its own; the write applies under the field
access codes, the expert lock and the issue order. -/
def execRegisterWrite (t : Nat) (r : Req) (a : Nat) (bytes : Nat) (v : Nat) (s : State) : Host.Outcome State Fault Refusal :=
  onReadNv t s (fun t mem d => effRegWrite r a bytes v t mem d)

/-- PAGE_COMMIT (R30): A write of 1 to PAGE_COMMIT requests a commit of the page's shadows at the first boundary at
least 100 ns later. -/
def execPageCommit (t : Nat) (r : Req) (page : Nat) (v : Nat) (s : State) : Host.Outcome State Fault Refusal :=
  onRead t s (fun t mem d => effPageWord r page 0x018 v t mem d)

/-- PAGE_EXPERT_KEY (R65): A write of 0xE5 opens the page's expert area for the writing requester, and any other value
closes it, with records 0x0300 or 0x0400. -/
def execPageExpertKey (t : Nat) (r : Req) (page : Nat) (v : Nat) (s : State) : Host.Outcome State Fault Refusal :=
  onRead t s (fun t mem d => effPageWord r page 0x01C v t mem d)

/-- EXPERT_AREA_TIMEOUT (R65): 65,536 ticks without an expert write by a requester to a page close that requester's
expert area with record 0x0400. -/
def execExpertAreaTimeout (t : Nat) (r : Req) (page : Nat) (s : State) : Host.Outcome State Fault Refusal :=
  onDev t s (fun t d => effExpertEnd r page t d)

/-- DEV_COMMIT_HOLD (R69): A write of HOLD holds every commit and swap request, and its return to 0 lets all held
requests take effect together at the next boundary. -/
def execDevCommitHold (t : Nat) (r : Req) (hold : Bool) (s : State) : Host.Outcome State Fault Refusal :=
  onWrite r .dev 0x060 t s (fun t _mem d => effHold hold t d)

/-- TICK_SLEW (R52): A write to TICK_SLEW sets the greatest tick lengthening, or is ignored and sets TICK_REFUSED when
it is 0 or above 200. -/
def execTickSlew (t : Nat) (r : Req) (v : Nat) (s : State) : Host.Outcome State Fault Refusal :=
  onWrite r .time 0x078 t s (fun t _mem d => effTickSlew v t d)

end Sys2Proof.Machine
end

