-- ==== Sys2Proof/Machine/Dispatch.lean ====
section
/-! DEFINITION. The dispatch: one arm per command. -/
namespace Sys2Proof.Machine

def exec (i : Instr) (s : State) : Host.Outcome State Fault Refusal :=
  match i with
  | .supplyMonitorAssert => Sys2Proof.Machine.execSupplyMonitorAssert s
  | .resetNFall => Sys2Proof.Machine.execResetNFall s
  | .resetNRelease => Sys2Proof.Machine.execResetNRelease s
  | .clockGood => Sys2Proof.Machine.execClockGood s
  | .otpLoad t weak x => Sys2Proof.Machine.execOtpLoad t weak x s
  | .parameterStoreLoad t => Sys2Proof.Machine.execParameterStoreLoad t s
  | .selfCalibration t fine coefs offsets => Sys2Proof.Machine.execSelfCalibration t fine coefs offsets s
  | .bankInitialisation t fails => Sys2Proof.Machine.execBankInitialisation t fails s
  | .meridianChecks t rom lanes clocks dac => Sys2Proof.Machine.execMeridianChecks t rom lanes clocks dac s
  | .almanacImageVerified t boot other => Sys2Proof.Machine.execAlmanacImageVerified t boot other s
  | .tickBoundary oc => Sys2Proof.Machine.execTickBoundary oc s
  | .holdoverEntry t => Sys2Proof.Machine.execHoldoverEntry t s
  | .steerLimit t => Sys2Proof.Machine.execSteerLimit t s
  | .registerWrite t r a bytes v => Sys2Proof.Machine.execRegisterWrite t r a bytes v s
  | .pageCommit t r page v => Sys2Proof.Machine.execPageCommit t r page v s
  | .pageExpertKey t r page v => Sys2Proof.Machine.execPageExpertKey t r page v s
  | .expertAreaTimeout t r page => Sys2Proof.Machine.execExpertAreaTimeout t r page s
  | .devCommitHold t r hold => Sys2Proof.Machine.execDevCommitHold t r hold s
  | .tickSlew t r v => Sys2Proof.Machine.execTickSlew t r v s
  | .arm t r n => Sys2Proof.Machine.execArm t r n s
  | .disarm t r n => Sys2Proof.Machine.execDisarm t r n s
  | .start t r n => Sys2Proof.Machine.execStart t r n s
  | .stop t r n => Sys2Proof.Machine.execStop t r n s
  | .stopHold t r n => Sys2Proof.Machine.execStopHold t r n s
  | .brake t r n => Sys2Proof.Machine.execBrake t r n s
  | .coast t r n => Sys2Proof.Machine.execCoast t r n s
  | .service t r n => Sys2Proof.Machine.execService t r n s
  | .returnAxis t r n => Sys2Proof.Machine.execReturnAxis t r n s
  | .brakeStartAtValley t n => Sys2Proof.Machine.execBrakeStartAtValley t n s
  | .moveAbs t r n => Sys2Proof.Machine.execMoveAbs t r n s
  | .moveRel t r n => Sys2Proof.Machine.execMoveRel t r n s
  | .halt t r n => Sys2Proof.Machine.execHalt t r n s
  | .ephStart t r n => Sys2Proof.Machine.execEphStart t r n s
  | .ephContinue t r n => Sys2Proof.Machine.execEphContinue t r n s
  | .ephResume t r n => Sys2Proof.Machine.execEphResume t r n s
  | .ephAbort t r n => Sys2Proof.Machine.execEphAbort t r n s
  | .focIntReset t r n => Sys2Proof.Machine.execFocIntReset t r n s
  | .motIntReset t r n => Sys2Proof.Machine.execMotIntReset t r n s
  | .excitationStart t r n v => Sys2Proof.Machine.execExcitationStart t r n v s
  | .excitationEnd t n written => Sys2Proof.Machine.execExcitationEnd t n written s
  | .setPos t r p => Sys2Proof.Machine.execSetPos t r p s
  | .referenceSetArm t r p => Sys2Proof.Machine.execReferenceSetArm t r p s
  | .fbEdge t p fine lines => Sys2Proof.Machine.execFbEdge t p fine lines s
  | .illegalLimit t p => Sys2Proof.Machine.execIllegalLimit t p s
  | .refMismatchLimit t p => Sys2Proof.Machine.execRefMismatchLimit t p s
  | .wireDisagreement t p pairs => Sys2Proof.Machine.execWireDisagreement t p pairs s
  | .hallInvalid t p => Sys2Proof.Machine.execHallInvalid t p s
  | .sserFrameStart t p => Sys2Proof.Machine.execSserFrameStart t p s
  | .sserFrameEnd t p frame => Sys2Proof.Machine.execSserFrameEnd t p frame s
  | .sserErrLimit t p => Sys2Proof.Machine.execSserErrLimit t p s
  | .estimatorStill t p => Sys2Proof.Machine.execEstimatorStill t p s
  | .latchCapture t p fine falling => Sys2Proof.Machine.execLatchCapture t p fine falling s
  | .dutyLoad t n => Sys2Proof.Machine.execDutyLoad t n s
  | .currentWindowEnd t n codes => Sys2Proof.Machine.execCurrentWindowEnd t n codes s
  | .staleLimit t n => Sys2Proof.Machine.execStaleLimit t n s
  | .sumErrorLimit t n => Sys2Proof.Machine.execSumErrorLimit t n s
  | .offsetMeasurementStart t n => Sys2Proof.Machine.execOffsetMeasurementStart t n s
  | .offsetMeasurementEnd t n => Sys2Proof.Machine.execOffsetMeasurementEnd t n s
  | .overcurrentTrip t n phases link since => Sys2Proof.Machine.execOvercurrentTrip t n phases link since s
  | .xfltAssert t j => Sys2Proof.Machine.execXfltAssert t j s
  | .brakeRegulation t n p => Sys2Proof.Machine.execBrakeRegulation t n p s
  | .brakeReclose t n crossing => Sys2Proof.Machine.execBrakeReclose t n crossing s
  | .bootstrapLow t n leg => Sys2Proof.Machine.execBootstrapLow t n leg s
  | .bootstrapPrecharged t c => Sys2Proof.Machine.execBootstrapPrecharged t c s
  | .enableFall t k => Sys2Proof.Machine.execEnableFall t k s
  | .vgdOutOfRange t c => Sys2Proof.Machine.execVgdOutOfRange t c s
  | .busOutOfRange t u => Sys2Proof.Machine.execBusOutOfRange t u s
  | .dieOverTemperature t c => Sys2Proof.Machine.execDieOverTemperature t c s
  | .vbusStaleLimit t n => Sys2Proof.Machine.execVbusStaleLimit t n s
  | .injGo t r c mask => Sys2Proof.Machine.execInjGo t r c mask s
  | .injectionComplete t c k code => Sys2Proof.Machine.execInjectionComplete t c k code s
  | .seqGo t r c => Sys2Proof.Machine.execSeqGo t r c s
  | .sequencePassEnd t c codes => Sys2Proof.Machine.execSequencePassEnd t c codes s
  | .supervisionScan t c => Sys2Proof.Machine.execSupervisionScan t c s
  | .supervisionScanEnd t c codes temps => Sys2Proof.Machine.execSupervisionScanEnd t c codes temps s
  | .supervisionScanLate t c => Sys2Proof.Machine.execSupervisionScanLate t c s
  | .crossCheckEvaluate t p codesE codesO => Sys2Proof.Machine.execCrossCheckEvaluate t p codesE codesO s
  | .xckClear t r p => Sys2Proof.Machine.execXckClear t r p s
  | .fgcal t r c => Sys2Proof.Machine.execFgcal t r c s
  | .fgcalEnd t c ks => Sys2Proof.Machine.execFgcalEnd t c ks s
  | .backgroundCalibrationEnd t c k => Sys2Proof.Machine.execBackgroundCalibrationEnd t c k s
  | .sliceRetry t c k x => Sys2Proof.Machine.execSliceRetry t c k x s
  | .restoreEnd t c ks => Sys2Proof.Machine.execRestoreEnd t c ks s
  | .curProgramStart t c errs => Sys2Proof.Machine.execCurProgramStart t c errs s
  | .globalLaneStart t g errs => Sys2Proof.Machine.execGlobalLaneStart t g errs s
  | .programEnd t l stalls => Sys2Proof.Machine.execProgramEnd t l stalls s
  | .curDeadline t n => Sys2Proof.Machine.execCurDeadline t n s
  | .globalLaneDeadline t g => Sys2Proof.Machine.execGlobalLaneDeadline t g s
  | .overrunLimit t n k => Sys2Proof.Machine.execOverrunLimit t n k s
  | .trackingError t n => Sys2Proof.Machine.execTrackingError t n s
  | .followingError t n => Sys2Proof.Machine.execFollowingError t n s
  | .feedbackFreeze t n => Sys2Proof.Machine.execFeedbackFreeze t n s
  | .observerFallback t n => Sys2Proof.Machine.execObserverFallback t n s
  | .overspeed t n => Sys2Proof.Machine.execOverspeed t n s
  | .stopEnd t n => Sys2Proof.Machine.execStopEnd t n s
  | .stopTimeout t n => Sys2Proof.Machine.execStopTimeout t n s
  | .catchMeasureEnd t n => Sys2Proof.Machine.execCatchMeasureEnd t n s
  | .alignEnd t n => Sys2Proof.Machine.execAlignEnd t n s
  | .polarityEnd t n => Sys2Proof.Machine.execPolarityEnd t n s
  | .blendStart t n => Sys2Proof.Machine.execBlendStart t n s
  | .handTimeout t n => Sys2Proof.Machine.execHandTimeout t n s
  | .blendEnd t n => Sys2Proof.Machine.execBlendEnd t n s
  | .lossOfLock t n => Sys2Proof.Machine.execLossOfLock t n s
  | .retriesClear t n => Sys2Proof.Machine.execRetriesClear t n s
  | .brakeEnd t n => Sys2Proof.Machine.execBrakeEnd t n s
  | .stillBrakeEnd t n => Sys2Proof.Machine.execStillBrakeEnd t n s
  | .brakeHoldEnd t n => Sys2Proof.Machine.execBrakeHoldEnd t n s
  | .brakeTimeout t n => Sys2Proof.Machine.execBrakeTimeout t n s
  | .curveStale t n => Sys2Proof.Machine.execCurveStale t n s
  | .crvNetVal t r n v => Sys2Proof.Machine.execCrvNetVal t r n v s
  | .retStart t r k => Sys2Proof.Machine.execRetStart t r k s
  | .retAbort t r k => Sys2Proof.Machine.execRetAbort t r k s
  | .reticlePredictedFire t k => Sys2Proof.Machine.execReticlePredictedFire t k s
  | .netSample t r k ts => Sys2Proof.Machine.execNetSample t r k ts s
  | .netSourceStale t k => Sys2Proof.Machine.execNetSourceStale t k s
  | .emuEdge t k => Sys2Proof.Machine.execEmuEdge t k s
  | .latchInputEdge t k fine rising => Sys2Proof.Machine.execLatchInputEdge t k fine rising s
  | .pwidthEdge t k fine rising => Sys2Proof.Machine.execPwidthEdge t k fine rising s
  | .gpioEdge t k rising => Sys2Proof.Machine.execGpioEdge t k rising s
  | .gpioSet t r mask => Sys2Proof.Machine.execGpioSet t r mask s
  | .gpioClr t r mask => Sys2Proof.Machine.execGpioClr t r mask s
  | .installCustom t r n k keep => Sys2Proof.Machine.execInstallCustom t r n k keep s
  | .installStock t r n k stock => Sys2Proof.Machine.execInstallStock t r n k stock s
  | .remove t r n k => Sys2Proof.Machine.execRemove t r n k s
  | .installJudged t n => Sys2Proof.Machine.execInstallJudged t n s
  | .prgSwap t r n mask => Sys2Proof.Machine.execPrgSwap t r n mask s
  | .pbWrite t r n w v => Sys2Proof.Machine.execPbWrite t r n w v s
  | .admissionEvaluation t l => Sys2Proof.Machine.execAdmissionEvaluation t l s
  | .scrubRead t l a err => Sys2Proof.Machine.execScrubRead t l a err s
  | .cluClear t r c => Sys2Proof.Machine.execCluClear t r c s
  | .glnClear t r g => Sys2Proof.Machine.execGlnClear t r g s
  | .bankAccess t accs => Sys2Proof.Machine.execBankAccess t accs s
  | .bnkHandover t r force b owner readers => Sys2Proof.Machine.execBnkHandover t r force b owner readers s
  | .handoverApply t b => Sys2Proof.Machine.execHandoverApply t b s
  | .bnkHoTimeout t b => Sys2Proof.Machine.execBnkHoTimeout t b s
  | .bnkPwr t r b v => Sys2Proof.Machine.execBnkPwr t r b v s
  | .bankPowerDone t b => Sys2Proof.Machine.execBankPowerDone t b s
  | .sweepBlock t g failed late => Sys2Proof.Machine.execSweepBlock t g failed late s
  | .smpSwGo t r q => Sys2Proof.Machine.execSmpSwGo t r q s
  | .swTransferEnd t q rx => Sys2Proof.Machine.execSwTransferEnd t q rx s
  | .watchRelease t q bits rx => Sys2Proof.Machine.execWatchRelease t q bits rx s
  | .windowLineFetch t a k dqs line code => Sys2Proof.Machine.execWindowLineFetch t a k dqs line code s
  | .streamOpen t r => Sys2Proof.Machine.execStreamOpen t r s
  | .streamClose t r => Sys2Proof.Machine.execStreamClose t r s
  | .streamRetry t r => Sys2Proof.Machine.execStreamRetry t r s
  | .pagerPageRead t k dqs ws => Sys2Proof.Machine.execPagerPageRead t k dqs ws s
  | .ringWrite t r v => Sys2Proof.Machine.execRingWrite t r v s
  | .exportFlush t k => Sys2Proof.Machine.execExportFlush t k s
  | .exportWrite t k => Sys2Proof.Machine.execExportWrite t k s
  | .linkTrain t m => Sys2Proof.Machine.execLinkTrain t m s
  | .linkUp t m standby => Sys2Proof.Machine.execLinkUp t m standby s
  | .linkDown t m errs => Sys2Proof.Machine.execLinkDown t m errs s
  | .pennantSend t => Sys2Proof.Machine.execPennantSend t s
  | .pennant t p => Sys2Proof.Machine.execPennant t p s
  | .pennantMiss t => Sys2Proof.Machine.execPennantMiss t s
  | .stationRejoin t => Sys2Proof.Machine.execStationRejoin t s
  | .enumerate t r => Sys2Proof.Machine.execEnumerate t r s
  | .enumerationPennant t p k => Sys2Proof.Machine.execEnumerationPennant t p k s
  | .unfold t r => Sys2Proof.Machine.execUnfold t r s
  | .leave t r => Sys2Proof.Machine.execLeave t r s
  | .ringFold t => Sys2Proof.Machine.execRingFold t s
  | .ringUnfold t => Sys2Proof.Machine.execRingUnfold t s
  | .stationLeft t stn => Sys2Proof.Machine.execStationLeft t stn s
  | .joinStart t => Sys2Proof.Machine.execJoinStart t s
  | .joinTimeout t => Sys2Proof.Machine.execJoinTimeout t s
  | .registerAccessRead t h ws => Sys2Proof.Machine.execRegisterAccessRead t h ws s
  | .registerAccessWrite t h ws => Sys2Proof.Machine.execRegisterAccessWrite t h ws s
  | .parameterStoreDispatch t h ws => Sys2Proof.Machine.execParameterStoreDispatch t h ws s
  | .axisCommandQueue t h ws => Sys2Proof.Machine.execAxisCommandQueue t h ws s
  | .timedDispatchApply t => Sys2Proof.Machine.execTimedDispatchApply t s
  | .chronographFetch t h ws => Sys2Proof.Machine.execChronographFetch t h ws s
  | .join t h serial stn => Sys2Proof.Machine.execJoin t h serial stn s
  | .grant t h serial stn sl cg capacity => Sys2Proof.Machine.execGrant t h serial stn sl cg capacity s
  | .slice t h sl cycle => Sys2Proof.Machine.execSlice t h sl cycle s
  | .notice t h addr joined => Sys2Proof.Machine.execNotice t h addr joined s
  | .serviceDirectory t h ws served => Sys2Proof.Machine.execServiceDirectory t h ws served s
  | .almanacService t h chan ws => Sys2Proof.Machine.execAlmanacService t h chan ws s
  | .almanacAnswer t src chan result ws => Sys2Proof.Machine.execAlmanacAnswer t src chan result ws s
  | .dispatchOtherChannel t h chan ws => Sys2Proof.Machine.execDispatchOtherChannel t h chan ws s
  | .dispatchForward t h ack chan result ws full => Sys2Proof.Machine.execDispatchForward t h ack chan result ws full s
  | .acknowledge t h chan result ws => Sys2Proof.Machine.execAcknowledge t h chan result ws s
  | .dispatchRetransmit t dst chan => Sys2Proof.Machine.execDispatchRetransmit t dst chan s
  | .dispatchTimeout t dst chan => Sys2Proof.Machine.execDispatchTimeout t dst chan s
  | .contextExpiry t src chan => Sys2Proof.Machine.execContextExpiry t src chan s
  | .announceDecision t => Sys2Proof.Machine.execAnnounceDecision t s
  | .announcedPeriodApply t => Sys2Proof.Machine.execAnnouncedPeriodApply t s
  | .faultClear t r entry inst => Sys2Proof.Machine.execFaultClear t r entry inst s
  | .clearAll t r => Sys2Proof.Machine.execClearAll t r s
  | .conditionEnd t entry inst => Sys2Proof.Machine.execConditionEnd t entry inst s
  | .reactionTableWrite t r e v => Sys2Proof.Machine.execReactionTableWrite t r e v s
  | .chronWrite t => Sys2Proof.Machine.execChronWrite t s
  | .almanacRecord t r v => Sys2Proof.Machine.execAlmanacRecord t r v s
  | .packageTempRead t v => Sys2Proof.Machine.execPackageTempRead t v s
  | .clockDeparture t g ppm => Sys2Proof.Machine.execClockDeparture t g ppm s
  | .recheck t r v => Sys2Proof.Machine.execRecheck t r v s
  | .recheckEnd t c fineFail laneFail dacFail => Sys2Proof.Machine.execRecheckEnd t c fineFail laneFail dacFail s
  | .almVerify t r v => Sys2Proof.Machine.execAlmVerify t r v s
  | .almSwitch t r v => Sys2Proof.Machine.execAlmSwitch t r v s
  | .almRestart t r => Sys2Proof.Machine.execAlmRestart t r s
  | .almStop t r => Sys2Proof.Machine.execAlmStop t r s
  | .almStart t r => Sys2Proof.Machine.execAlmStart t r s
  | .almanacVerifyEnd t img => Sys2Proof.Machine.execAlmanacVerifyEnd t img s
  | .almHeartbeat t r v => Sys2Proof.Machine.execAlmHeartbeat t r v s
  | .almQuiet t r v => Sys2Proof.Machine.execAlmQuiet t r v s
  | .almQuietTimeout t => Sys2Proof.Machine.execAlmQuietTimeout t s
  | .almWatchdog t => Sys2Proof.Machine.execAlmWatchdog t s
  | .almCoreException t => Sys2Proof.Machine.execAlmCoreException t s
  | .status t bits => Sys2Proof.Machine.execStatus t bits s
  | .pageWrite t ab a us part => Sys2Proof.Machine.execPageWrite t ab a us part s
  | .pageRead t ab a clocks late => Sys2Proof.Machine.execPageRead t ab a clocks late s
  | .bankWrite32 t ab a us part => Sys2Proof.Machine.execBankWrite32 t ab a us part s
  | .bankWrite16 t ab a us part => Sys2Proof.Machine.execBankWrite16 t ab a us part s
  | .bankWrite8 t ab a us part => Sys2Proof.Machine.execBankWrite8 t ab a us part s
  | .bankRead32 t ab a clocks late => Sys2Proof.Machine.execBankRead32 t ab a clocks late s
  | .extRead t ab a clocks late lines => Sys2Proof.Machine.execExtRead t ab a clocks late lines s
  | .hostOpcodeUnknown t opcode => Sys2Proof.Machine.execHostOpcodeUnknown t opcode s
  | .program t r region => Sys2Proof.Machine.execProgram t r region s
  | .reburn t r region => Sys2Proof.Machine.execReburn t r region s
  | .lock t r region => Sys2Proof.Machine.execLock t r region s
  | .check t r => Sys2Proof.Machine.execCheck t r s
  | .otpRawGo t r weak => Sys2Proof.Machine.execOtpRawGo t r weak s
  | .otpCommandEnd t weak => Sys2Proof.Machine.execOtpCommandEnd t weak s
  | .store t r merge => Sys2Proof.Machine.execStore t r merge s
  | .storeCopyEnd t => Sys2Proof.Machine.execStoreCopyEnd t s
  | .storeVerifyEnd t good => Sys2Proof.Machine.execStoreVerifyEnd t good s
  | .vokFall t => Sys2Proof.Machine.execVokFall t s
  | .supplyMonitorRelease => Sys2Proof.Machine.execSupplyMonitorRelease s
  | .vgdInRange t c => Sys2Proof.Machine.execVgdInRange t c s
  | .enableRise t k => Sys2Proof.Machine.execEnableRise t k s
  | .xfltDeassert t j => Sys2Proof.Machine.execXfltDeassert t j s
  | .clockReturn t g => Sys2Proof.Machine.execClockReturn t g s
  | .vddsmFall t => Sys2Proof.Machine.execVddsmFall t s
  | .vddsmRise t => Sys2Proof.Machine.execVddsmRise t s
  | .vokRise t => Sys2Proof.Machine.execVokRise t s
  | .registerRead t r a bytes => Sys2Proof.Machine.execRegisterRead t r a bytes s
  | .pennantReturn t p => Sys2Proof.Machine.execPennantReturn t p s
  | .reticlePulseEnd t k => Sys2Proof.Machine.execReticlePulseEnd t k s
  | .testAccessPort t k => Sys2Proof.Machine.execTestAccessPort t k s

end Sys2Proof.Machine
end

