-- ==== Sys2Proof/Safety.lean ====
section
/-! DEFINITION. What counts as a safe run, in the terms the statements use: when a command is carried out, what it leaves
alone, which commands reach which part of the state, and the invariant of the state. -/
namespace Sys2Proof.Machine

/-! ### When a command is carried out -/

/-- The block runs, and its device time has room for an event reported for time t (R42, R74). -/
def State.ready (s : State) (t : Nat) : Prop := s.dev.running = true ∧ max s.dev.now t < 2 ^ 64

/-- The device time at which an event reported for time t happens (R42, log entry 25). -/
def State.when_ (s : State) (t : Nat) : Nat := max s.dev.now t

/-- The state in which only device time has moved on, and the last answer is gone: a command that changes nothing. -/
def State.passed (s : State) (t : Nat) : State := { s with dev := s.dev.at_ t }

/-! ### What a command leaves alone -/

/-- Device time is that of the event, the block runs on, and the pins, the fuses and the store, the test access port and
the queue are those of before. -/
def State.keeps (s s' : State) (t : Nat) : Prop :=
  s'.dev.now = s.when_ t ∧ s'.dev.running = true ∧ s'.dev.pins = s.dev.pins ∧ s'.dev.nv = s.dev.nv ∧ s'.dev.tap = s.dev.tap ∧
  s'.pending = s.pending

/-- Every register field reads as before, but for those listed. -/
def Dev.keepsRegs (d d' : Dev) (fs : List Fld) : Prop := ∀ f, f ∉ fs → d'.rd f = d.rd f

/-- The fields of the chronograph page that the delivery of an entry may change (R551). -/
def chronFlds : List Fld := [chronQueueMax, chronLost, pageEvent .chron, pageSticky .chron]

/-- The units of the axes other than n are those of before. -/
def Dev.otherAxes (d d' : Dev) (n : Nat) : Prop := ∀ k, k ≠ n → d'.ax k = d.ax k

/-- The pages that raising a fault, a reaction and the records of both may write (R23, R538, R563). -/
def Page.faultSide : Page → Bool
  | .dev | .chron | .flt => true
  | .axb _ | .drv _ | .obs _ | .mot _ | .prf _ => true
  | _ => false

/-- A requester's write of a word of a basic area is carried out: the requester reaches pages, and no write of the same word
that applies later was made in the same system cycle (R60, R77). -/
def State.opens (s : State) (r : Req) (p : Page) (off t : Nat) : Prop :=
  s.dev.reaches r = true ∧ s.dev.overruled r p off (s.when_ t) = false

/-- The block as a requester's write leaves it before the write has its effect: its held high word is gone, the word is noted
for its system cycle, and the access is answered with OK (R13, R58, R60). -/
def State.taken (s : State) (r : Req) (p : Page) (off t : Nat) : Dev :=
  (((s.dev.at_ t).dropHigh r).noteWrite r p off (s.when_ t)).answered 0 []

/-- Nothing but register fields differs, and every field outside the list reads as before. -/
def Dev.onlyRegs (d d' : Dev) (fs : List Fld) : Prop := d' = { d with regs := d'.regs } ∧ d.keepsRegs d' fs

/-- Nothing but the unit of axis n and register fields of the list differs. -/
def Dev.onlyAxis (d d' : Dev) (n : Nat) (fs : List Fld) : Prop :=
  d' = { d with regs := d'.regs, axes := d'.axes } ∧ d.keepsRegs d' fs ∧ d.otherAxes d' n

/-- Nothing but register fields of the list, and of the chronograph page, and the entries that wait for the chronograph differ:
the command writes a record. -/
def Dev.onlyNoted (d d' : Dev) (fs : List Fld) : Prop :=
  d' = { d with regs := d'.regs, queue := d'.queue, lostPend := d'.lostPend, startBuf := d'.startBuf, bufOver := d'.bufOver } ∧
  d.keepsRegs d' (fs ++ chronFlds)

/-- As `onlyNoted`, and the unit of axis n. -/
def Dev.onlyAxisNoted (d d' : Dev) (n : Nat) (fs : List Fld) : Prop :=
  d' = { d with regs := d'.regs, axes := d'.axes, queue := d'.queue, lostPend := d'.lostPend, startBuf := d'.startBuf,
                bufOver := d'.bufOver } ∧ d.keepsRegs d' (fs ++ chronFlds) ∧ d.otherAxes d' n

/-- Nothing but what raising a fault may change (R538), and register fields of the list, differs. -/
def Dev.onlyFault (d d' : Dev) (fs : List Fld) : Prop :=
  d' = { d with regs := d'.regs, axes := d'.axes, profs := d'.profs, queue := d'.queue, lostPend := d'.lostPend,
                startBuf := d'.startBuf, bufOver := d'.bufOver, active := d'.active, deferred := d'.deferred,
                evtTick := d'.evtTick } ∧
  ∀ f, f ∉ fs → f.pg.faultSide = false → d'.rd f = d.rd f

/-- No axis and no event port consumes a stream (R434). -/
def Dev.noConsumer (d : Dev) : Prop := (∀ n, (d.prof n).stream = none) ∧ ∀ j, (d.evp j).stream = none

/-- The command answers a next state at its time: memory and queue are those of before, and the block satisfies P. -/
def State.gives (s : State) (i : Instr) (P : Dev → Prop) : Prop := ∃ d', exec i s = .next { s with dev := d' } ∧ P d'

/-- As `gives`, for a command that may store to the banks: P speaks of the block and of the memory after it. -/
def State.givesMem (s : State) (i : Instr) (P : Dev → Mem → Prop) : Prop :=
  ∃ d' m', exec i s = .next { s with dev := d', mem := m' } ∧ P d' m'

/-- Every byte outside the n bytes at address a reads as before. -/
def keepsBytes (m m' : Mem) (a n : Nat) : Prop := ∀ k, k < a ∨ a + n ≤ k → m'.read k = m.read k

/-- The byte address at which the log of converter bank c stores its next record (R153). -/
def Dev.logSlot (d : Dev) (c : Nat) : Nat := 8 * d.rd (adcLogBase c) + 8 * (d.rd (adcLogWr c) % max (d.rd (adcLogSize c)) 1)

/-- The register fields in which the log of converter bank c, the banks and the chronograph note a store (R153, R394, R551). -/
def Page.logSide (c : Nat) (p : Page) : Bool := p == .adc c || p.faultSide || p == .bnk

/-- The state after a command of the network that changes nothing: device time has moved on, and the frames sent before are no
longer listed. -/
def State.heard (s : State) (t : Nat) : State := { s with dev := { s.dev.at_ t with net := { s.dev.net with tx := [] } } }

/-- The counts that every frame of a dispatch may change: received, sent, discarded (R467, R483). -/
def frameFlds : List Fld := netDispTtl :: (List.range 4).flatMap (fun m => [lnkDispRx m, lnkDispTx m])

/-- A dispatch on a channel with its payload is good, on its first pass, addressed to the device alone, and opens a context of
its own: the device executes it (R451, R467, R471). -/
def Dev.accepts (d : Dev) (h : DispHdr) (chan : Nat) (ws : List Nat) : Prop :=
  h.q false chan 0 ws = 0 ∧ d.comesBack h false chan = false ∧ h.bcast = false ∧ h.sync = true ∧ d.addressed h.link.val h.dst = true ∧ d.executes h.link.val = true ∧
  d.ctx h.key chan = none ∧ d.ctxUsed < 256

/-- The block as it executes a dispatch that it accepts at time t: the frame has gone on along the line, both counts are up, and
the context is open (R467, R471, R483). -/
def Dev.executing (d : Dev) (h : DispHdr) (chan : Nat) (ws : List Nat) (t : Nat) : Dev :=
  (((d.arrive h false chan 0 ws false).2.dropExpired t).inw netDispExec).setCtx { src := h.key, chan := chan, seq := h.seq, ack := none, used := t }

end Sys2Proof.Machine

/-! ### Which commands reach which part of the state -/
namespace Sys2Proof

/-- The commands of the supplies and the reset (R73, R74, R94). -/
def Instr.resets : Instr → Bool
  | .supplyMonitorAssert | .supplyMonitorRelease | .resetNFall | .resetNRelease | .clockGood => true
  | _ => false

/-- The commands of the pins: a level changes, or a comparator reports one. -/
def Instr.movesPins : Instr → Bool
  | .overcurrentTrip .. | .xfltAssert .. | .xfltDeassert .. | .enableFall .. | .enableRise .. | .vgdOutOfRange .. | .vgdInRange ..
  | .clockDeparture .. | .clockReturn .. | .fbEdge .. | .latchInputEdge .. | .pwidthEdge .. | .gpioEdge .. | .vokFall .. | .vokRise ..
  | .vddsmFall .. | .vddsmRise .. | .testAccessPort .. | .tickBoundary .. => true
  | _ => false

/-- The commands that may reach the persistence engine: those that complete its operations, the raw burn, and every path
of a register write that can write OTP_RAW_GO (R515, R518, R526). -/
def Instr.reachesStore : Instr → Bool
  | .otpCommandEnd .. | .otpRawGo .. | .storeCopyEnd .. | .storeVerifyEnd .. | .registerWrite .. | .registerAccessWrite ..
  | .axisCommandQueue .. | .timedDispatchApply .. | .pageWrite .. | .pennant .. | .pennantReturn .. => true
  | _ => false

/-- The commands that may write a memory bank (R394, R413). -/
def Instr.writesBanks : Instr → Bool
  | .bankInitialisation .. | .currentWindowEnd .. | .injectionComplete .. | .sequencePassEnd .. | .supervisionScanEnd ..
  | .crossCheckEvaluate .. | .programEnd .. | .bankAccess .. | .bankPowerDone .. | .swTransferEnd .. | .watchRelease ..
  | .pagerPageRead .. | .registerAccessRead .. | .registerAccessWrite .. | .parameterStoreDispatch .. | .axisCommandQueue ..
  | .chronographFetch .. | .join .. | .grant .. | .slice .. | .notice .. | .serviceDirectory .. | .almanacService ..
  | .chronWrite .. | .pageWrite .. | .pageRead .. | .bankWrite32 .. | .bankWrite16 .. | .bankWrite8 .. | .bankRead32 .. | .extRead ..
  | .hostOpcodeUnknown .. => true
  | _ => false

/-- The write of a requester that a row of a register stands for: its time, the requester, the page and the offset of the word. -/
def Instr.writes : Instr → Option (Nat × Machine.Req × Machine.Page × Nat)
  | .devCommitHold t r _ => some (t, r, .dev, 0x060)
  | .tickSlew t r _ => some (t, r, .time, 0x078)
  | .arm t r n => some (t, r, (.axb n), 0x04C)
  | .disarm t r n => some (t, r, (.axb n), 0x04C)
  | .start t r n => some (t, r, (.axb n), 0x04C)
  | .stop t r n => some (t, r, (.axb n), 0x04C)
  | .stopHold t r n => some (t, r, (.axb n), 0x04C)
  | .brake t r n => some (t, r, (.axb n), 0x04C)
  | .coast t r n => some (t, r, (.axb n), 0x04C)
  | .service t r n => some (t, r, (.axb n), 0x04C)
  | .returnAxis t r n => some (t, r, (.axb n), 0x04C)
  | .moveAbs t r n => some (t, r, (.prf n), 0x044)
  | .moveRel t r n => some (t, r, (.prf n), 0x044)
  | .halt t r n => some (t, r, (.prf n), 0x044)
  | .ephStart t r n => some (t, r, (.prf n), 0x044)
  | .ephContinue t r n => some (t, r, (.prf n), 0x044)
  | .ephResume t r n => some (t, r, (.prf n), 0x044)
  | .ephAbort t r n => some (t, r, (.prf n), 0x044)
  | .focIntReset t r n => some (t, r, (.foc n), 0x04C)
  | .motIntReset t r n => some (t, r, (.mot n), 0x04C)
  | .excitationStart t r n _ => some (t, r, (.mot n), 0x0C0)
  | .setPos t r p => some (t, r, (.fb p), 0x054)
  | .referenceSetArm t r p => some (t, r, (.fb p), 0x0C0)
  | .injGo t r c _ => some (t, r, (.adc c), 0x1E0)
  | .seqGo t r c => some (t, r, (.adc c), 0x060)
  | .xckClear t r p => some (t, r, (.xck p), 0x070)
  | .fgcal t r c => some (t, r, (.adc c), 0x044)
  | .crvNetVal t r n _ => some (t, r, (.crv n), 0x064)
  | .retStart t r k => some (t, r, (.evp k), 0x04C)
  | .retAbort t r k => some (t, r, (.evp k), 0x04C)
  | .netSample t r k _ => some (t, r, (.evp k), 0x0A0)
  | .gpioSet t r _ => some (t, r, .gpio, 0x048)
  | .gpioClr t r _ => some (t, r, .gpio, 0x04C)
  | .installCustom t r n _ _ => some (t, r, (.prg n), 0x05C)
  | .installStock t r n _ _ => some (t, r, (.prg n), 0x05C)
  | .remove t r n _ => some (t, r, (.prg n), 0x05C)
  | .prgSwap t r n _ => some (t, r, (.prg n), 0x064)
  | .pbWrite t r n w _ => some (t, r, (.prg n), (0x800 + 4 * w.val))
  | .cluClear t r c => some (t, r, (.clu c), 0x078)
  | .glnClear t r g => some (t, r, (.gln g), 0x078)
  | .bnkHandover t r _ _ _ _ => some (t, r, .bnk, 0x050)
  | .bnkPwr t r _ _ => some (t, r, .bnk, 0x05C)
  | .smpSwGo t r q => some (t, r, (.smp q), 0x06C)
  | .streamOpen t r => some (t, r, .pgr, 0x088)
  | .streamClose t r => some (t, r, .pgr, 0x088)
  | .streamRetry t r => some (t, r, .pgr, 0x088)
  | .ringWrite t r _ => some (t, r, .pgr, 0x078)
  | .enumerate t r => some (t, r, .net, 0x088)
  | .unfold t r => some (t, r, .net, 0x088)
  | .leave t r => some (t, r, .net, 0x088)
  | .faultClear t r _ _ => some (t, r, .flt, 0x048)
  | .clearAll t r => some (t, r, .flt, 0x048)
  | .reactionTableWrite t r e _ => some (t, r, .flt, (0x400 + 4 * e.val))
  | .almanacRecord t r _ => some (t, r, .chron, 0x058)
  | .recheck t r _ => some (t, r, .mer, 0x044)
  | .almVerify t r _ => some (t, r, .mer, 0x044)
  | .almSwitch t r _ => some (t, r, .mer, 0x044)
  | .almRestart t r => some (t, r, .mer, 0x044)
  | .almStop t r => some (t, r, .mer, 0x044)
  | .almStart t r => some (t, r, .mer, 0x044)
  | .almHeartbeat t r _ => some (t, r, .alm, 0x050)
  | .almQuiet t r _ => some (t, r, .alm, 0x054)
  | .program t r _ => some (t, r, .otp, 0x044)
  | .reburn t r _ => some (t, r, .otp, 0x044)
  | .lock t r _ => some (t, r, .otp, 0x044)
  | .check t r => some (t, r, .otp, 0x044)
  | .otpRawGo t r _ => some (t, r, .otp, 0x424)
  | .store t r _ => some (t, r, .pst, 0x054)
  | _ => none

end Sys2Proof

/-! ### The invariant -/
namespace Sys2Proof.Machine

/-- What holds in every state of a run: the memory is in its canonical form, and device time fits its 64 bits (R42). -/
def State.Inv (s : State) : Prop := Memory.wf s.mem = true ∧ s.dev.now < 2 ^ 64

end Sys2Proof.Machine
end

