-- ==== Sys2Proof/Certificates/Slice0/Obligations.lean ====
section
/-! DEFINITION. The statements for the provers. -/

open Sys2Proof Sys2Proof.Machine

/-! ### The machine as a whole -/

/-- A step takes the command at the front of the queue and carries it out on the rest of the state; on an empty queue the block
idles. That it idles is the model's choice (log entry 26): the table has no command for a tick that nothing reports. -/
def Obligations.StepTakesFront : Prop :=
  (∀ (c : Instr) (rest : List Instr) (s : State),
    step { s with pending := c :: rest } = exec c { s with pending := rest }) ∧
  (∀ s : State, s.pending = [] → step s = .next s)

/-- The invariant holds in the state after reset. -/
def Obligations.InvAtReset : Prop := State.reset.Inv

/-- Every step keeps the invariant: the memory stays in its canonical form, and device time fits its 64 bits (R42). -/
def Obligations.StepKeepsInv : Prop := ∀ s s' : State, s.Inv → step s = .next s' → s'.Inv

/-- No command is refused: every command has a meaning in every state, and the one fault is that of TIME_NOW. -/
def Obligations.EveryCommandHasAMeaning : Prop := ∀ (c : Instr) (s : State), (∃ s', exec c s = .next s') ∨ exec c s = .fault .timeWraps

/-- A command reads nothing from the queue and leaves it as it is: commands are taken in the order in which they came. -/
def Obligations.CommandsLeaveTheQueue : Prop :=
  ∀ (c : Instr) (s s' : State) (q : List Instr), exec c s = .next s' →
    s'.pending = s.pending ∧ exec c { s with pending := q } = .next { s' with pending := q }

/-- TIME_NOW does not decrease but by a reset (R42). -/
def Obligations.TimeNeverRunsBack : Prop :=
  ∀ (c : Instr) (s s' : State), c.resets = false → exec c s = .next s' → s.dev.now ≤ s'.dev.now

/-- While the block is held in reset only the commands of the supplies, the reset and the pins do anything, and those of the
pins move levels and the test access port only (R73, R94). -/
def Obligations.HeldInReset : Prop :=
  ∀ (c : Instr) (s s' : State), s.dev.running = false → c.resets = false → exec c s = .next s' →
    (c.movesPins = false → s' = s) ∧ s' = { s with dev := { s.dev with pins := s'.dev.pins, tap := s'.dev.tap } }

/-- What a command may reach: only those of the pins and the resets change what the model holds of the levels at the pins and of
the test access port; only those that complete an operation of the persistence engine, the raw burn, the paths of a register
write and the resets change the fuses and the parameter store (R515, R517, R522); and every byte of the memory banks reads
as before but after the commands that store to a bank (R394, R413). -/
def Obligations.CommandFrames : Prop :=
  ∀ (c : Instr) (s s' : State), exec c s = .next s' →
    (c.movesPins = false → c.resets = false → s'.dev.pins = s.dev.pins ∧ s'.dev.tap = s.dev.tap) ∧
    (c.reachesStore = false → c.resets = false → s'.dev.nv = s.dev.nv) ∧
    (c.writesBanks = false → s'.mem = s.mem)

/-! ### Registers and memory -/

/-- A field reads the value last set in its own width, and every other field is left alone; a reset value stands until then
(R14, R17). A byte stored to a bank reads back, every other byte is left alone, an address outside the banks is not stored to, and
the canonical form is kept; a 32-bit word is little-endian, reads back, and leaves the bytes outside its four alone
(R53, R394, R548). -/
def Obligations.RegistersAndMemoryReadBack : Prop :=
  (∀ (d : Dev) (f : Fld) (v : Nat), (d.wr f v).rd f = v % 2 ^ f.w) ∧
  (∀ (d : Dev) (f g : Fld) (v : Nat), f ≠ g → (d.wr f v).rd g = d.rd g) ∧
  (∀ (d : Dev) (f : Fld), d.regs = [] → d.rd f = f.rst) ∧
  (∀ (m : Mem) (a : Nat) (b : Byte), Memory.wf m = true → a < memSize → (m.put a b).read a = b) ∧
  (∀ (m : Mem) (a k : Nat) (b : Byte), Memory.wf m = true → k ≠ a → (m.put a b).read k = m.read k) ∧
  (∀ (m : Mem) (a : Nat) (b : Byte), memSize ≤ a → m.put a b = m) ∧
  (∀ (m : Mem) (a : Nat) (b : Byte), Memory.wf m = true → Memory.wf (m.put a b) = true) ∧
  (∀ (m : Mem) (a v : Nat), Memory.wf m = true → a + 4 ≤ memSize →
    (m.putWord a v).word a = v % 2 ^ 32 ∧
    (∀ i, i < 4 → ((m.putWord a v).read (a + i)).toNat = v / 256 ^ i % 256) ∧
    (∀ k, k < a ∨ a + 4 ≤ k → (m.putWord a v).read k = m.read k))

/-- The gates of a write to a register that has a row of its own (R58, R60, R63, R70, R77): a requester that does not reach pages changes
nothing; a write whose word a requester of a later place has written in the same system cycle is answered with OK and has no effect; one to an
expert area that is not open to the requester is answered with LOCKED and reported, and changes no register but those of the report. -/
def Obligations.RowGates : Prop :=
  ∀ (s : State) (c : Instr) (t : Nat) (r : Req) (p : Page) (off : Nat), s.ready t → c.writes = some (t, r, p, off) →
    (s.dev.reaches r = false → exec c s = .next (s.passed t)) ∧
    (s.dev.reaches r = true → s.dev.overruled r p off (s.when_ t) = true → off < 0x400 →
      exec c s = .next { s with dev := s.taken r p off t }) ∧
    (s.dev.reaches r = true → 0x400 ≤ off → s.dev.expertOpen r p = false → s.gives c (fun d' =>
      d'.answer = some { result := 3, data := [] } ∧ d'.rd devErrPage = pageIndex p ∧ d'.rd devErrOffset = off % 2 ^ (devErrOffset).w ∧
      d'.rd devErrResult = 3 ∧ d'.rd devErrWrite = 1 ∧ d'.rd devErrSource = r.src % 2 ^ (devErrSource).w ∧
      bitAt (d'.rd (pageEvent .dev)) 3 = true ∧ d'.slots = s.dev.slots ∧ d'.nv = s.dev.nv ∧
      s.dev.keepsRegs d' ([devErrPage, devErrOffset, devErrResult, devErrWrite, devErrSource, pageEvent .dev, pageSticky .dev] ++ chronFlds)))

/-! ### Supplies, reset and start-up -/

/-- What reset leaves: nothing runs, every register field has the value of its Reset column, and nothing is stored, burned or
queued (R17, R73). NET_STATE is the exception: its table gives INIT, and while the block is held in reset the links are in
the reset bypass (R76). That the state after reset is held by the supply monitor is the model's choice (log entry 24). -/
def Obligations.ResetState : Prop :=
  State.reset.dev.running = false ∧ State.reset.mem = [] ∧ State.reset.pending = [] ∧ State.reset.dev.rd netState = 0 ∧
  (∀ f, f ≠ netState → State.reset.dev.rd f = f.rst) ∧ State.reset.dev.nv = {} ∧ State.reset.dev.active = [] ∧
  State.reset.dev.queue = [] ∧ State.reset.dev.stepsDone = 0 ∧ (∀ n, State.reset.dev.ax n = {})

/-- An assertion of the supply monitor and a fall of RESET_N take the block into reset: it stops, and every register field has
its reset value; the memory banks and the queue are untouched, and so are the fuses and the store unless a burn is cut off
(R17, R73, R94, R517). -/
def Obligations.ResetsTheBlock : Prop :=
  ∀ (s : State) (c : Instr), c = .supplyMonitorAssert ∨ c = .resetNFall →
    ∃ d', exec c s = .next { s with dev := d' } ∧ d'.running = false ∧ (∀ f, f ≠ netState → d'.rd f = f.rst) ∧ d'.active = [] ∧
      d'.stepsDone = 0 ∧ d'.now = 0 ∧
      d'.pins = (if c = .resetNFall then { s.dev.pins with resetN := false }
                 else { s.dev.pins with supplies := false, clockGood := false, powerOn := true }) ∧
      (s.dev.running = false ∨ s.dev.eng.cmd ≠ 1 ∧ s.dev.eng.cmd ≠ 3 → d'.nv = s.dev.nv)

/-- The block begins to run when the last of the supply monitor, RESET_N and the reference is good, whichever comes last:
TIME_NOW is 0 and the first tick begins there; until then only the level is noted (R27, R73, R74, R79). -/
def Obligations.ReleaseBegins : Prop :=
  ∀ (s : State), s.dev.running = false →
    (∀ (c : Instr) (p : Pins),
      (c = .supplyMonitorRelease ∧ p = { s.dev.pins with supplies := true }) ∨
      (c = .resetNRelease ∧ p = { s.dev.pins with resetN := true }) ∨
      (c = .clockGood ∧ s.dev.pins.supplies = true ∧ p = { s.dev.pins with clockGood := true }) →
      ((p.supplies && p.resetN && p.clockGood) = true →
        ∃ d', exec c s = .next { s with dev := d' } ∧ d'.running = true ∧ d'.now = 0 ∧ d'.tickStart = 0 ∧ d'.stepsDone = 0 ∧
          d'.pins = { p with powerOn := false } ∧ d'.nv = s.dev.nv ∧ d'.tap = s.dev.tap) ∧
      ((p.supplies && p.resetN && p.clockGood) = false →
        exec c s = .next { s with dev := { s.dev with pins := p } })) ∧
    (s.dev.pins.supplies = false → exec .clockGood s = .next s)

/-- The steps of start-up follow one another: each ends the step before which it waits, whatever it finds, and STARTUP_STEP
names the step in progress; a command that comes out of turn changes nothing (R79, R80, R92). -/
def Obligations.StartUpSteps : Prop :=
  ∀ (s : State) (t : Nat), s.ready t →
    (∀ weak x, s.dev.stepsDone = 0 → s.gives (.otpLoad t weak x) (fun d' => d'.stepsDone = 1 ∧ d'.rd devStartupStep = 2 ∧
      d'.nv = s.dev.nv ∧ d'.pins = s.dev.pins)) ∧
    (s.dev.stepsDone = 1 → s.gives (.parameterStoreLoad t) (fun d' => d'.stepsDone = 2 ∧ d'.rd devStartupStep = 3 ∧
      d'.nv = s.dev.nv ∧ d'.pins = s.dev.pins)) ∧
    (∀ fine coefs offsets, s.dev.stepsDone = 2 → s.gives (.selfCalibration t fine coefs offsets) (fun d' =>
      d'.stepsDone = 3 ∧ d'.rd devStartupStep = 4 ∧ d'.nv = s.dev.nv ∧ d'.pins = s.dev.pins)) ∧
    (∀ fails, s.dev.stepsDone = 3 → ∃ d' m', exec (.bankInitialisation t fails) s = .next { s with dev := d', mem := m' } ∧
      d'.stepsDone = 4 ∧ d'.rd devStartupStep = 5 ∧ d'.nv = s.dev.nv ∧ d'.pins = s.dev.pins) ∧
    (∀ rom lanes clocks dac, s.dev.stepsDone = 4 → (s.dev.neverReady || rom || clocks) = true →
      s.gives (.meridianChecks t rom lanes clocks dac) (fun d' => d'.stepsDone = 5 ∧ d'.neverReady = true ∧
        d'.nv = s.dev.nv ∧ d'.pins = s.dev.pins)) ∧
    (∀ lanes dac, s.dev.stepsDone = 4 → s.dev.neverReady = false →
      s.gives (.meridianChecks t false lanes false dac) (fun d' => d'.stepsDone = 6 ∧ d'.neverReady = false ∧
        d'.nv = s.dev.nv ∧ d'.pins = s.dev.pins)) ∧
    (∀ weak x, s.dev.stepsDone ≠ 0 → exec (.otpLoad t weak x) s = .next (s.passed t)) ∧
    (s.dev.stepsDone ≠ 1 → exec (.parameterStoreLoad t) s = .next (s.passed t)) ∧
    (∀ fine coefs offsets, s.dev.stepsDone ≠ 2 → exec (.selfCalibration t fine coefs offsets) s = .next (s.passed t)) ∧
    (∀ fails, s.dev.stepsDone ≠ 3 → exec (.bankInitialisation t fails) s = .next (s.passed t)) ∧
    (∀ rom lanes clocks dac, s.dev.stepsDone ≠ 4 → exec (.meridianChecks t rom lanes clocks dac) s = .next (s.passed t))

/-- Step 7 with KEY valid (R495, R507): a boot slot that verifies becomes the slot in use, and the core, whose code cache
is invalid, waits for its first heartbeat with start-up as the cause of the start (R492, R498); before step 6 or with KEY invalid nothing happens. -/
def Obligations.AlmanacStarts : Prop :=
  ∀ (s : State) (t : Nat) (boot other : SlotImage), s.ready t →
    (s.dev.stepsDone = 6 → s.dev.keyValid = true → s.dev.verifyCause boot = 0 →
      s.gives (.almanacImageVerified t boot other) (fun d' =>
        d'.stepsDone = 7 ∧ d'.rd devStartupStep = 8 ∧ d'.rd almSlotAct = s.dev.rd almBootSlot ∧ d'.rd almStopped = 0 ∧
        d'.rd almCause = 1 ∧ d'.alm = { s.dev.alm with waiting := true, restart := false, beat := s.when_ t, cache := [] } ∧ d'.pins = s.dev.pins ∧ d'.nv = s.dev.nv ∧
        d'.active = s.dev.active)) ∧
    (s.dev.stepsDone ≠ 6 ∨ s.dev.keyValid = false → exec (.almanacImageVerified t boot other) s = .next (s.passed t))

/-! ### Ticks, time and the register pages -/

/-- TICK_BOUNDARY (R27, R29, R47): the tick that was due begins, TICK_COUNT counts and TICK_LAST has its device time; the next
boundary falls due one tick period later, but in ACQUIRE and LOCKED, where it is aligned. The memory banks and the
queue are untouched. That a boundary which is reported late happens then is the model's (log entry 21). -/
def Obligations.TickBoundary : Prop :=
  ∀ (s : State) (oc : Nat), s.ready s.dev.nextTick →
    s.gives (.tickBoundary oc) (fun d' =>
      d'.now = s.when_ s.dev.nextTick ∧ d'.tickStart = s.when_ s.dev.nextTick ∧
      d'.rd timeTickCount = (s.dev.rd timeTickCount + 1) % 2 ^ 64 ∧ d'.rd timeTickLast = s.when_ s.dev.nextTick ∧
      (d'.rd timeState ≠ 1 → d'.rd timeState ≠ 2 → d'.nextTick = s.when_ s.dev.nextTick + 5 * d'.rd timeTickPeriod) ∧
      d'.running = true ∧ d'.pins = { s.dev.pins with oc := oc } ∧ d'.nv = s.dev.nv ∧ d'.tap = s.dev.tap)

/-- The events of time that the block judges (R45, R46, R52): in LOCKED, HOLD_LIMIT ticks without a correction lead to HOLDOVER
with its event and fault 0x6D04, and 16 ticks with an error beyond 10 ns set the sticky bit; a write of TICK_SLEW outside 1 to
200 is refused with its event and its sticky bit, and a write inside stands. -/
def Obligations.TimeEvents : Prop :=
  ∀ (s : State) (t : Nat), s.ready t →
    (s.dev.rd timeState = 2 → s.dev.rd timeHoldLimit ≤ s.dev.noTime → s.dev.rd netState ≠ 5 →
      s.gives (.holdoverEntry t) (fun d' => d'.rd timeState = 3 ∧ bitAt (d'.rd (pageEvent .time)) 2 = true ∧
        d'.isActive 0x6D04 0 = true ∧ (s.dev.at_ t).onlyFault d' [timeState, pageEvent .time])) ∧
    (¬ (s.dev.rd timeState = 2 ∧ s.dev.rd timeHoldLimit ≤ s.dev.noTime ∧ s.dev.rd netState ≠ 5) →
      exec (.holdoverEntry t) s = .next (s.passed t)) ∧
    (s.dev.rd timeState = 2 → 16 ≤ s.dev.errRun →
      s.gives (.steerLimit t) (fun d' => bitAt (d'.rd (pageSticky .time)) 1 = true ∧
        (s.dev.at_ t).onlyRegs d' [pageSticky .time])) ∧
    (¬ (s.dev.rd timeState = 2 ∧ 16 ≤ s.dev.errRun) → exec (.steerLimit t) s = .next (s.passed t)) ∧
    (∀ r v, s.opens r .time 0x078 t → 1 ≤ v → v ≤ 200 →
      s.gives (.tickSlew t r v) (fun d' => d'.rd timeTickSlew = v ∧ (s.taken r .time 0x078 t).onlyRegs d' [timeTickSlew])) ∧
    (∀ r v, s.opens r .time 0x078 t → v % 256 = 0 ∨ 200 < v % 256 →
      s.gives (.tickSlew t r v) (fun d' => d'.rd timeTickSlew = s.dev.rd timeTickSlew ∧
        bitAt (d'.rd (pageEvent .time)) 4 = true ∧ bitAt (d'.rd (pageSticky .time)) 0 = true ∧
        (s.taken r .time 0x078 t).onlyRegs d' [pageEvent .time, pageSticky .time]))

/-- The header words of every present page, by the plain write of a core (R58, R60, R61): PAGE_EVENT_EN takes the word; in
PAGE_EVENT and PAGE_STICKY every 1 written clears its bit and no other bit changes; the access ends with OK. -/
def Obligations.PageHeaderWrites : Prop :=
  ∀ (s : State) (t : Nat) (r : Req) (page : Nat) (p : Page) (v : Nat), s.ready t → page < 4096 → pageAt page = some p → v < 2 ^ 32 →
    (s.opens r p 0x010 t →
      s.gives (.registerWrite t r (0x10000000 + page * 4096 + 0x010) 4 v) (fun d' =>
        d'.rd (pageEventEn p) = v ∧ (s.taken r p 0x010 t).onlyRegs d' [pageEventEn p])) ∧
    (s.dev.reaches r = true → s.gives (.registerWrite t r (0x10000000 + page * 4096 + 0x00C) 4 v) (fun d' =>
      (∀ i, i < 32 → bitAt (d'.rd (pageEvent p)) i = (bitAt (s.dev.rd (pageEvent p)) i && !bitAt v i)) ∧
      (s.taken r p 0x00C t).onlyRegs d' [pageEvent p])) ∧
    (s.dev.reaches r = true → s.gives (.registerWrite t r (0x10000000 + page * 4096 + 0x014) 4 v) (fun d' =>
      (∀ i, i < 32 → bitAt (d'.rd (pageSticky p)) i = (bitAt (s.dev.rd (pageSticky p)) i && !bitAt v i)) ∧
      (s.taken r p 0x014 t).onlyRegs d' [pageSticky p]))

/-- A plain read of PAGE_EVENT_EN of a present page answers OK with the word and changes nothing but device time and the
answer, when no 64-bit read is half done; an access to an absent page ends with NO_PAGE, a read with 0, and writes nothing but its own
reports (R12, R54, R58, R61). -/
def Obligations.PageHeaderReads : Prop :=
  ∀ (s : State) (t : Nat) (r : Req) (page : Nat), s.ready t → page < 4096 → s.dev.reaches r = true → s.dev.rdHold = [] →
    (∀ p, pageAt page = some p →
      exec (.registerRead t r (0x10000000 + page * 4096 + 0x010) 4) s =
        .next { s with dev := (s.dev.at_ t).answered 0 [s.dev.rd (pageEventEn p)] }) ∧
    (pageAt page = none →
      s.gives (.registerRead t r (0x10000000 + page * 4096 + 0x010) 4) (fun d' =>
        d'.answer = some { result := 1, data := [0] } ∧ d'.rd devErrPage = page ∧ d'.rd devErrOffset = 0x010 ∧ d'.rd devErrResult = 1) ∧
      ∀ v, v < 2 ^ 32 → s.gives (.registerWrite t r (0x10000000 + page * 4096 + 0x010) 4 v) (fun d' =>
        d'.answer = some { result := 1, data := [] } ∧ d'.rd devErrPage = page ∧ d'.rd devErrOffset = 0x010 ∧ d'.rd devErrResult = 1 ∧
        d'.rd devErrWrite = 1 ∧ s.dev.keepsRegs d'
          ([devErrPage, devErrOffset, devErrResult, devErrWrite, devErrSource, pageEvent .dev, pageSticky .dev] ++ chronFlds)))

/-- A write of 1 to PAGE_COMMIT requests the commit of the page once: COMMIT reads 1, and the request carries its time and its
requester; with a request pending, or with 0 written, nothing more happens, so that the requests of several requesters are one commit
(R30, R61, R67). -/
def Obligations.CommitRequests : Prop :=
  ∀ (s : State) (t : Nat) (r : Req) (page : Nat) (p : Page) (v : Nat), s.ready t → s.dev.reaches r = true → pageAt page = some p →
    (bitAt v 0 = true → v < 2 ^ 32 → s.dev.rd (pageCommit p) = 0 →
      s.gives (.pageCommit t r page v) (fun d' =>
        d'.rd (pageCommit p) = 1 ∧
        d'.commits = s.dev.commits ++ [{ page := p, at_ := s.when_ t, src := r.src, inst := r.inst, stn := r.stn, swap := 0 }] ∧
        d' = { s.taken r p 0x018 t with regs := d'.regs, commits := d'.commits } ∧ s.dev.keepsRegs d' [pageCommit p])) ∧
    (v < 2 ^ 32 → bitAt v 0 = false ∨ s.dev.rd (pageCommit p) ≠ 0 →
      exec (.pageCommit t r page v) s = .next { s with dev := s.taken r p 0x018 t }) ∧
    (∀ (q : Req) (u : Nat), s.dev.reaches q = true → bitAt v 0 = true → v < 2 ^ 32 → s.dev.rd (pageCommit p) = 0 → t ≤ u → u < 2 ^ 64 →
      s.gives (.pageCommit t r page v) (fun d' => ({ s with dev := d' } : State).gives (.pageCommit u q page v) (fun d'' =>
        d''.rd (pageCommit p) = 1 ∧ d''.commits = d'.commits)))

/-- The key of an expert area (R63 to R65, R70): 0xE5 opens it for the writing requester and for no other, from the tick of the
write on, with a record; a second key leaves it open; after 65,536 ticks without an expert write it closes, and not before. -/
def Obligations.ExpertAreas : Prop :=
  ∀ (s : State) (t : Nat) (r : Req) (page : Nat) (p : Page), s.ready t → pageAt page = some p →
    (s.dev.reaches r = true → s.dev.expertOpen r p = false →
      s.gives (.pageExpertKey t r page 0xE5) (fun d' =>
        d'.expertOpen r p = true ∧ d'.expert = s.dev.expert ++ [(r, p, s.dev.rd timeTickCount)] ∧
        (∀ (r' : Req) (q : Page), d'.expertOpen r' q = (s.dev.expertOpen r' q || (r.same r' && decide (p = q)))) ∧
        d'.answer = some { result := 0, data := [] } ∧ s.dev.keepsRegs d' chronFlds)) ∧
    (s.dev.reaches r = true → s.dev.expertOpen r p = true →
      exec (.pageExpertKey t r page 0xE5) s = .next { s with dev := s.taken r p 0x01C t }) ∧
    (∀ k, s.dev.expert = [(r, p, k)] → k + 65536 ≤ s.dev.rd timeTickCount →
      s.gives (.expertAreaTimeout t r page) (fun d' =>
        d'.expert = [] ∧ d'.expertOpen r p = false ∧ s.dev.keepsRegs d' chronFlds)) ∧
    (∀ k, s.dev.expert = [(r, p, k)] → s.dev.rd timeTickCount < k + 65536 →
      exec (.expertAreaTimeout t r page) s = .next (s.passed t))

/-- DEV_COMMIT_HOLD (R69): the bit takes the value written, and its fall is the time from which held requests count. -/
def Obligations.CommitHold : Prop :=
  ∀ (s : State) (t : Nat) (r : Req) (hold : Bool), s.ready t → s.opens r .dev 0x060 t →
    s.gives (.devCommitHold t r hold) (fun d' =>
      d'.rd devCommitHold = (if hold then 1 else 0) ∧
      d'.holdEnd = (if s.dev.on devCommitHold && !hold then s.when_ t else s.dev.holdEnd) ∧
      d' = { s.taken r .dev 0x060 t with regs := d'.regs, holdEnd := d'.holdEnd } ∧ s.dev.keepsRegs d' [devCommitHold])

/-! ### Axes: commands, profile commands, brakes and excitation -/

/-- A write of AXB_CMD (R293): with no command pending it becomes pending, LAST_CMD has its code and RESULT is 0; with one
pending it is refused with BUSY, event and record, and the first one stands. Nothing else of the block changes. -/
def Obligations.AxisCommandsPend : Prop :=
  ∀ (s : State) (t : Nat) (r : Req) (n : Fin 24) (c : Instr) (code : Nat), s.ready t → s.dev.reaches r = true →
    (c, code) ∈ [(Instr.arm t r n, 1), (.disarm t r n, 2), (.start t r n, 3), (.stop t r n, 4), (.stopHold t r n, 5),
                 (.brake t r n, 6), (.coast t r n, 7), (.service t r n, 8), (.returnAxis t r n, 9)] →
    ((s.dev.ax n).cmd = none →
      s.gives c (fun d' => d'.rd (axbLastCmd n) = code ∧ d'.rd (axbResult n) = 0 ∧
        d'.ax n = { s.dev.ax n with cmd := some { code := code, at_ := s.when_ t, src := r.src } } ∧
        (s.taken r (.axb n) 0x04C t).onlyAxis d' n [axbLastCmd n, axbResult n])) ∧
    ((s.dev.ax n).cmd ≠ none →
      s.gives c (fun d' => d'.rd (axbLastCmd n) = code ∧ d'.rd (axbResult n) = 3 ∧ d'.axes = s.dev.axes ∧
        bitAt (d'.rd (pageEvent (.axb n))) 2 = true ∧
        (s.taken r (.axb n) 0x04C t).onlyNoted d' [axbLastCmd n, axbResult n, pageEvent (.axb n), pageSticky (.axb n)]))

/-- The judgement of ARM and DISARM at a boundary (R30, R78, R294, R295, R302): not before 100 ns after the write; without READY
ARM is refused with 4; in a state that the table does not list the command is refused with STATE; ARM of an axis in OFF that
nothing bars arms it, and DISARM of an armed axis takes it to OFF, with RESULT applied; no command is pending afterwards. -/
def Obligations.ArmingIsJudged : Prop :=
  ∀ (d : Dev) (n b : Nat) (c : PendingCmd), n < 24 → (d.ax n).cmd = some c →
    (b < c.at_ + 100 → d.applyAxb n b = d) ∧
    (c.at_ + 100 ≤ b → c.code = 1 → d.rd devReady = 0 →
      (d.applyAxb n b).st n = d.st n ∧ (d.applyAxb n b).rd (axbResult n) = 4 ∧ (d.applyAxb n b).rd (axbLastCmd n) = 1 ∧
      ((d.applyAxb n b).ax n).cmd = none) ∧
    (c.at_ + 100 ≤ b → c.code = 1 → d.rd devReady = 1 → d.st n ≠ 0 →
      (d.applyAxb n b).st n = d.st n ∧ (d.applyAxb n b).rd (axbResult n) = 2 ∧ ((d.applyAxb n b).ax n).cmd = none) ∧
    (c.at_ + 100 ≤ b → c.code = 1 → d.rd devReady = 1 → d.st n = 0 → bitAt (d.rd merRecheck) (n / 4) = false →
      (d.modAx n (fun a => { a with cmd := none })).armBar n = 0 →
      (d.applyAxb n b).st n = 1 ∧ (d.applyAxb n b).rd (axbResult n) = 1 ∧ (d.applyAxb n b).rd (axbLastCmd n) = 1 ∧
      (d.applyAxb n b).rd (axbStateTime n) = b % 2 ^ 64 ∧ ((d.applyAxb n b).ax n).cmd = none) ∧
    (c.at_ + 100 ≤ b → c.code = 2 → d.st n = 1 →
      (d.applyAxb n b).st n = 0 ∧ (d.applyAxb n b).rd (axbResult n) = 1 ∧ (d.applyAxb n b).rd (axbLastCmd n) = 2 ∧
      ((d.applyAxb n b).ax n).cmd = none) ∧
    (c.at_ + 100 ≤ b → c.code = 2 → d.st n ≠ 1 →
      (d.applyAxb n b).st n = d.st n ∧ (d.applyAxb n b).rd (axbResult n) = 2 ∧ ((d.applyAxb n b).ax n).cmd = none)

/-- A write of PRF_CMD (R307): with no command pending it becomes pending with RESULT 0; with one pending it is refused with
BUSY and its event, and the first one stands. The generators of the other axes are untouched. -/
def Obligations.ProfileCommandsPend : Prop :=
  ∀ (s : State) (t : Nat) (r : Req) (n : Fin 24) (c : Instr) (code : Nat), s.ready t → s.dev.reaches r = true →
    (c, code) ∈ [(Instr.moveAbs t r n, 1), (.moveRel t r n, 2), (.halt t r n, 3), (.ephStart t r n, 4), (.ephContinue t r n, 5),
                 (.ephResume t r n, 6), (.ephAbort t r n, 7)] →
    ((s.dev.prof n).cmd = none →
      s.gives c (fun d' => d'.rd (prfLastCmd n) = code ∧ d'.rd (prfResult n) = 0 ∧
        d'.prof n = { s.dev.prof n with cmd := some { code := code, at_ := s.when_ t, src := r.src } } ∧
        d' = { s.taken r (.prf n) 0x044 t with regs := d'.regs, profs := d'.profs } ∧ (∀ k : Nat, k ≠ n → d'.prof k = s.dev.prof k) ∧
        s.dev.keepsRegs d' [prfLastCmd n, prfResult n])) ∧
    ((s.dev.prof n).cmd ≠ none →
      s.gives c (fun d' => d'.rd (prfLastCmd n) = code ∧ d'.rd (prfResult n) = 3 ∧
        bitAt (d'.rd (pageEvent (.prf n))) 6 = true ∧
        (s.taken r (.prf n) 0x044 t).onlyRegs d' [prfLastCmd n, prfResult n, pageEvent (.prf n), pageSticky (.prf n)]))

/-- The short of a commanded brake, the integrator resets and the excitation (R121, R123, R199, R283, R291). A waiting brake
closes the low side with BRAKE_SIDE LOW, DRV_DEADTIME after the valley; a reset is noted for the next run of its programs; the excitation starts in RUN at
its points 0 to 2 unless it is an unbounded chirp, is refused with its event otherwise, and ends with its event when it is
written off or its time is over. Nothing else of the block changes. -/
def Obligations.BrakesAndExcitation : Prop :=
  ∀ (s : State) (t : Nat) (r : Req) (n : Fin 24), s.ready t →
    (s.dev.st n = 4 → (s.dev.ax n).brakeWait = true → (s.dev.ax n).drvUse.alternate = false →
      s.gives (.brakeStartAtValley t n) (fun d' => (d'.ax n).bridge = 2 ∧ (d'.ax n).brakeWait = false ∧
        (d'.ax n).closeAt = 4 * s.when_ t + 5 * (s.dev.ax n).drvUse.dead ∧
        (s.dev.at_ t).onlyAxis d' n [])) ∧
    (¬ (s.dev.st n = 4 ∧ (s.dev.ax n).brakeWait = true) → exec (.brakeStartAtValley t n) s = .next (s.passed t)) ∧
    (s.dev.reaches r = true → s.gives (.focIntReset t r n) (fun d' => d'.ax n = { s.dev.ax n with focReset := true } ∧
      (s.taken r (.foc n) 0x04C t).onlyAxis d' n [])) ∧
    (s.dev.reaches r = true → s.gives (.motIntReset t r n) (fun d' =>
      d'.ax n = { s.dev.ax n with velReset := true, posReset := true } ∧ (s.taken r (.mot n) 0x04C t).onlyAxis d' n [])) ∧
    (∀ v, s.dev.reaches r = true → s.dev.st n = 2 → bitsAt v 1 2 ≠ 3 → bitsAt v 4 1 = 0 ∨ s.dev.rd (motExcT n) ≠ 0 → s.dev.rd (motExcRun n) = 0 →
      s.gives (.excitationStart t r n v) (fun d' => d'.rd (motExcRun n) = 1 ∧ d'.rd (motExcPoint n) = bitsAt v 1 2 ∧
        d'.rd (motExcChirp n) = bitsAt v 4 1 ∧ d'.rd (motExcCap n) = bitsAt v 5 1 ∧
        d'.ax n = { s.dev.ax n with excStart := true, excK := 0, excPhi := 0 } ∧
        (s.taken r (.mot n) 0x0C0 t).onlyAxis d' n [motExcRun n, motExcPoint n, motExcChirp n, motExcCap n])) ∧
    (∀ v, s.dev.reaches r = true → s.dev.st n ≠ 2 ∨ bitsAt v 1 2 = 3 ∨ (bitsAt v 4 1 = 1 ∧ s.dev.rd (motExcT n) = 0) →
      s.gives (.excitationStart t r n v) (fun d' => d'.rd (motExcRun n) = s.dev.rd (motExcRun n) ∧
        bitAt (d'.rd (pageEvent (.mot n))) 0 = true ∧
        (s.taken r (.mot n) 0x0C0 t).onlyRegs d' [motExcPoint n, motExcChirp n, motExcCap n, pageEvent (.mot n), pageSticky (.mot n)])) ∧
    (s.dev.rd (motExcRun n) = 1 →
      s.gives (.excitationEnd t n true) (fun d' => d'.rd (motExcRun n) = 0 ∧ bitAt (d'.rd (pageEvent (.mot n))) 1 = true ∧
        (s.dev.at_ t).onlyAxis d' n [motExcRun n, pageEvent (.mot n)])) ∧
    (s.dev.rd (motExcRun n) = 0 → ∀ w, exec (.excitationEnd t n w) s = .next (s.passed t))

/-! ### Feedback ports -/

/-- Sets of the position (R237): with no driving axis on the port a set is kept with its time, a reference set is armed, and
SET_PEND shows it; with a driving axis on the port either is refused with its event and nothing else changes. -/
def Obligations.PositionSets : Prop :=
  ∀ (s : State) (t : Nat) (r : Req) (p : Fin 24), s.ready t → s.dev.reaches r = true →
    (s.dev.portBusy p = false →
      s.gives (.setPos t r p) (fun d' => d'.fbp p = { s.dev.fbp p with setPos := some (s.when_ t) } ∧ d'.rd (fbSetPend p) = 1 ∧
        d' = { s.taken r (.fb p) 0x054 t with regs := d'.regs, fbps := d'.fbps } ∧ (∀ q : Nat, q ≠ p → d'.fbp q = s.dev.fbp q) ∧
        s.dev.keepsRegs d' [fbSetPend p]) ∧
      s.gives (.referenceSetArm t r p) (fun d' => d'.rd (fbRefArm p) = 1 ∧ d'.rd (fbSetPend p) = 1 ∧
        (s.taken r (.fb p) 0x0C0 t).onlyRegs d' [fbRefArm p, fbSetPend p])) ∧
    (s.dev.portBusy p = true → ∀ c off, (c, off) ∈ [(Instr.setPos t r p, 0x054), (.referenceSetArm t r p, 0x0C0)] →
      s.gives c (fun d' => bitAt (d'.rd (pageEvent (.fb p))) 9 = true ∧
        (s.taken r (.fb p) off t).onlyRegs d' [pageEvent (.fb p), pageSticky (.fb p)]))

/-- A quadrature edge (R216, R217, R233): with no disagreeing pair, no reference edge and the counter within its bounds, a step of
the two lines that A leads counts one up, one that B leads one down (the other way round with INVERT), and a change of both is
illegal: it counts as such, sets its event and sticky bits, clears POS_VALID and leaves the counter. Before the end of step 2 of
start-up an edge only moves the level. -/
def Obligations.QuadratureCounts : Prop :=
  ∀ (s : State) (t : Nat) (p : Fin 24) (fine : Fin 4) (lines : Fin 8), s.ready t →
    (2 ≤ s.dev.stepsDone → s.dev.rd (fbMode p) = 1 → s.dev.rd (fbWire p) = 0 →
      s.dev.rd (fbZUsed p) = 0 ∨ bitAt lines 2 = bitAt (s.dev.rd (fbLines p)) 2 →
      -(2 ^ 47) < s.dev.rdS (fbPos p) → s.dev.rdS (fbPos p) < 2 ^ 47 - 1 →
      s.dev.fbLo p < s.dev.rdS (fbPos p) → s.dev.rdS (fbPos p) < s.dev.fbHi p →
      s.gives (.fbEdge t p fine lines) (fun d' =>
        d'.rd (fbLines p) = lines ∧ d'.pins = { s.dev.pins with fb := d'.pins.fb } ∧ tabGet d'.pins.fb p = some lines.val ∧
        ((quadPhase lines + 4 - quadPhase (s.dev.rd (fbLines p))) % 4 = 0 → d'.rd (fbPos p) = s.dev.rd (fbPos p)) ∧
        ((quadPhase lines + 4 - quadPhase (s.dev.rd (fbLines p))) % 4 = 1 → d'.rdS (fbPos p) = s.dev.rdS (fbPos p) + (if s.dev.rd (fbInvert p) = 0 then 1 else -1)) ∧
        ((quadPhase lines + 4 - quadPhase (s.dev.rd (fbLines p))) % 4 = 3 → d'.rdS (fbPos p) = s.dev.rdS (fbPos p) - (if s.dev.rd (fbInvert p) = 0 then 1 else -1)) ∧
        ((quadPhase lines + 4 - quadPhase (s.dev.rd (fbLines p))) % 4 = 2 →
          d'.rd (fbPos p) = s.dev.rd (fbPos p) ∧ d'.rd (fbPosValid p) = 0 ∧ bitAt (d'.rd (pageEvent (.fb p))) 3 = true ∧
          bitAt (d'.rd (pageSticky (.fb p))) 3 = true ∧
          (s.dev.rd (fbIllegalCount p) < 2 ^ (fbIllegalCount p).w - 1 →
            d'.rd (fbIllegalCount p) = s.dev.rd (fbIllegalCount p) + 1)))) ∧
    (s.dev.stepsDone < 2 → s.gives (.fbEdge t p fine lines) (fun d' =>
      tabGet d'.pins.fb p = some lines.val ∧ d' = { s.dev.at_ t with pins := { s.dev.pins with fb := d'.pins.fb } }))

/-- The limits of a feedback port (R218, R220, R226, R244): more illegal transitions than ILLEGAL_LIMIT raise 0x1602, and
references missed up to REF_LIMIT 0x1604, on every axis that names the port; below its limit nothing happens. In HALL an
invalid state leaves the count unchanged, and one that lasts is shown and raises 0x1606 likewise. -/
def Obligations.FeedbackFaults : Prop :=
  ∀ (s : State) (t : Nat) (p : Fin 24), s.ready t →
    (s.dev.rd (fbIllegalLimit p) < (s.dev.fbp p).illegal.length →
      s.gives (.illegalLimit t p) (fun d' => (∀ n ∈ s.dev.naming p, d'.isActive 0x1602 n = true) ∧ (s.dev.at_ t).onlyFault d' [])) ∧
    (¬ s.dev.rd (fbIllegalLimit p) < (s.dev.fbp p).illegal.length → exec (.illegalLimit t p) s = .next (s.passed t)) ∧
    (s.dev.rd (fbToothRefLimit p) ≤ s.dev.rd (fbToothRefMiss p) →
      s.gives (.refMismatchLimit t p) (fun d' => (∀ n ∈ s.dev.naming p, d'.isActive 0x1604 n = true) ∧ (s.dev.at_ t).onlyFault d' [])) ∧
    (¬ s.dev.rd (fbToothRefLimit p) ≤ s.dev.rd (fbToothRefMiss p) → exec (.refMismatchLimit t p) s = .next (s.passed t)) ∧
    (s.dev.rd (fbMode p) = 2 → s.dev.rd (fbLines p) = 0 ∨ s.dev.rd (fbLines p) = 7 →
      s.gives (.hallInvalid t p) (fun d' => d'.rd (fbHallBad p) = 1 ∧ d'.rd (fbPos p) = s.dev.rd (fbPos p) ∧
        (∀ n ∈ s.dev.naming p, d'.isActive 0x1606 n = true))) ∧
    (∀ (fine : Fin 4) (lines : Fin 8), s.dev.rd (fbMode p) = 2 → s.dev.rd (fbWire p) = 0 → lines.val = 0 ∨ lines.val = 7 →
      s.gives (.fbEdge t p fine lines) (fun d' => d'.rd (fbPos p) = s.dev.rd (fbPos p))) ∧
    (¬ (s.dev.rd (fbMode p) = 2 ∧ (s.dev.rd (fbLines p) = 0 ∨ s.dev.rd (fbLines p) = 7)) →
      exec (.hallInvalid t p) s = .next (s.passed t))

/-- The wire check (R213, R214): a disagreeing pair that the check watches trips it: POS_VALID falls, WIRE shows the pair, and
0x1601 is raised on every axis that names the port; a pair that the check does not watch changes only what the port holds of
the pairs. -/
def Obligations.WireCheck : Prop :=
  ∀ (s : State) (t : Nat) (p : Fin 24) (pairs : Fin 8), s.ready t →
    (pairs.val &&& s.dev.checkedPairs p ≠ 0 →
      s.gives (.wireDisagreement t p pairs) (fun d' => d'.rd (fbPosValid p) = 0 ∧
        d'.rd (fbWire p) = (s.dev.rd (fbWire p) ||| (pairs.val &&& s.dev.checkedPairs p)) % 8 ∧
        (∀ n ∈ s.dev.naming p, d'.isActive 0x1601 n = true))) ∧
    (pairs.val &&& s.dev.checkedPairs p = 0 →
      s.gives (.wireDisagreement t p pairs) (fun d' => d'.fbp p = { s.dev.fbp p with disagree := pairs.val } ∧
        d' = { s.dev.at_ t with fbps := d'.fbps } ∧ (∀ q : Nat, q ≠ p → d'.fbp q = s.dev.fbp q)))

/-- SSER frames (R227 to R231): a frame starts with its time while the data line is high, and fails with BUSY while it is low; a
frame that arrives after its start with a wrong CRC fails. A failed frame leaves A, the counter and the speed, sets FRAME_ERR
and its event, and counts; ERR_LIMIT of them in a row raise 0x1603 on every axis that names the port. A good frame ends the run
and clears FRAME_ERR, and the first one validates the position. A frame that was not started changes nothing. -/
def Obligations.SerialFrames : Prop :=
  ∀ (s : State) (t : Nat) (p : Fin 24), s.ready t →
    (s.dev.rd (fbMode p) = 4 → bitAt (s.dev.rd (fbLines p)) 0 = true →
      s.gives (.sserFrameStart t p) (fun d' => d'.fbp p = { s.dev.fbp p with frameAt := some (4 * s.when_ t) } ∧
        d' = { s.dev.at_ t with fbps := d'.fbps } ∧ (∀ q : Nat, q ≠ p → d'.fbp q = s.dev.fbp q))) ∧
    (s.dev.rd (fbMode p) = 4 → bitAt (s.dev.rd (fbLines p)) 0 = false →
      s.gives (.sserFrameStart t p) (fun d' => d'.rd (fbFrameErr p) = 1 ∧ bitAt (d'.rd (pageEvent (.fb p))) 5 = true ∧
        (d'.fbp p).errRun = (s.dev.fbp p).errRun + 1 ∧ (d'.fbp p).errCause = 1 ∧ (d'.fbp p).frameAt = none ∧
        (d'.fbp p).absA = (s.dev.fbp p).absA ∧
        (s.dev.rd (fbSserErrs p) + 1 < 2 ^ (fbSserErrs p).w → d'.rd (fbSserErrs p) = s.dev.rd (fbSserErrs p) + 1) ∧
        s.dev.keepsRegs d' [fbFrameErr p, fbSserErrs p, pageEvent (.fb p), pageSticky (.fb p)])) ∧
    (s.dev.rd (fbMode p) ≠ 4 → exec (.sserFrameStart t p) s = .next (s.passed t)) ∧
    (∀ frame, (s.dev.fbp p).frameAt = none → exec (.sserFrameEnd t p frame) s = .next (s.passed t)) ∧
    (∀ frame, (s.dev.fbp p).frameAt ≠ none → s.dev.rd (fbMode p) = 4 →
      s.dev.frameOk p (frame % 2 ^ s.dev.rd (fbSserLen p)) = false →
      s.gives (.sserFrameEnd t p frame) (fun d' => d'.rd (fbFrameErr p) = 1 ∧ bitAt (d'.rd (pageEvent (.fb p))) 5 = true ∧
        (d'.fbp p).errRun = (s.dev.fbp p).errRun + 1 ∧ (d'.fbp p).errCause = 2 ∧ (d'.fbp p).frameAt = none ∧
        (d'.fbp p).absA = (s.dev.fbp p).absA ∧
        (s.dev.rd (fbSserErrs p) + 1 < 2 ^ (fbSserErrs p).w → d'.rd (fbSserErrs p) = s.dev.rd (fbSserErrs p) + 1) ∧
        s.dev.keepsRegs d' [fbSserFrame p, fbFrameErr p, fbSserErrs p, pageEvent (.fb p), pageSticky (.fb p)])) ∧
    (∀ frame, (s.dev.fbp p).frameAt ≠ none → s.dev.rd (fbMode p) = 4 →
      bitAt (s.dev.rd (fbWire p)) 0 = false → s.dev.frameOk p (frame % 2 ^ s.dev.rd (fbSserLen p)) = true →
      s.gives (.sserFrameEnd t p frame) (fun d' => d'.rd (fbFrameErr p) = 0 ∧
        ((s.dev.fbp p).absA = none → d'.rd (fbPosValid p) = 1) ∧ (d'.fbp p).frameAt = none ∧ (d'.fbp p).errRun = 0)) ∧
    (s.dev.rd (fbSserErrLimit p) ≤ (s.dev.fbp p).errRun →
      s.gives (.sserErrLimit t p) (fun d' => ∀ n ∈ s.dev.naming p, d'.isActive 0x1603 n = true)) ∧
    (¬ s.dev.rd (fbSserErrLimit p) ≤ (s.dev.fbp p).errRun → exec (.sserErrLimit t p) s = .next (s.passed t))

/-- The estimator at rest and the latch (R239, R241, R242): without an edge for T_STILL the port is STILL, with its event, and its
estimator is empty; the selected edge captures the counter and its time once, counts, and disarms the latch, or goes on with
CONT; an edge that is not selected, that an unarmed latch does not await, or of a pair that has tripped the wire check changes nothing. -/
def Obligations.StillAndLatch : Prop :=
  ∀ (s : State) (t : Nat) (p : Fin 24), s.ready t →
    (∀ q, s.dev.rd (fbMode p) ≠ 4 → (s.dev.fbp p).lastQ = some q → s.dev.rd (fbStill p) = 0 →
      q + 20 * s.dev.rd (fbTStill p) ≤ 4 * s.when_ t →
      s.gives (.estimatorStill t p) (fun d' => d'.rd (fbStill p) = 1 ∧ d'.rd (fbEst p) = 0 ∧
        bitAt (d'.rd (pageEvent (.fb p))) 8 = true ∧ (d'.fbp p).tick = [] ∧ (d'.fbp p).prevQ = none ∧
        (d'.fbp p).lastQ = some q ∧ s.dev.keepsRegs d' [fbStill p, fbEst p, pageEvent (.fb p), pageSticky (.fb p)])) ∧
    (s.dev.rd (fbMode p) ≠ 4 → (s.dev.fbp p).lastQ = none → exec (.estimatorStill t p) s = .next (s.passed t)) ∧
    (∀ fine : Fin 4, s.dev.rd (fbLatchSrc p) = 1 → s.dev.rd (fbMode p) = 3 → s.dev.rd (fbLatchArm p) = 1 → s.dev.rd (fbLatchCont p) = 0 →
      (s.dev.fbp p).refSet = none → bitAt (s.dev.rd (fbWire p)) 0 = false →
      s.gives (.latchCapture t p fine false) (fun d' => d'.rd (fbLatchPos p) = s.dev.rd (fbPos p) % 2 ^ 64 ∧
        d'.rd (fbLatchTime p) = s.when_ t ∧ d'.rd (fbLatchArm p) = 0 ∧
        d'.rd (fbLatchCount p) = (s.dev.rd (fbLatchCount p) + 1) % 2 ^ (fbLatchCount p).w ∧
        bitAt (d'.rd (pageEvent (.fb p))) 1 = true ∧
        (s.dev.at_ t).onlyRegs d' [fbLatchPos p, fbLatchTime p, fbLatchArm p, fbLatchCount p, pageEvent (.fb p), pageSticky (.fb p)])) ∧
    (∀ (fine : Fin 4) (falling : Bool), s.dev.rd (fbLatchSrc p) = 0 ∨ (s.dev.rd (fbLatchArm p) = 0 ∧ s.dev.rd (fbLatchCont p) = 0) ∨
        bitAt (s.dev.rd (fbWire p)) (if s.dev.rd (fbMode p) = 3 then 0 else 2) = true →
      exec (.latchCapture t p fine falling) s = .next (s.passed t))

/-! ### Drive stages and currents -/

/-- Duties and windows (R107, R165, R168, R169, R177, R178, R179). The duties demanded are loaded for the tick that begins: with
no test and no dead-time compensation they are the vector itself, and the plan of its windows is open. A tick in which the bridge
has left PWM is stale: the plan is closed and the currents are held. Without an open plan, and before its last window ends, there
is nothing to deliver. -/
def Obligations.DutiesAndWindows : Prop :=
  ∀ (s : State) (t : Nat) (n : Fin 24), s.ready t →
    (∀ u v w : Nat, u ≤ 2 ^ 30 → v ≤ 2 ^ 30 → w ≤ 2 ^ 30 → s.dev.rd (drvTestEn n) = 0 → (s.dev.drvSet n).dtComp = false →
      (s.dev.ax n).newVec = some [(u : Int), v, w] →
      s.gives (.dutyLoad t n) (fun d' => d'.rd (drvDutyU n) = u ∧ d'.rd (drvDutyV n) = v ∧ d'.rd (drvDutyW n) = w ∧
        (d'.ax n).lastVec = [(u : Int), v, w] ∧ (d'.ax n).newVec = none ∧ (d'.ax n).planOpen = true ∧
        (d'.ax n).drvUse = s.dev.drvSet n ∧
        d' = { s.dev.at_ t with regs := d'.regs, axes := d'.axes, rots := d'.rots } ∧ s.dev.otherAxes d' n ∧
        (∀ f, f.pg ≠ .adc (n / 4) → f.pg ≠ .cur n → f.pg ≠ .drv n → d'.rd f = s.dev.rd f) ∧
        (s.dev.st n ≠ 7 → s.dev.keepsRegs d' [drvDutyU n, drvDutyV n, drvDutyW n, curReduced n, curShiftReq n, curShiftCount n,
          drvShiftShort n, pageEvent (.cur n), pageSticky (.cur n), pageEvent (.drv n), pageSticky (.drv n)]))) ∧
    (∀ codes, (s.dev.ax n).planOpen = true → (s.dev.ax n).wins ≠ [] → (s.dev.ax n).plan ≠ planPassive → (s.dev.ax n).planLost = true →
      (∀ w ∈ (s.dev.ax n).wins, s.dev.winTime n w.stop ≤ 4 * s.when_ t) →
      s.givesMem (.currentWindowEnd t n codes) (fun d' m' => (s.dev.rd (adcLogEn (n.val / 4)) = 0 → m' = s.mem) ∧ (d'.ax n).planOpen = false ∧ d'.rd (curPlan n) = (s.dev.ax n).plan % 2 ^ 3 ∧
        d'.rd (curStale n) = 1 ∧ d'.rd (curDirect n) = 0 ∧ d'.rd (curIU n) = s.dev.rd (curIU n) ∧
        d'.rd (curIV n) = s.dev.rd (curIV n) ∧ d'.rd (curIW n) = s.dev.rd (curIW n) ∧ s.dev.otherAxes d' n)) ∧
    ((s.dev.ax n).planOpen = false ∨ (∃ w ∈ (s.dev.ax n).wins, (4 * s.when_ t : Int) < s.dev.winTime n w.stop) →
      ∀ codes, exec (.currentWindowEnd t n codes) s = .next (s.passed t))

/-- The limits of the currents and their offsets (R166, R177, R178, R184, R185, R187): STALE_LIMIT stale ticks raise 0x1402, SUM_N
ticks with a sum in error 0x1401, both as the plan took them; an offset measurement that is due at rest starts, and one of which
every mean fits its scale ends with the means to be applied. Without the condition nothing happens. -/
def Obligations.CurrentLimits : Prop :=
  ∀ (s : State) (t : Nat) (n : Fin 24), s.ready t →
    ((s.dev.ax n).planStaleLim ≤ (s.dev.ax n).staleRun →
      s.gives (.staleLimit t n) (fun d' => d'.isActive 0x1402 n = true ∧ (s.dev.at_ t).onlyFault d' [])) ∧
    ((s.dev.ax n).staleRun < (s.dev.ax n).planStaleLim → exec (.staleLimit t n) s = .next (s.passed t)) ∧
    ((s.dev.ax n).planSumN ≤ (s.dev.ax n).sumRun →
      s.gives (.sumErrorLimit t n) (fun d' => d'.isActive 0x1401 n = true ∧ (s.dev.at_ t).onlyFault d' [])) ∧
    ((s.dev.ax n).sumRun < (s.dev.ax n).planSumN → exec (.sumErrorLimit t n) s = .next (s.passed t)) ∧
    (∀ l, (s.dev.ax n).ofsTick = some l → s.dev.rd (curOfsEn n) ≠ 0 → s.dev.rd devReady ≠ 0 → s.dev.rd (curOfsBusy n) = 0 →
      s.dev.offsetDue n = true →
      s.gives (.offsetMeasurementStart t n) (fun d' => d'.rd (curOfsBusy n) = 1 ∧ (d'.ax n).ofsCount = 1 ∧
        (d'.ax n).ofsStart = some (s.dev.rd timeTickCount) ∧ (s.dev.at_ t).onlyAxis d' n [curOfsBusy n])) ∧
    ((s.dev.ax n).ofsTick = none → exec (.offsetMeasurementStart t n) s = .next (s.passed t)) ∧
    (s.dev.rd (curOfsBusy n) ≠ 0 → s.dev.rd (curOfsN n) ≤ (s.dev.ax n).ofsCount →
      (∀ x, x < 4 → ((s.dev.ax n).ofsNum.getD x 0) ≠ 0 ∧
        50 * (divRound ((s.dev.ax n).ofsSum.getD x 0) ((s.dev.ax n).ofsNum.getD x 0)).natAbs ≤
          ([s.dev.rdS (curFsU n), s.dev.rdS (curFsV n), s.dev.rdS (curFsW n), s.dev.rdS (curFsLink n)].getD x 0).natAbs) →
      s.gives (.offsetMeasurementEnd t n) (fun d' => d'.rd (curOfsBusy n) = 0 ∧ (d'.ax n).ofsPending = false ∧
        (d'.ax n).ofsNew = some ((List.range 4).map (fun x => divRound ((s.dev.ax n).ofsSum.getD x 0) ((s.dev.ax n).ofsNum.getD x 0))) ∧
        d'.isActive 0x1123 n = false ∧ d'.isActive 0x1403 n = false ∧
        s.dev.keepsRegs d' ([curOfsBusy n, curOfsPasses n, devReady, pageEvent .dev, pageSticky .dev] ++ chronFlds) ∧
        s.dev.otherAxes d' n)) ∧
    (s.dev.rd (curOfsBusy n) = 0 → exec (.offsetMeasurementEnd t n) s = .next (s.passed t))

/-- Trips (R99, R115 to R118): a comparator that crosses, or Xn_FLT_N, latches its bit of TRIP, turns the bridge off as TRIPPED,
and raises its fault, but for a leg crossing inside the blanking that follows a switching edge of its leg; before the sixth step of start-up Xn_FLT_N only moves. A bootstrap that is low raises 0x1204 while the
axis drives; with VGD in range the bootstraps are ready once they are precharged. -/
def Obligations.Trips : Prop :=
  ∀ (s : State) (t : Nat) (n : Fin 24) (j : Fin 8) (c : Fin 4) (n16 : Fin 16) (leg : Fin 3) (phases : Fin 8) (since : Nat), s.ready t →
    s.gives (.overcurrentTrip t n phases true since) (fun d' =>
      bitAt (d'.rd (drvTrip n)) 1 = true ∧ d'.isActive 0x1202 n = true ∧
      (6 ≤ s.dev.stepsDone → d'.bridge n = 5) ∧ d'.pins = { s.dev.pins with oc := setBit s.dev.pins.oc n }) ∧
    ((∃ x ∈ bitList 3 phases, (s.dev.at_ t).crossingActs n since (s.when_ t) x = true) →
      s.gives (.overcurrentTrip t n phases false since) (fun d' =>
        bitAt (d'.rd (drvTrip n)) 0 = true ∧ d'.isActive 0x1201 n = true ∧
        (6 ≤ s.dev.stepsDone → d'.bridge n = 5) ∧ d'.pins = { s.dev.pins with oc := setBit s.dev.pins.oc n })) ∧
    (phases.val ≠ 0 → (∀ x ∈ bitList 3 phases, (s.dev.at_ t).crossingActs n since (s.when_ t) x = false) →
      exec (.overcurrentTrip t n phases false since) s =
        .next { s with dev := { s.dev.at_ t with pins := { s.dev.pins with oc := setBit s.dev.pins.oc n } } }) ∧
    (6 ≤ s.dev.stepsDone → s.gives (.xfltAssert t j) (fun d' => bitAt (d'.rd (drvTrip (16 + j))) 2 = true ∧
      d'.bridge (16 + j) = 5 ∧ d'.isActive 0x1203 (16 + j) = true ∧
      d'.pins = { s.dev.pins with xflt := setBit s.dev.pins.xflt j })) ∧
    (s.dev.stepsDone < 6 → exec (.xfltAssert t j) s =
      .next { s with dev := { s.dev.at_ t with pins := { s.dev.pins with xflt := setBit s.dev.pins.xflt j } } }) ∧
    exec (.xfltDeassert t j) s =
      .next { s with dev := { s.dev.at_ t with pins := { s.dev.pins with xflt := clearBit s.dev.pins.xflt j } } } ∧
    (s.dev.drives n16 = true → s.gives (.bootstrapLow t n16 leg) (fun d' => d'.isActive 0x1204 n16 = true ∧
      (s.dev.at_ t).onlyFault d' [])) ∧
    (s.dev.drives n16 = false → exec (.bootstrapLow t n16 leg) s = .next (s.passed t)) ∧
    (bitAt s.dev.pins.vgd c = true → s.gives (.bootstrapPrecharged t c) (fun d' => d'.rd (pwdBootReady c) = 1 ∧
      (∀ k, k < 4 → d'.ax (4 * c + k) = { s.dev.ax (4 * c + k) with bootOk := true }) ∧
      d' = { s.dev.at_ t with regs := d'.regs, axes := d'.axes } ∧ s.dev.keepsRegs d' [pwdBootReady c])) ∧
    (bitAt s.dev.pins.vgd c = false → exec (.bootstrapPrecharged t c) s = .next (s.passed t))

/-- The regulation of a brake (R121, R122, R124): a crossing of BRAKE_ILIM opens the short, counts, and is shown; the short closes
again, DRV_DEADTIME after the valley or peak, on the side of the tick whose first valley came last. Neither happens without the short it needs, or above VBUS_OV. -/
def Obligations.BrakeRegulation : Prop :=
  ∀ (s : State) (t : Nat) (n : Fin 24) (p : Fin 3), s.ready t →
    ((s.dev.at_ t).bridge n = 2 ∨ (s.dev.at_ t).bridge n = 3 → s.dev.busAbove n = false →
      s.gives (.brakeRegulation t n p) (fun d' => (d'.ax n).bridge = 4 ∧ (d'.ax n).regOpen = true ∧ (d'.ax n).regSeen = true ∧
        bitAt (d'.rd (pageEvent (.drv n))) 5 = true ∧
        (s.dev.rd (drvBrakeReg n) < 2 ^ (drvBrakeReg n).w - 1 → d'.rd (drvBrakeReg n) = s.dev.rd (drvBrakeReg n) + 1) ∧
        s.dev.otherAxes d' n)) ∧
    (¬ ((s.dev.at_ t).bridge n = 2 ∨ (s.dev.at_ t).bridge n = 3) ∨ s.dev.busAbove n = true →
      exec (.brakeRegulation t n p) s = .next (s.passed t)) ∧
    ((s.dev.ax n).regOpen = true → (s.dev.ax n).bridge = 4 → (s.dev.at_ t).bridge n = 4 →
      s.gives (.brakeReclose t n none) (fun d' =>
        (d'.ax n).bridge = (if s.dev.valleyPast n (s.when_ t) then
            s.dev.shortSide n (s.dev.rd timeTickCount) (s.dev.rd timeTickCount % 2 == 1 && (s.dev.ax n).regTick)
          else (s.dev.ax n).openSide) ∧
        (d'.ax n).regOpen = false ∧ (d'.ax n).closeAt = 4 * s.when_ t + 5 * (s.dev.ax n).drvUse.dead ∧
        (s.dev.at_ t).onlyAxis d' n [])) ∧
    (∀ b, (s.dev.ax n).regOpen = false → exec (.brakeReclose t n b) s = .next (s.passed t))

/-- The holds of the drive stages (R75, R97, R98, R100, R104, R120, R126, R536): an enable that falls is noted, and every axis under it that drives raises
0x1205; VGD out of range makes the bootstraps unready and raises 0x4204 if an axis of the die drives; a clock departure raises
0x3001. The return of each only ends the hold. While one lasts, the bridges read DISABLED unless a trip is latched. The gate outputs
of an axis float in SERVICE; otherwise both are low where the bridge neither switches nor shorts; and no leg has both switches on. -/
def Obligations.StageHolds : Prop :=
  ∀ (s : State) (t : Nat) (i : Fin 5) (c : Fin 4) (g : Fin 2), s.ready t →
    s.gives (.enableFall t i) (fun d' => d'.pins = s.dev.pins.setEnable i false ∧
      (∀ n ∈ enableAxes i, s.dev.drives n = true → d'.isActive 0x1205 n = true)) ∧
    exec (.enableRise t i) s = .next { s with dev := { s.dev.at_ t with pins := s.dev.pins.setEnable i true } } ∧
    s.gives (.vgdOutOfRange t c) (fun d' => d'.pins = { s.dev.pins with vgd := clearBit s.dev.pins.vgd c } ∧
      d'.rd (pwdBootReady c) = 0 ∧ ((enableAxes c).any s.dev.drives = true → d'.isActive 0x4204 c = true)) ∧
    exec (.vgdInRange t c) s = .next { s with dev := { s.dev.at_ t with pins := { s.dev.pins with vgd := setBit s.dev.pins.vgd c } } } ∧
    (∀ ppm, s.gives (.clockDeparture t g ppm) (fun d' => d'.isActive 0x3001 g = true ∧
      d'.pins = { s.dev.pins with depart := setBit s.dev.pins.depart g })) ∧
    exec (.clockReturn t g) s =
      .next { s with dev := { s.dev.at_ t with pins := { s.dev.pins with depart := clearBit s.dev.pins.depart g } } } ∧
    (∀ n, s.dev.held n = true → 6 ≤ s.dev.stepsDone → s.dev.rd (drvTrip n) = 0 → s.dev.bridge n = 6) ∧
    (∀ n x q, (s.dev.st n = 7 → s.dev.gates n x q = (.floating, .floating)) ∧
      (s.dev.st n ≠ 7 → s.dev.bridge n = 0 ∨ 4 ≤ s.dev.bridge n → s.dev.gates n x q = (.low, .low)) ∧
      s.dev.gates n x q ≠ (.high, .high))

/-- The supervision of buses and temperatures (R108, R126, R537): two ticks out of range with an axis that drives, two readings
above the limit of a die or of the package, and four ticks without a bus value raise their faults; short of that only
what is counted changes. -/
def Obligations.BusAndTemperature : Prop :=
  ∀ (s : State) (t : Nat), s.ready t →
    (∀ u : Fin 12, u.val < 4 → 2 ≤ (s.dev.bank u).busOut → (enableAxes u).any s.dev.drives = true →
      s.gives (.busOutOfRange t u) (fun d' => d'.isActive (if s.dev.busAbove (4 * u) then 0x4202 else 0x4201) u = true ∧
        (s.dev.at_ t).onlyFault d' [])) ∧
    (∀ u : Fin 12, 4 ≤ u.val → 2 ≤ (s.dev.ax (12 + u)).busOut → s.dev.drives (12 + u) = true →
      s.gives (.busOutOfRange t u) (fun d' => d'.isActive 0x1207 (12 + u) = true ∧ (s.dev.at_ t).onlyFault d' [])) ∧
    (∀ u : Fin 12, (u.val < 4 → (s.dev.bank u).busOut < 2) → (4 ≤ u.val → (s.dev.ax (12 + u)).busOut < 2) →
      exec (.busOutOfRange t u) s = .next (s.passed t)) ∧
    (∀ c : Fin 4, (∃ j, j < 5 ∧ 2 ≤ (s.dev.bank c).hot.getD j 0) →
      s.gives (.dieOverTemperature t c) (fun d' => d'.isActive 0x4203 c = true ∧ (s.dev.at_ t).onlyFault d' [])) ∧
    (∀ c : Fin 4, (∀ j, j < 5 → (s.dev.bank c).hot.getD j 0 < 2) → exec (.dieOverTemperature t c) s = .next (s.passed t)) ∧
    (∀ n : Fin 24, 4 ≤ (s.dev.ax n).busStale → s.dev.drives n = true →
      s.gives (.vbusStaleLimit t n) (fun d' => d'.isActive 0x1206 n = true ∧ (s.dev.at_ t).onlyFault d' [])) ∧
    (∀ n : Fin 24, (s.dev.ax n).busStale < 4 ∨ s.dev.drives n = false → exec (.vbusStaleLimit t n) s = .next (s.passed t)) ∧
    (∀ v, s.dev.rdS fltPkgTrip < signedOf 16 v → 1 ≤ s.dev.pkgHot →
      s.gives (.packageTempRead t v) (fun d' => d'.rd fltPkgTemp = v % 2 ^ 16 ∧ d'.isActive 0x5001 0 = true)) ∧
    (∀ v, signedOf 16 v ≤ s.dev.rdS fltPkgTrip →
      s.gives (.packageTempRead t v) (fun d' => d'.rd fltPkgTemp = v % 2 ^ 16 ∧ d'.pkgHot = 0 ∧
        d' = { s.dev.at_ t with regs := d'.regs, pkgHot := 0 } ∧ s.dev.keepsRegs d' [fltPkgTemp]))

/-! ### Converter banks -/

/-- Injected conversions and passes (R137, R140 to R144, R146, R151, R153). INJ_GO makes pending each slot of its mask whose trigger is
SOFTWARE and that is free, with the channel, gain and sampling time of its configuration; a conversion that the
rotation has made, once it has ended, frees its slot and leaves its record and the time of its start; a pass begins unless one runs,
which counts as dropped, its entries wait for the rotation, and it ends with its event. A log
that is off stores nothing, and one that is on stores at most the eight bytes at its next place. -/
def Obligations.InjectionsAndPasses : Prop :=
  ∀ (s : State) (t : Nat) (r : Req) (c : Fin 6), s.ready t → Memory.wf s.mem = true →
    (∀ mask, s.dev.reaches r = true → s.gives (.injGo t r c mask) (fun d' => (∀ i, i < 8 → tabGet (d'.bank c).inj i =
        if s.dev.rd (adcInjCfgTrig c i) = 1 ∧ bitAt mask i = true ∧ tabGet (s.dev.bank c).inj i = none then
          some { at_ := s.when_ t, gain := s.dev.rd (adcInjCfgGain c i), ts := s.dev.rd (adcInjCfgTs c i),
                 chan := if s.dev.rd (adcInjCfgChan c i) = chanAuto then s.dev.injLinkChan c i else s.dev.rd (adcInjCfgChan c i) }
        else tabGet (s.dev.bank c).inj i) ∧
      d' = { s.taken r (.adc c) 0x1E0 t with regs := d'.regs, adc := d'.adc } ∧ (∀ b : Nat, b ≠ c → d'.bank b = s.dev.bank b) ∧
      s.dev.keepsRegs d' [adcInjLost c, pageEvent (.adc c), pageSticky (.adc c)])) ∧
    (∀ (i : Fin 8) (code : Nat) (v : Conv), ((s.dev.at_ t).convs c (· == .inject i)).head? = some v → v.stop ≤ 4 * s.when_ t →
      s.givesMem (.injectionComplete t c i code) (fun d' m' => tabGet (d'.bank c).inj i = none ∧
        d'.rd (adcInjRes c i) =
          record true false false (s.dev.xchk c) v.slice (0x80 + i) (4 * s.dev.corrected c (v.slice, code)) % 2 ^ 32 ∧
        d'.rd (adcInjTime c i) = v.start / 4 % 2 ^ 64 ∧ d'.convs c (· == .inject i) = [] ∧ bitAt (d'.rd (pageEvent (.adc c))) 2 = true ∧
        keepsBytes s.mem m' (s.dev.logSlot c) 8 ∧ (s.dev.rd (adcLogEn c) = 0 → m' = s.mem) ∧
        (∀ b : Nat, b ≠ c → d'.bank b = s.dev.bank b) ∧
        ∀ f, f.pg.logSide c = false → d'.rd f = s.dev.rd f)) ∧
    (∀ (i : Fin 8) (code : Nat), (∀ v ∈ (s.dev.at_ t).convs c (· == .inject i), 4 * s.when_ t < v.stop) →
      exec (.injectionComplete t c i code) s = .next (s.passed t)) ∧
    (s.dev.reaches r = true → s.dev.rd (adcSeqTrig c) = 1 → s.dev.rd (adcSeqLen c) ≠ 0 → (s.dev.bank c).pass = none →
      s.gives (.seqGo t r c) (fun d' => d'.bank c = { s.dev.bank c with pass := some (s.dev.rd (adcSeqLen c)) } ∧
        d'.rot c = { (s.dev.at_ t).rot c with entries := List.range (s.dev.rd (adcSeqLen c)) } ∧
        d' = { s.taken r (.adc c) 0x060 t with adc := d'.adc, rots := d'.rots } ∧ ∀ b : Nat, b ≠ c → d'.bank b = s.dev.bank b)) ∧
    (s.dev.reaches r = true → s.dev.rd (adcSeqTrig c) = 1 → s.dev.rd (adcSeqLen c) ≠ 0 → (s.dev.bank c).pass ≠ none →
      s.gives (.seqGo t r c) (fun d' => bitAt (d'.rd (pageEvent (.adc c))) 6 = true ∧
        (s.taken r (.adc c) 0x060 t).onlyRegs d' [adcSeqDrop c, pageEvent (.adc c), pageSticky (.adc c)])) ∧
    (s.dev.reaches r = true → s.dev.rd (adcSeqTrig c) ≠ 1 ∨ s.dev.rd (adcSeqLen c) = 0 →
      exec (.seqGo t r c) s = .next { s with dev := s.taken r (.adc c) 0x060 t }) ∧
    (∀ (x : Nat) (xs : List Nat) (v : Conv), (s.dev.bank c).pass = some 1 → tabGet (s.dev.bank c).entries 0 = none →
      (s.dev.at_ t).passConvs c 1 = [v] → v.stop ≤ 4 * s.when_ t → v.filt.1 = 0 → v.was = none → s.dev.rd (adcWcEn c 0) = 0 →
      s.givesMem (.sequencePassEnd t c (x :: xs)) (fun d' m' => (d'.bank c).pass = none ∧
        bitAt (d'.rd (pageEvent (.adc c))) 3 = true ∧ (s.dev.rd (adcLogEn c) = 0 → m' = s.mem) ∧
        keepsBytes s.mem m' (s.dev.logSlot c) 8 ∧
        d'.rd (adcRes c 0) = record true false false (s.dev.xchk c) v.slice 0 (4 * s.dev.corrected c (v.slice, x)) % 2 ^ 32)) ∧
    (∀ xs, (s.dev.bank c).pass = none → exec (.sequencePassEnd t c xs) s = .next (s.passed t))

/-- The supervision scan and the cross-check (R107, R149, R154, R155, R156): a scan begins when it is due and ends with the
bus and the gate supply it measured; in start-up step 3 the first one finds slices 0 to 3 active (the model's reading, log entry 28);
one that is not finished in time raises 0x2304, once. A cross-check that is due leaves its
four means, and raises 0x2301 on both banks, with the mismatch shown until it is cleared, where a pair differs by more than
the tolerance. -/
def Obligations.ScansAndCrossChecks : Prop :=
  ∀ (s : State) (t : Nat) (r : Req) (c : Fin 6) (p : Fin 3), s.ready t →
    (2 ≤ s.dev.stepsDone → (s.dev.bank c).scan = none → (∀ t0, (s.dev.bank c).scanLast = some t0 → t0 + 100000 ≤ s.when_ t) →
      s.when_ t = s.dev.tickStart →
      s.gives (.supervisionScan t c) (fun d' => (s.dev.stepsDone = 2 ∧ s.dev.activeSlices c = [] →
        d'.bank c = { s.dev.bank c with scan := some (s.when_ t), scanLast := some (s.when_ t), scanLate := false } ∧
        (d'.rot c).scan = List.range (scanChannels c).length ∧ d'.rd (adcActive c) = 15 ∧ d'.rd (adcSpare c) = 4)) ∧
      s.gives (.supervisionScan t c) (fun d' => ¬(s.dev.stepsDone = 2 ∧ s.dev.activeSlices c = []) →
        d'.bank c = { s.dev.bank c with scan := some (s.when_ t), scanLast := some (s.when_ t), scanLate := false } ∧
        d'.rot c = { (s.dev.at_ t).rot c with scan := List.range (scanChannels c).length } ∧
        d' = { s.dev.at_ t with adc := d'.adc, rots := d'.rots } ∧ ∀ b : Nat, b ≠ c → d'.bank b = s.dev.bank b)) ∧
    ((s.dev.bank c).scan ≠ none ∨ s.when_ t ≠ s.dev.tickStart → exec (.supervisionScan t c) s = .next (s.passed t)) ∧
    (∀ codes temps l, (s.dev.bank c).scan ≠ none → c.val < 4 → l = (s.dev.at_ t).convs c Job.ofScan → l.length = 7 →
      (∀ v ∈ l, v.stop ≤ 4 * s.when_ t) →
      s.givesMem (.supervisionScanEnd t c codes temps) (fun d' m' => (d'.bank c).scan = none ∧ (d'.bank c).scanned = true ∧
        (∀ v, l[0]? = some v → d'.rd (pwdVbus c) = (s.dev.corrected c (v.slice, codes.getD 0 0)).toNat * 576 % 2 ^ 32) ∧
        (∀ v, l[1]? = some v → d'.rd (pwdVgd c) = (s.dev.corrected c (v.slice, codes.getD 1 0)).toNat * 144 % 2 ^ (pwdVgd c).w) ∧
        (∀ j, j < 5 → d'.rd (pwdTemp c j) = temps.getD j 0 % 2 ^ 16) ∧ (s.dev.rd (adcLogEn c) = 0 → m' = s.mem))) ∧
    (∀ codes temps, (s.dev.bank c).scan = none → exec (.supervisionScanEnd t c codes temps) s = .next (s.passed t)) ∧
    (∀ t0, (s.dev.bank c).scan = some t0 → t0 + 1000000 ≤ s.when_ t → (s.dev.bank c).scanLate = false →
      s.gives (.supervisionScanLate t c) (fun d' => d'.isActive 0x2304 c = true ∧ d'.bank c = { s.dev.bank c with scanLate := true })) ∧
    ((s.dev.bank c).scan = none → exec (.supervisionScanLate t c) s = .next (s.passed t)) ∧
    (∀ codesE codesO le lo, bitAt s.dev.xckDue p = true →
      samplesOf ((s.dev.at_ t).convs (2 * p) Job.ofCross) codesE = le → samplesOf ((s.dev.at_ t).convs (2 * p + 1) Job.ofCross) codesO = lo →
      8 ≤ le.length → 8 ≤ lo.length → (∀ x ∈ le ++ lo, x.1.stop ≤ 4 * s.when_ t) →
      s.givesMem (.crossCheckEvaluate t p codesE codesO) (fun d' m' =>
        d'.rdS (xckDacEven p) = signedOf (xckDacEven p).w (wrapTo (xckDacEven p).w (s.dev.meanOf (2 * p) le 0)) ∧
        d'.rdS (xckDacOdd p) = signedOf (xckDacOdd p).w (wrapTo (xckDacOdd p).w (s.dev.meanOf (2 * p + 1) lo 0)) ∧
        d'.xckDue = clearBit s.dev.xckDue p ∧
        (4 * s.dev.rd (xckXchkTol p) < (s.dev.meanOf (2 * p) le 0 - s.dev.meanOf (2 * p + 1) lo 0).natAbs →
          d'.rd (xckMismatch p) = 1 ∧ d'.isActive 0x2301 (2 * p) = true ∧ d'.isActive 0x2301 (2 * p + 1) = true) ∧
        ((s.dev.meanOf (2 * p) le 0 - s.dev.meanOf (2 * p + 1) lo 0).natAbs ≤ 4 * s.dev.rd (xckXchkTol p) →
          (s.dev.meanOf (2 * p) le 4 - s.dev.meanOf (2 * p + 1) lo 4).natAbs ≤ 4 * s.dev.rd (xckXchkTol p) →
          d'.active = s.dev.active ∧ d'.rd (xckMismatch p) = s.dev.rd (xckMismatch p)) ∧
        (s.dev.rd (adcLogEn (2 * p)) = 0 → s.dev.rd (adcLogEn (2 * p + 1)) = 0 → m' = s.mem))) ∧
    (∀ codesE codesO, bitAt s.dev.xckDue p = false → exec (.crossCheckEvaluate t p codesE codesO) s = .next (s.passed t)) ∧
    (s.dev.reaches r = true → s.gives (.xckClear t r p) (fun d' => d'.rd (xckMismatch p) = 0 ∧
      (s.taken r (.xck p) 0x070 t).onlyRegs d' [xckMismatch p]))

/-- Calibrations of the slices (R130 to R133, R150, R159, R160): those that pass take effect: on every active slice for a
foreground calibration, on the spare, which then changes places, for the background one, on a retired slice that is tried again
and works once more, and on all five when the bank leaves low power. Nothing happens where none was asked for. -/
def Obligations.Calibrations : Prop :=
  ∀ (s : State) (t : Nat) (r : Req) (c : Fin 6), s.ready t →
    (s.dev.reaches r = true → s.dev.rd (adcFgcalBusy c) = 0 → s.gives (.fgcal t r c) (fun d' => d'.rd (adcFgcalBusy c) = 1 ∧
      (d'.rot c).steps = (s.dev.activeSlices c).map (fun k => (k, 192)) ∧
      d' = { s.taken r (.adc c) 0x044 t with regs := d'.regs, rots := d'.rots } ∧ s.dev.keepsRegs d' [adcFgcalBusy c])) ∧
    (s.dev.reaches r = true → s.dev.rd (adcFgcalBusy c) ≠ 0 →
      exec (.fgcal t r c) s = .next { s with dev := s.taken r (.adc c) 0x044 t }) ∧
    (∀ ks, s.dev.rd (adcFgcalBusy c) ≠ 0 → s.dev.rd (adcRetired c) = 0 →
      ((s.dev.at_ t).rot c).steps.all (fun x => x.2 == 0) = true →
      ((s.dev.at_ t).rot c).runs.all (fun v => v.2.job != .step || decide (v.2.stop ≤ 4 * s.when_ t)) = true → (∀ k, k < 5 → (ks.getD k ⟨0, 0, 0⟩).pass = true) →
      s.gives (.fgcalEnd t c ks) (fun d' => d'.rd (adcFgcalBusy c) = 0 ∧
        (∀ k, k < 5 → bitAt (s.dev.rd (adcActive c)) k = true → (tabGet ((s.dev.at_ t).rot c).steps k).isSome = true → d'.rdS (adcSliceOffset c k) = (ks.getD k ⟨0, 0, 0⟩).offset ∧
          d'.rd (adcSliceGain c k) = (ks.getD k ⟨0, 0, 0⟩).gain ∧ d'.rdS (adcSliceSkew c k) = (ks.getD k ⟨0, 0, 0⟩).skew) ∧
        d' = { s.dev.at_ t with regs := d'.regs, rots := d'.rots } ∧ (d'.rot c).steps = [] ∧
        s.dev.keepsRegs d' (adcFgcalBusy c :: (List.range 5).flatMap (fun k => [adcSliceOffset c k, adcSliceGain c k, adcSliceSkew c k])))) ∧
    (∀ ks, s.dev.rd (adcFgcalBusy c) = 0 ∨ ((s.dev.at_ t).rot c).steps.any (fun x => x.2 != 0) = true → exec (.fgcalEnd t c ks) s = .next (s.passed t)) ∧
    (∀ k : Coef, s.dev.rd (adcMode c) = 0 → s.dev.rd (adcSpare c) < 5 → s.dev.rd (adcBgEn c) ≠ 0 → 6 ≤ s.dev.stepsDone → k.pass = true →
      s.gives (.backgroundCalibrationEnd t c k) (fun d' => d'.rdS (adcSliceOffset c (s.dev.rd (adcSpare c))) = k.offset ∧
        d'.rd (adcSliceGain c (s.dev.rd (adcSpare c))) = k.gain ∧ d'.rdS (adcSliceSkew c (s.dev.rd (adcSpare c))) = k.skew ∧
        d'.rd (adcSpare c) = (s.dev.rd (adcSpare c) + 1) % 5 ∧ bitAt (d'.rd (adcActive c)) (s.dev.rd (adcSpare c)) = true ∧
        d'.rd (adcRotCount c) = (s.dev.rd (adcRotCount c) + 1) % 2 ^ 32)) ∧
    (∀ k : Coef, s.dev.rd (adcMode c) ≠ 0 ∨ s.dev.stepsDone < 6 → exec (.backgroundCalibrationEnd t c k) s = .next (s.passed t)) ∧
    (∀ (i : Fin 5) (k : Coef), bitAt (s.dev.rd (adcRetired c)) i = true → s.dev.rd (adcBgEn c) ≠ 0 →
      (s.dev.bank c).retryAt.getD i 0 ≤ s.when_ t → s.dev.rd (adcMode c) < 4 → k.pass = true →
      s.gives (.sliceRetry t c i k) (fun d' => bitAt (d'.rd (adcRetired c)) i = false ∧ d'.rdS (adcSliceOffset c i) = k.offset ∧
        d'.rd (adcSliceGain c i) = k.gain ∧ d'.rdS (adcSliceSkew c i) = k.skew)) ∧
    (∀ (i : Fin 5) (k : Coef), bitAt (s.dev.rd (adcRetired c)) i = false → exec (.sliceRetry t c i k) s = .next (s.passed t)) ∧
    (∀ ks, s.dev.rd (adcMode c) = 5 → (∀ k, k < 5 → (ks.getD k ⟨0, 0, 0⟩).pass = true) →
      s.gives (.restoreEnd t c ks) (fun d' => d'.rd (adcMode c) = 0 ∧
        ∀ k, k < 5 → bitAt (d'.rd (adcRetired c)) k = false ∧ d'.rdS (adcSliceOffset c k) = (ks.getD k ⟨0, 0, 0⟩).offset ∧
          d'.rd (adcSliceGain c k) = (ks.getD k ⟨0, 0, 0⟩).gain)) ∧
    (∀ ks, s.dev.rd (adcMode c) ≠ 5 → exec (.restoreEnd t c ks) s = .next (s.passed t))

/-! ### Lanes -/

/-- The program lanes (R28, R39, R40, R277, R289, R355, R378, R379). The current lane starts its head unless the deadline is past;
the global lane takes the programs that are due; a run that ends in time clears its count of overruns, one that does not is an
overrun, as is one that its deadline meets; OVR_LIMIT overruns raise 0x1803. For slots without a custom program. -/
def Obligations.Lanes : Prop :=
  ∀ (s : State) (t : Nat), s.ready t → (∀ n k, (s.dev.slot n k).id ≠ 0x8000) →
    (∀ (c : Fin 6) (n k : Nat) (q : List (Nat × Nat)), (s.dev.lane c).queue = (n, k) :: q → (s.dev.lane c).started = none →
      4 * s.when_ t < s.dev.deadline n 0 → n < 24 →
      s.gives (.curProgramStart t c []) (fun d' => d'.lane c = { s.dev.lane c with started := some (s.when_ t) } ∧
        (d'.ax n).curRun = 1 ∧ s.dev.otherAxes d' n ∧ d' = { s.dev.at_ t with lanes := d'.lanes, axes := d'.axes })) ∧
    (∀ (c : Fin 6) errs, (s.dev.lane c).queue = [] → exec (.curProgramStart t c errs) s = .next (s.passed t)) ∧
    (∀ g : Fin 2, s.gives (.globalLaneStart t g []) (fun d' =>
      (∀ n k, (n, k) ∈ (d'.lane (6 + g)).queue ↔ n ∈ laneAxes (6 + g) ∧ (k = 1 ∨ k = 2 ∨ k = 3) ∧
        s.dev.slotRuns n k (s.dev.rd timeTickCount) = true) ∧
      ((d'.lane (6 + g)).queue ≠ [] → (d'.lane (6 + g)).started = some (s.when_ t)) ∧ d' = { s.dev.at_ t with lanes := d'.lanes })) ∧
    (∀ (l : Fin 8) (n k t0 : Nat) (q : List (Nat × Nat)) (stalls : Nat), (s.dev.lane l).queue = (n, k) :: q → (s.dev.lane l).started = some t0 →
      n < 24 → k < 4 → 4 * s.when_ t ≤ s.dev.deadline n k →
      s.givesMem (.programEnd t l stalls) (fun d' _ => (d'.ax n).ovrRun.getD k 0 = 0 ∧ (k = 0 → (s.dev.ax n).curKeep = none → (d'.ax n).curRun = 2))) ∧
    (∀ (l : Fin 8) (n k t0 : Nat) (q : List (Nat × Nat)) (stalls : Nat), (s.dev.lane l).queue = (n, k) :: q → (s.dev.lane l).started = some t0 →
      n < 24 → k < 4 → s.dev.deadline n k < 4 * s.when_ t →
      s.gives (.programEnd t l stalls) (fun d' => (d'.lane l).queue = q ∧ bitAt (d'.rd (pageEvent (.sup n))) k = true ∧
        bitAt (d'.rd (pageEvent (lanePage (laneOf n k)))) 1 = true)) ∧
    (∀ (l : Fin 8) stalls, (s.dev.lane l).queue = [] → exec (.programEnd t l stalls) s = .next (s.passed t)) ∧
    (∀ n : Fin 24, (s.dev.ax n).curRun ≠ 2 → s.dev.runsPrograms n = true → (s.dev.slot n 0).id ≠ 0 →
      s.gives (.curDeadline t n) (fun d' => (d'.ax n).curRun = (if (s.dev.ax n).curKeep.isSome then 0 else 2) ∧ (∀ p ∈ (d'.lane (n.val / 4)).queue, p.1 ≠ n) ∧
        bitAt (d'.rd (pageEvent (.sup n))) 0 = true ∧ s.dev.otherAxes d' n)) ∧
    (∀ n : Fin 24, (s.dev.ax n).curRun = 2 ∨ s.dev.runsPrograms n = false → exec (.curDeadline t n) s = .next (s.passed t)) ∧
    (∀ g : Fin 2, s.gives (.globalLaneDeadline t g) (fun d' => (d'.lane (6 + g)).queue = [] ∧ (d'.lane (6 + g)).started = none ∧
      ∀ p ∈ (s.dev.lane (6 + g)).queue, p.1 < 24 → p.2 < 4 → bitAt (d'.rd (pageEvent (.sup p.1))) p.2 = true)) ∧
    (∀ (n : Fin 24) (k : Fin 4), s.dev.rd (supOvrLimit n) ≤ (s.dev.ax n).ovrRun.getD k 0 →
      s.gives (.overrunLimit t n k) (fun d' => d'.isActive 0x1803 n = true ∧ (s.dev.at_ t).onlyFault d' [])) ∧
    (∀ (n : Fin 24) (k : Fin 4), (s.dev.ax n).ovrRun.getD k 0 < s.dev.rd (supOvrLimit n) →
      exec (.overrunLimit t n k) s = .next (s.passed t))

/-! ### Supervision, observer and curve -/

/-- The supervision of an axis (R196, R284, R286, R287, R290, R297, R298): each limit that has been passed for its time raises its
fault with the event of its page, and a stop that is held long enough ends in ARMED with the bridge off, or, when it takes
longer than STOP_TMAX, in the fault 0x1804. Short of a limit nothing happens. -/
def Obligations.AxisSupervision : Prop :=
  ∀ (s : State) (t : Nat) (n : Fin 24), s.ready t →
    (s.dev.rd (focErrN n) ≤ (s.dev.ax n).trackRun → s.gives (.trackingError t n) (fun d' =>
      d'.isActive 0x1501 n = true ∧ bitAt (d'.rd (pageEvent (.foc n))) 6 = true ∧
      (s.dev.at_ t).onlyFault d' [pageEvent (.foc n), pageSticky (.foc n)])) ∧
    ((s.dev.ax n).trackRun < s.dev.rd (focErrN n) → exec (.trackingError t n) s = .next (s.passed t)) ∧
    (s.dev.rd (supFeTime n) ≤ s.dev.rd (supFeRun n) → s.dev.rd (supFeLimit n) ≠ 0 → s.gives (.followingError t n) (fun d' =>
      d'.isActive 0x1801 n = true ∧ bitAt (d'.rd (pageEvent (.sup n))) 4 = true ∧
      (s.dev.at_ t).onlyFault d' [pageEvent (.sup n), pageSticky (.sup n)])) ∧
    (s.dev.rd (supFeRun n) < s.dev.rd (supFeTime n) ∨ s.dev.rd (supFeLimit n) = 0 →
      exec (.followingError t n) s = .next (s.passed t)) ∧
    (s.dev.rd (supFrzT n) ≤ (s.dev.ax n).frzComm ∨ s.dev.rd (supFrzT n) ≤ (s.dev.ax n).frzPos →
      s.gives (.feedbackFreeze t n) (fun d' => d'.isActive 0x1802 n = true ∧ bitAt (d'.rd (pageEvent (.sup n))) 5 = true)) ∧
    ((s.dev.ax n).frzComm < s.dev.rd (supFrzT n) → (s.dev.ax n).frzPos < s.dev.rd (supFrzT n) →
      exec (.feedbackFreeze t n) s = .next (s.passed t)) ∧
    (2 ≤ (s.dev.ax n).speedRun → s.gives (.overspeed t n) (fun d' =>
      d'.isActive 0x1805 n = true ∧ bitAt (d'.rd (pageEvent (.sup n))) 8 = true ∧
      (s.dev.at_ t).onlyFault d' [pageEvent (.sup n), pageSticky (.sup n)])) ∧
    ((s.dev.ax n).speedRun < 2 → exec (.overspeed t n) s = .next (s.passed t)) ∧
    (s.dev.st n = 5 → s.dev.angleSrc n ≠ 1 → s.dev.angleSrc n ≠ 2 → s.dev.rd (supStopHold n) ≤ (s.dev.ax n).stopRun →
      (s.dev.ax n).toFault = false → (s.dev.ax n).toFrozen = false → s.gives (.stopEnd t n) (fun d' =>
        d'.st n = 1 ∧ (d'.ax n).bridge = 0 ∧ d'.rd (axbStateTime n) = s.when_ t ∧ d'.active = s.dev.active ∧ s.dev.otherAxes d' n)) ∧
    (s.dev.st n ≠ 5 → exec (.stopEnd t n) s = .next (s.passed t)) ∧
    (s.dev.st n = 5 → (s.dev.ax n).stopAt + s.dev.rd (supStopTmax n) * 1000000 ≤ s.when_ t → s.gives (.stopTimeout t n) (fun d' =>
      d'.isActive 0x1804 n = true ∧ bitAt (d'.rd (pageEvent (.sup n))) 7 = true ∧
      (s.dev.at_ t).onlyFault d' [pageEvent (.sup n), pageSticky (.sup n)])) ∧
    (s.dev.st n ≠ 5 ∨ s.when_ t < (s.dev.ax n).stopAt + s.dev.rd (supStopTmax n) * 1000000 →
      exec (.stopTimeout t n) s = .next (s.passed t))

/-- The phases of the observer (R253 to R264, R288): ALIGN, POLARITY and the blend go on to the next phase when their time or their
count is reached; a hand-over that takes too long raises 0x1703; a loss of lock turns the bridge off and prepares a catch, and
raises 0x1701 once the retries are used up; a catch that is measured leaves its outcome; a fallback that is possible goes
to TRACK at the boundary after the fault, from the snapshot kept with it. Otherwise nothing happens. -/
def Obligations.ObserverPhases : Prop :=
  ∀ (s : State) (t : Nat) (n : Fin 24), s.ready t →
    (s.dev.phase n = 2 → (s.dev.ax n).phaseAt + ms (s.dev.rd (obsAlignT n)) ≤ s.when_ t → s.gives (.alignEnd t n) (fun d' =>
      d'.phase n = (if s.dev.angleSrc n = 2 then 8 else 3) ∧ d'.rd (obsFF n) = 0 ∧ (d'.ax n).phaseAt = s.when_ t ∧
      (s.dev.at_ t).onlyAxis d' n [obsPhase n, obsFF n])) ∧
    (s.dev.phase n ≠ 2 → exec (.alignEnd t n) s = .next (s.passed t)) ∧
    (∀ a b, s.dev.phase n = 4 → (s.dev.ax n).phaseAt + ms 4 ≤ s.when_ t → (s.dev.ax n).polRise = [(a, 1), (b, 1)] → 0 < a + b →
      max a b ≤ 20 * (max a b - min a b) → s.gives (.polarityEnd t n) (fun d' =>
        d'.phase n = 5 ∧ (d'.ax n).thH = (if b ≤ a then 0 else 2 ^ 31) ∧ (s.dev.at_ t).onlyAxis d' n [obsPhase n])) ∧
    (s.dev.phase n = 4 → (s.dev.ax n).phaseAt + ms 4 ≤ s.when_ t → (s.dev.ax n).polRise = [] →
      s.gives (.polarityEnd t n) (fun d' => d'.isActive 0x1705 n = true ∧ (s.dev.at_ t).onlyFault d' [])) ∧
    (s.dev.phase n ≠ 4 → exec (.polarityEnd t n) s = .next (s.passed t)) ∧
    (s.dev.phase n = 3 ∨ s.dev.phase n = 5 → 8 ≤ (s.dev.ax n).agreeRun → s.gives (.blendStart t n) (fun d' =>
      d'.phase n = 6 ∧ d'.rd (obsBlend n) = 0 ∧ (d'.ax n).blendHfi = decide (s.dev.phase n = 5) ∧ (d'.ax n).blendAt = s.dev.nextTick ∧
      (s.dev.at_ t).onlyAxis d' n [obsPhase n, obsBlend n])) ∧
    ((s.dev.ax n).agreeRun < 8 → exec (.blendStart t n) s = .next (s.passed t)) ∧
    (∀ a, s.dev.phase n = 3 ∨ s.dev.phase n = 5 → (s.dev.ax n).handAt = some a → a + ms (s.dev.rd (obsHandTmax n)) ≤ s.when_ t →
      s.gives (.handTimeout t n) (fun d' => d'.isActive 0x1703 n = true ∧ (s.dev.at_ t).onlyFault d' [])) ∧
    (s.dev.phase n ≠ 3 → s.dev.phase n ≠ 5 → s.dev.phase n ≠ 6 → exec (.handTimeout t n) s = .next (s.passed t)) ∧
    (s.dev.phase n = 6 → 2 ^ 30 ≤ s.dev.rd (obsBlend n) → s.gives (.blendEnd t n) (fun d' =>
      d'.phase n = 7 ∧ bitAt (d'.rd (pageEvent (.obs n))) 2 = true ∧ (d'.ax n).trackTicks = 0 ∧
      (s.dev.at_ t).onlyAxis d' n [obsPhase n, pageEvent (.obs n), pageSticky (.obs n)])) ∧
    (s.dev.phase n ≠ 6 → exec (.blendEnd t n) s = .next (s.passed t)) ∧
    (s.dev.phase n = 7 → s.dev.moves n = true → s.dev.rd (obsLossN n) ≤ (s.dev.ax n).lossRun →
      s.dev.rd (obsCatchRetry n) ≤ s.dev.rd (obsRetries n) → s.gives (.lossOfLock t n) (fun d' => d'.isActive 0x1701 n = true)) ∧
    (s.dev.phase n = 7 → s.dev.st n = 2 → s.dev.rd (obsLossN n) ≤ (s.dev.ax n).lossRun →
      s.dev.rd (obsRetries n) < s.dev.rd (obsCatchRetry n) → s.gives (.lossOfLock t n) (fun d' =>
        (d'.ax n).bridge = 0 ∧ (d'.ax n).nextState = some (stCatch, 1, causeInternal) ∧
        bitAt (d'.rd (pageEvent (.obs n))) 3 = true ∧
        (s.dev.at_ t).onlyAxisNoted d' n [obsRetries n, obsLosses n, pageEvent (.obs n), pageSticky (.obs n)])) ∧
    (s.dev.phase n ≠ 7 → exec (.lossOfLock t n) s = .next (s.passed t)) ∧
    (s.dev.phase n = 7 → s.dev.rd (obsRetryClr n) ≤ (s.dev.ax n).trackTicks → s.gives (.retriesClear t n) (fun d' =>
      d'.rd (obsRetries n) = 0 ∧ (s.dev.at_ t).onlyRegs d' [obsRetries n])) ∧
    (s.dev.phase n ≠ 7 → exec (.retriesClear t n) s = .next (s.passed t)) ∧
    (s.dev.st n = 3 → s.dev.phase n = 1 → (s.dev.ax n).nextState = none → s.dev.measured n (s.when_ t) = true →
      s.gives (.catchMeasureEnd t n) (fun d' => (d'.ax n).nextState.isSome = true ∧
        bitAt (d'.rd (pageEvent (.obs n))) 1 = true ∧
        ((97 * s.dev.vBus n : Int) ≤ 100 * (catchOf (s.dev.ax n).samples).span → d'.isActive 0x1702 n = true) ∧
        (100 * (catchOf (s.dev.ax n).samples).span < (97 * s.dev.vBus n : Int) →
          ((catchOf (s.dev.ax n).samples).w.natAbs : Int) < s.dev.rdS (obsCatchVmin n) → d'.rd (obsOutcome n) = 3))) ∧
    (s.dev.st n ≠ 3 ∨ s.dev.phase n ≠ 1 → exec (.catchMeasureEnd t n) s = .next (s.passed t)) ∧
    (∀ f : Fallback, (s.dev.ax n).fallDue = some f → f.at_ < s.dev.tickStart ∨ s.dev.nextTick ≤ s.when_ t → s.dev.moves n = true →
      s.dev.canFallBack n f = true → f.own < 2 → s.dev.mode n < 3 →
      s.gives (.observerFallback t n) (fun d' => d'.phase n = 7 ∧ d'.rd (axbFallback n) = 1 ∧ d'.st n = s.dev.st n ∧
        bitAt (d'.rd (pageEvent (.sup n))) 6 = true ∧ (d'.ax n).fallDue = none ∧
        (∃ ea eb, (d'.ax n).sync = some (f.theta, f.wE, f.time, ea, eb)))) ∧
    (∀ f : Fallback, (s.dev.ax n).fallDue = some f → s.dev.tickStart ≤ f.at_ → s.when_ t < s.dev.nextTick →
      exec (.observerFallback t n) s = .next (s.passed t)) ∧
    ((s.dev.ax n).fallDue = none → exec (.observerFallback t n) s = .next (s.passed t))

/-- The ends of a brake and the curve (R266 to R268, R326, R329, R334): a brake that stands still ends by its purpose, at once for
a start or a reversal, after BRAKE_HOLD for a stop; a still brake after its time; one that takes too long raises 0x1704. A curve
input that is stale raises 0x1903 with no speed wanted; a value written for a curve is its input where its source is NETWORK. -/
def Obligations.BrakeEndsAndCurve : Prop :=
  ∀ (s : State) (t : Nat) (r : Req) (n : Fin 24), s.ready t →
    (s.dev.st n = 4 → (s.dev.ax n).brakeWait = false → (s.dev.ax n).nextState = none → (s.dev.ax n).brakeDone = none →
      s.dev.brakeStill n = true →
      (s.dev.rd (obsPurpose n) = 3 → s.gives (.brakeEnd t n) (fun d' =>
        d'.ax n = { s.dev.ax n with brakeDone := some (s.when_ t) } ∧ (s.dev.at_ t).onlyAxis d' n [])) ∧
      (s.dev.rd (obsPurpose n) = 0 ∨ s.dev.rd (obsPurpose n) = 2 → s.gives (.brakeEnd t n) (fun d' =>
        d'.ax n = { s.dev.ax n with nextState := some (stRun, s.dev.startAt n, causeInternal) } ∧
        bitAt (d'.rd (pageEvent (.obs n))) 5 = true ∧
        (s.dev.at_ t).onlyAxis d' n [pageEvent (.obs n), pageSticky (.obs n)]))) ∧
    (s.dev.st n ≠ 4 → exec (.brakeEnd t n) s = .next (s.passed t) ∧ exec (.stillBrakeEnd t n) s = .next (s.passed t) ∧
      exec (.brakeHoldEnd t n) s = .next (s.passed t) ∧ exec (.brakeTimeout t n) s = .next (s.passed t)) ∧
    (s.dev.st n = 4 → s.dev.rd (obsPurpose n) = 1 → (s.dev.ax n).nextState = none →
      (s.dev.ax n).phaseAt + ms (s.dev.rd (obsStillBrkT n)) ≤ s.when_ t → s.gives (.stillBrakeEnd t n) (fun d' =>
        d'.ax n = { s.dev.ax n with nextState := some (stRun, s.dev.startAt n, causeInternal) } ∧
        (s.dev.at_ t).onlyAxis d' n [pageEvent (.obs n), pageSticky (.obs n)])) ∧
    (∀ t0, s.dev.st n = 4 → s.dev.rd (obsPurpose n) = 3 → (s.dev.ax n).nextState = none → (s.dev.ax n).brakeDone = some t0 →
      t0 + ms (s.dev.rd (obsBrakeHold n)) ≤ s.when_ t → s.gives (.brakeHoldEnd t n) (fun d' =>
        d'.ax n = { s.dev.ax n with nextState := some (if (s.dev.ax n).toFault then stFault else stArmed, 0, causeInternal) } ∧
        (s.dev.at_ t).onlyAxis d' n [pageEvent (.obs n), pageSticky (.obs n)])) ∧
    (s.dev.st n = 4 → (s.dev.ax n).nextState = none → (s.dev.ax n).phaseAt + ms (s.dev.rd (obsBrakeTmax n)) ≤ s.when_ t →
      s.gives (.brakeTimeout t n) (fun d' => d'.isActive 0x1704 n = true ∧ (s.dev.at_ t).onlyFault d' [])) ∧
    ((s.dev.ax n).nextState ≠ none → exec (.brakeTimeout t n) s = .next (s.passed t)) ∧
    (s.dev.mode n = 0 → s.dev.rd (crvStale n) = 0 → s.dev.rd (crvStaleT n) ≤ (s.dev.prof n).staleRun →
      s.gives (.curveStale t n) (fun d' => d'.isActive 0x1903 n = true ∧ d'.rd (crvStale n) = 1 ∧ d'.rd (crvOn n) = 0 ∧
        d'.rd (crvVTgt n) = 0 ∧ bitAt (d'.rd (pageEvent (.crv n))) 2 = true)) ∧
    (s.dev.mode n ≠ 0 ∨ s.dev.rd (crvStale n) ≠ 0 → exec (.curveStale t n) s = .next (s.passed t)) ∧
    (∀ v, s.opens r (.crv n) 0x064 t → s.dev.rd (crvSrc n) = 1 → s.gives (.crvNetVal t r n v) (fun d' => d'.rd (crvNetVal n) = v % 2 ^ 32 ∧
      d'.prof n = { s.dev.prof n with fresh := true, x := signedOf 32 v } ∧
      d' = { s.taken r (.crv n) 0x064 t with regs := d'.regs, profs := d'.profs } ∧ (∀ k : Nat, k ≠ n → d'.prof k = s.dev.prof k) ∧
      s.dev.keepsRegs d' [crvNetVal n])) ∧
    (∀ v, s.opens r (.crv n) 0x064 t → s.dev.rd (crvSrc n) ≠ 1 → s.gives (.crvNetVal t r n v) (fun d' => d'.rd (crvNetVal n) = v % 2 ^ 32 ∧
      (s.taken r (.crv n) 0x064 t).onlyRegs d' [crvNetVal n]))

/-! ### Event ports, GPIO and programs -/

/-- The event ports (R338 to R351): a list command is held for its boundary, one over a waiting command is refused BUSY; a head
that reaches its predicted time fires once, with its tag and the time of its first pulse, and a pulse of its width on every port of
its mask in RETICLE; a network sample is kept; a source without a fresh sample is shown stale; an emulated edge takes one step of
those that are due, no closer than EMU_MIN after the one before; the armed latch takes the counter and the time of its edge and is
disarmed; the closing edge of a pulse leaves its width. A port in another mode only sees the level. -/
def Obligations.EventPorts : Prop :=
  ∀ (s : State) (t : Nat) (r : Req) (k : Fin 12), s.ready t →
    (∀ (c : Instr) (code : Nat), (c, code) ∈ [(Instr.retStart t r k, 1), (.retAbort t r k, 2)] → s.dev.reaches r = true →
      ((s.dev.evp k).cmd = none → s.gives c (fun d' => d'.rd (evpLastCmd k) = code ∧ d'.rd (evpResult k) = 0 ∧
        d'.evp k = { s.dev.evp k with cmd := some { code := code, at_ := s.when_ t, src := r.src } } ∧
        (∀ j : Nat, j ≠ k → d'.evp j = s.dev.evp j) ∧ s.dev.keepsRegs d' [evpLastCmd k, evpResult k])) ∧
      ((s.dev.evp k).cmd ≠ none → s.gives c (fun d' => d'.rd (evpResult k) = 3 ∧ bitAt (d'.rd (pageEvent (.evp k))) 8 = true ∧
        (s.taken r (.evp k) 0x04C t).onlyRegs d' [evpLastCmd k, evpResult k, pageEvent (.evp k), pageSticky (.evp k)]))) ∧
    (∀ (e : RetEntry) (rest : List RetEntry) (q : Nat), s.dev.ownsList k = true → s.dev.rd (evpRetSrc k) ≠ 0 →
      s.dev.rd (evpRetState k) = retPlaying → (s.dev.evp k).buf = e :: rest → s.dev.predicted k e = some q →
      (s.dev.evp k).headAt ≤ q → (s.dev.evp k).freshAt ≤ q → q < 4 * s.when_ t + 4 → s.gives (.reticlePredictedFire t k) (fun d' =>
        d'.rd (evpRetFired k) = (s.dev.rd (evpRetFired k) + 1) % 2 ^ 32 ∧ d'.rd (evpRetTag k) = e.tag % 2 ^ 8 ∧
        d'.rd (evpRetTime k) = (((((bitList 12 e.mask).filter (fun j => s.dev.rd (evpMode j) == 1)).head?.map
          (fun j => s.dev.pulseStart j q)).getD q) / 4) % 2 ^ 64 ∧
        (∀ j ∈ bitList 12 e.mask, s.dev.rd (evpMode j) = 1 →
          (s.dev.pulseStart j q, s.dev.pulseStart j q + 4 * e.width) ∈ (d'.evp j).pulses) ∧
        (e.event = true → bitAt (d'.rd (pageEvent (.evp k))) 0 = true) ∧
        (e.last = true → d'.rd (evpRetState k) = retEnded ∧ bitAt (d'.rd (pageEvent (.evp k))) 7 = true))) ∧
    (∀ (e : RetEntry) (rest : List RetEntry), s.dev.noConsumer →
      (s.dev.evp k).buf = e :: rest → s.dev.predicted k e = none → exec (.reticlePredictedFire t k) s = .next (s.passed t)) ∧
    (s.dev.rd (evpRetState k) ≠ retPlaying → s.dev.noConsumer →
      exec (.reticlePredictedFire t k) s = .next (s.passed t)) ∧
    (∀ ts, s.opens r (.evp k) 0x0A0 t → s.gives (.netSample t r k ts) (fun d' => d'.rd (evpNetTs k) = ts % 2 ^ 64 ∧
      (d'.evp k).sample = some (s.dev.rdS (evpNetP k), s.dev.rdS (evpNetV k), signedOf 64 ts) ∧ (d'.evp k).noSample = 0 ∧
      (d'.evp k).freshAt = 4 * s.when_ t ∧
      d'.rd (evpSrcStale k) = (if s.dev.rd timeState = 2 then 0 else s.dev.rd (evpSrcStale k)) ∧
      (s.dev.ownsList k = false → s.dev.noConsumer →
        s.dev.keepsRegs d' [evpNetTs k, evpSrcStale k]))) ∧
    (s.dev.rd (evpSrcStale k) = 0 → s.dev.rd (evpRetSrc k) ≠ 0 →
      s.dev.rd (evpNetHold k) ≤ (s.dev.evp k).noSample ∨ s.dev.rd timeState ≠ 2 →
      s.gives (.netSourceStale t k) (fun d' => d'.rd (evpSrcStale k) = 1 ∧ bitAt (d'.rd (pageEvent (.evp k))) 4 = true ∧
        (s.dev.at_ t).onlyRegs d' [evpSrcStale k, pageEvent (.evp k), pageSticky (.evp k)])) ∧
    (s.dev.rd (evpSrcStale k) ≠ 0 ∨ s.dev.rd (evpRetSrc k) = 0 → exec (.netSourceStale t k) s = .next (s.passed t)) ∧
    (∀ (x : EmuRun) (rest : List EmuRun), (s.dev.evp k).emuRuns = x :: rest →
      (s.dev.rd (evpMode k) = 2 → x.due (4 * s.when_ t) ≠ 0 → s.dev.emuSpaced k (4 * s.when_ t) = true →
        s.gives (.emuEdge t k) (fun d' =>
          (d'.evp k).emuRuns = (if x.left ≤ 1 then rest else { x with left := x.left - 1 } :: rest) ∧
          (d'.evp k).emuAt = some (4 * s.when_ t) ∧
          (d'.evp k).emuPhase = ((s.dev.evp k).emuPhase + (if x.up then 1 else 3)) % 4 ∧
          d'.rd (evpEmuBacklog k) = min (d'.emuBacklog k (4 * s.when_ t)) 65535 ∧
          d' = { s.dev.at_ t with regs := d'.regs, evps := d'.evps } ∧ (∀ j : Nat, j ≠ k → d'.evp j = s.dev.evp j) ∧
          s.dev.keepsRegs d' [evpEmuBacklog k, evpEmuPeak k, evpEmuLag k, pageEvent (.evp k), pageSticky (.evp k)])) ∧
      (s.dev.rd (evpMode k) ≠ 2 ∨ x.due (4 * s.when_ t) = 0 ∨ s.dev.emuSpaced k (4 * s.when_ t) = false →
        exec (.emuEdge t k) s = .next (s.passed t))) ∧
    ((s.dev.evp k).emuRuns = [] → exec (.emuEdge t k) s = .next (s.passed t)) ∧
    (∀ fine : Fin 4, s.dev.rd (evpMode k) = 4 → bitAt (s.dev.rd (evpLatEdge k)) 0 = true → s.dev.rd (evpLatWinEn k) = 0 →
      s.dev.rd (evpLatArm k) = 1 → s.dev.rd (evpLatCont k) = 0 → s.gives (.latchInputEdge t k fine true) (fun d' =>
        d'.rd (evpLatTime k) = s.when_ t ∧ d'.rd (evpLatPos k) = s.dev.rd (fbPos (s.dev.rd (evpLatPort k))) % 2 ^ 64 ∧
        d'.rd (evpLatArm k) = 0 ∧ d'.rd (evpLatCount k) = (s.dev.rd (evpLatCount k) + 1) % 2 ^ 32 ∧
        bitAt (d'.rd (pageEvent (.evp k))) 1 = true)) ∧
    (∀ (fine : Fin 4) (rising : Bool), s.dev.rd (evpMode k) ≠ 4 → s.gives (.latchInputEdge t k fine rising) (fun d' =>
      d' = { s.dev.at_ t with pins := d'.pins })) ∧
    (∀ (fine : Fin 4) (q : Nat), s.dev.rd (evpMode k) = 5 → s.dev.rd (evpPwPol k) = 0 → (s.dev.evp k).opened = some q →
      s.gives (.pwidthEdge t k fine false) (fun d' =>
        d'.rd (evpPwWidth k) = min ((4 * s.when_ t + fine - q) / 4) (2 ^ 32 - 1) ∧
        d'.rd (evpPwCount k) = (s.dev.rd (evpPwCount k) + 1) % 2 ^ 32 ∧ bitAt (d'.rd (pageEvent (.evp k))) 2 = true)) ∧
    (∀ (fine : Fin 4) (rising : Bool), s.dev.rd (evpMode k) ≠ 5 → s.gives (.pwidthEdge t k fine rising) (fun d' =>
      d' = { s.dev.at_ t with pins := d'.pins }))

/-- The general-purpose pins (R584 to R586): an edge of an input sets its event where it is selected; SET and CLR change the bits
of OUT that their mask names and no other register but the directions and the events of the page. -/
def Obligations.GeneralPurposePins : Prop :=
  ∀ (s : State) (t : Nat) (r : Req) (i : Fin 32) (rising : Bool) (mask : Nat), s.ready t →
    s.gives (.gpioEdge t i rising) (fun d' =>
      d'.pins = { s.dev.pins with gpio := if rising then setBit s.dev.pins.gpio i else clearBit s.dev.pins.gpio i } ∧
      d' = { s.dev.at_ t with regs := d'.regs, pins := d'.pins } ∧ s.dev.keepsRegs d' [pageEvent .gpio, pageSticky .gpio] ∧
      (rising = true → bitAt s.dev.pins.gpio i = false → bitAt (s.dev.rd gpioDirAct) i = false → bitAt (s.dev.rd gpioRise) i = true →
        bitAt (d'.rd (pageEvent .gpio)) i = true)) ∧
    (s.dev.reaches r = true → s.gives (.gpioSet t r mask) (fun d' => d'.rd gpioOut = (s.dev.rd gpioOut ||| mask) % 2 ^ 32 ∧
      (s.taken r .gpio 0x048 t).onlyRegs d' [gpioOut, gpioDirAct, pageEvent .gpio, pageSticky .gpio])) ∧
    (s.dev.reaches r = true → s.gives (.gpioClr t r mask) (fun d' => d'.rd gpioOut = (s.dev.rd gpioOut - (s.dev.rd gpioOut &&& mask)) % 2 ^ 32 ∧
      (s.taken r .gpio 0x04C t).onlyRegs d' [gpioOut, gpioDirAct, pageEvent .gpio, pageSticky .gpio]))

/-- Programs (R352, R376, R380 to R387): a request over one in progress is refused BUSY, and one on a slot whose loop is closed is
refused STATE; a removal or a stock program that is admitted is kept until its boundary, counted from then on at the phase under which it was judged; a swap asks for a commit of its custom slots, and reports the others; a parameter
word is written while the loops of the axis are open, and in the expert area the write is recorded. A scrub counts what it corrects and raises 0x2A01 or 0x3A01 on what it cannot; the
clears set the largest values seen back. -/
def Obligations.Programs : Prop :=
  ∀ (s : State) (t : Nat) (r : Req) (n : Fin 24) (k : Fin 4), s.ready t →
    (∀ c, c = Instr.remove t r n k ∨ c = .installStock t r n k (k + 1) ∨ c = .installCustom t r n k true → s.dev.reaches r = true →
      ((s.dev.install n).isSome = true → s.gives c (fun d' => d'.rd (prgInstResult n) = instBusy ∧
        (s.taken r (.prg n) 0x05C t).onlyRegs d' [prgInstResult n, pageEvent (.prg n), pageSticky (.prg n)])) ∧
      (s.dev.install n = none → s.dev.slotOpen n k = false → s.gives c (fun d' => d'.rd (prgInstResult n) = instState ∧
        (s.taken r (.prg n) 0x05C t).onlyRegs d' [prgInstResult n, pageEvent (.prg n), pageSticky (.prg n)]))) ∧
    (s.dev.reaches r = true → s.dev.install n = none → s.dev.slotOpen n k = true →
      s.gives (.remove t r n k) (fun d' => d'.rd (prgInstResult n) = 0 ∧
        (∃ i, d'.install n = some i ∧ i.slot = k ∧ i.action = 3 ∧ i.judgedAt = none) ∧
        d' = { s.taken r (.prg n) 0x05C t with regs := d'.regs, installs := d'.installs } ∧ s.dev.keepsRegs d' [prgInstResult n]) ∧
      (k.val ≠ 3 → s.gives (.installStock t r n k (k + 1)) (fun d' => d'.rd (prgInstResult n) = 0 ∧
        (∃ i, d'.install n = some i ∧ i.slot = k ∧ i.action = 2 ∧ i.stock = k + 1) ∧
        d' = { s.taken r (.prg n) 0x05C t with regs := d'.regs, installs := d'.installs } ∧ s.dev.keepsRegs d' [prgInstResult n])) ∧
      (s.dev.sourceOk r.master (4 * s.dev.rd (prgInstSrc n)) (s.dev.rd (prgInstLen n)) = true → ∀ keep,
        s.gives (.installCustom t r n k keep) (fun d' => d'.rd (prgInstResult n) = 0 ∧
          (∃ i, d'.install n = some i ∧ i.slot = k ∧ i.action = 1 ∧ i.keep = keep) ∧
          d' = { s.taken r (.prg n) 0x05C t with regs := d'.regs, installs := d'.installs } ∧ s.dev.keepsRegs d' [prgInstResult n]))) ∧
    (∀ i, s.dev.install n = some i → i.action ≠ 1 → i.judgedAt = none →
      ∀ x, ((s.dev.at_ t).modSlot n i.slot (fun y => newSlot y i)).firstCounted (s.dev.at_ t) n i.slot = x →
      x.firstBar [laneOf n i.slot] = none →
      s.gives (.installJudged t n) (fun d' => d'.install n = some { i with judgedAt := some (s.when_ t) } ∧
        d'.rd (motPhase n) = x.rd (motPhase n) ∧ d'.rd (prgPhaseA n) = x.rd (prgPhaseA n) ∧
        d' = { s.dev.at_ t with installs := d'.installs, regs := d'.regs } ∧ s.dev.keepsRegs d' [motPhase n, prgPhaseA n])) ∧
    (s.dev.install n = none → exec (.installJudged t n) s = .next (s.passed t)) ∧
    (∀ mask, s.dev.reaches r = true → (∃ j ∈ bitList 4 mask, (s.dev.slot n j).id ≠ 0x8000) → s.gives (.prgSwap t r n mask) (fun d' =>
      bitAt (d'.rd (pageEvent (.prg n))) 5 = true ∧ s.dev.keepsRegs d' [pageEvent (.prg n), pageSticky (.prg n)] ∧
      ((∀ j ∈ bitList 4 mask, (s.dev.slot n j).id ≠ 0x8000) → d'.commits = s.dev.commits))) ∧
    (∀ mask, s.dev.reaches r = true → bitList 4 mask ≠ [] → (∀ j ∈ bitList 4 mask, (s.dev.slot n j).id = 0x8000) →
      s.gives (.prgSwap t r n mask) (fun d' =>
        d' = { s.taken r (.prg n) 0x064 t with commits := s.dev.commits ++ [
          { page := .prg n, at_ := s.when_ t, src := r.src, inst := r.inst, stn := r.stn, swap := maskOf (bitList 4 mask) }] })) ∧
    (∀ (w : Fin 256) (v : Nat), s.opens r (.prg n) (0x800 + 4 * w) t → s.dev.expertOpen r (.prg n) = true →
      s.dev.rd (prgWinSlot n) = k → (s.dev.slot n k).id = 0x8000 → s.dev.rd (prgRegion n) = 0 →
      (s.dev.loopOpen n = true → s.gives (.pbWrite t r n w v) (fun d' =>
        tabGet (d'.slot n k).params w.val = some (v % 2 ^ 32) ∧
        d' = ({ s.taken r (.prg n) (0x800 + 4 * w) t with slots := d'.slots } : Dev).expertWritten r (.prg n) (0x800 + 4 * w) (s.when_ t))) ∧
      (s.dev.loopOpen n = false → s.gives (.pbWrite t r n w v) (fun d' => bitAt (d'.rd (pageEvent (.prg n))) 3 = true ∧
        d'.slots = s.dev.slots ∧ s.dev.keepsRegs d' ([pageEvent (.prg n), pageSticky (.prg n)] ++ chronFlds)))) ∧
    (∀ l : Fin 8, s.gives (.admissionEvaluation t l) (fun d' => (∀ w ∈ d'.admWait, w.1 = l → w.2.1 ≤ s.when_ t → w.2.2.isSome = true) ∧
      (l.val < 6 → d'.rd (cluLaneCycles l) = 2 * s.dev.rd timeTickPeriod % 2 ^ (cluLaneCycles l).w) ∧
      d' = { s.dev.at_ t with regs := d'.regs, admWait := d'.admWait })) ∧
    (∀ (c : Fin 6) (a : Nat), s.dev.rd (cluScrubEn c) ≠ 0 →
      s.gives (.scrubRead t ⟨c, by omega⟩ a (some true)) (fun d' => d'.isActive 0x2A01 c = true ∧ (a, true) ∈ (d'.lane c).bad) ∧
      s.gives (.scrubRead t ⟨c, by omega⟩ a (some false)) (fun d' => bitAt (d'.rd (pageEvent (.clu c))) 2 = true ∧
        (s.dev.at_ t).onlyRegs d' [cluLastAddr c, cluCorrected c, pageEvent (.clu c), pageSticky (.clu c)])) ∧
    (∀ (c : Fin 6) (a : Nat) e, s.dev.rd (cluScrubEn c) = 0 → exec (.scrubRead t ⟨c, by omega⟩ a e) s = .next (s.passed t)) ∧
    (∀ c : Fin 6, s.dev.reaches r = true → s.gives (.cluClear t r c) (fun d' => d'.rd (cluStallMax c) = 0 ∧ (∀ j, j < 4 → d'.rd (cluMax c j) = 0) ∧
      (s.taken r (.clu c) 0x078 t).onlyRegs d' [cluMax c 0, cluMax c 1, cluMax c 2, cluMax c 3, cluStallMax c])) ∧
    (∀ g : Fin 2, s.dev.reaches r = true → s.gives (.glnClear t r g) (fun d' => d'.rd (glnBusyMax g) = 0 ∧ d'.rd (glnStallMax g) = 0 ∧
      (s.taken r (.gln g) 0x078 t).onlyRegs d' [glnBusyMax g, glnStallMax g]))

/-! ### Memory banks, serial memory and streams -/

/-- The memory banks (R393 to R411). A word access that its owner, or for a read a reader, makes is answered with OK in the next
cycle and moves exactly that word; any other is refused, answered with an error, and leaves every byte, and so is an unaligned
one of a master that must not make it. A handover is kept until it applies with its owner and readers, to a bank that is quiet or by
force, or times out with 18; a bank whose power changes takes its PSTATE, its contents lost only with OFF; the sweep takes the next
block, and repairs a failed row with the lowest free spare row or raises 0x3B02. -/
def Obligations.MemoryBanks : Prop :=
  ∀ (s : State) (t : Nat) (r : Req) (b : Fin 32), s.ready t → Memory.wf s.mem = true →
    (∀ (m : Fin 16) (a v : Nat), m.val ≠ 0 → a % 4 = 0 → a + 4 ≤ memSize →
      (∀ g ∈ (s.dev.mbank (bankOf a)).grants, g.cycle < (s.dev.at_ t).cycle) →
      (s.dev.bankBar (bankOf a) m true = none →
        s.givesMem (.bankAccess t [{ m := m, write := true, a := a, n := 4, v := v, wait := 0, upset := none }]) (fun d' m' =>
          d'.served = [(s.when_ t + 5, { result := 0, data := [] })] ∧ m'.word a = v % 2 ^ 32 ∧ keepsBytes s.mem m' a 4 ∧
          ∀ f, f.pg ≠ .bnk → d'.rd f = s.dev.rd f)) ∧
      (s.dev.bankBar (bankOf a) m false = none → (∀ e ∈ (s.dev.mbank (bankOf a)).bad, e.1 ≠ wordOf a) →
        s.gives (.bankAccess t [{ m := m, write := false, a := a, n := 4, v := v, wait := 0, upset := none }]) (fun d' =>
          d'.served = [(s.when_ t + 5, { result := 0, data := [s.mem.word a] })] ∧
          d' = { s.dev.at_ t with served := d'.served, banks := d'.banks })) ∧
      (∀ (w : Bool) (why : Nat), s.dev.bankBar (bankOf a) m w = some why →
        s.gives (.bankAccess t [{ m := m, write := w, a := a, n := 4, v := v, wait := 0, upset := none }]) (fun d' =>
          d'.served = [(s.when_ t + 5, { result := 2, data := if w = true ∨ m.val ≤ 2 then [] else [0] })] ∧
          d'.rd bnkRefReason = why ∧ d'.rd bnkRefBank = bankOf a ∧ d'.rd bnkRefMaster = m ∧ d'.rd bnkRefWord = wordOf a ∧
          bitAt (d'.rd (pageEvent .bnk)) 6 = true))) ∧
    (∀ (x : PortAccess), 4 ≤ x.m → x.m < 16 → x.a % 4 ≠ 0 ∨ x.n ≠ 4 → 0 < x.n → x.a + x.n ≤ memSize →
      s.gives (.bankAccess t [x]) (fun d' => (∃ q a, d'.served = [(q, a)] ∧ a.result = 2) ∧ d'.rd bnkRefReason = 3 ∧
        d'.rd bnkRefBank = bankOf x.a ∧ d'.rd bnkRefMaster = x.m ∧ bitAt (d'.rd (pageEvent .bnk)) 6 = true)) ∧
    (∀ (force : Bool) (o : Fin 16) (readers : Nat), s.dev.reaches r = true → b.val ≠ 31 → s.dev.rd (bnkPstate b) ≠ 5 → o.val ≠ 0 →
      ((s.dev.mbank b).ho = none → s.dev.owner b ≠ 1 ∨ r = .mer → s.gives (.bnkHandover t r force b o readers) (fun d' =>
        (∃ q, (d'.mbank b).ho = some q ∧ q.owner = o ∧ q.at_ = s.when_ t ∧ q.force = (force && r == .mer)) ∧
        d'.rd (bnkPendOwner b) = o ∧ d'.rd bnkHorResult = 0 ∧ d'.rd (bnkOwner b) = s.dev.rd (bnkOwner b) ∧
        s.dev.keepsRegs d' [bnkPendOwner b, bnkHorBank, bnkHorResult])) ∧
      ((s.dev.mbank b).ho = none → s.dev.owner b = 1 → r ≠ .mer → s.gives (.bnkHandover t r force b o readers) (fun d' =>
        d'.rd bnkHorResult = 16 ∧ (s.taken r .bnk 0x050 t).onlyRegs d' [bnkHorBank, bnkHorResult, pageEvent .bnk, pageSticky .bnk])) ∧
      ((s.dev.mbank b).ho.isSome = true → s.gives (.bnkHandover t r force b o readers) (fun d' => d'.rd bnkHorResult = 3 ∧
        (s.taken r .bnk 0x050 t).onlyRegs d' [bnkHorBank, bnkHorResult, pageEvent .bnk, pageSticky .bnk]))) ∧
    (∀ q, (s.dev.mbank b).ho = some q →
      (s.dev.judgedNow q.at_ (s.when_ t) = true → q.force = true ∨ ((s.dev.at_ t).quiet b = true ∧ s.dev.frameReserved b = false) →
        s.gives (.handoverApply t b) (fun d' => d'.rd (bnkOwner b) = q.owner % 16 ∧ d'.rd (bnkReaders b) = q.readers % 2 ^ 16 ∧
          (d'.mbank b).ho = none ∧ d'.rd bnkHorResult = 1)) ∧
      (s.dev.judgedNow q.at_ (s.when_ t) = false ∨ (q.force = false ∧ ((s.dev.at_ t).quiet b = false ∨ s.dev.frameReserved b = true)) →
        exec (.handoverApply t b) s = .next (s.passed t))) ∧
    (∀ q, (s.dev.mbank b).ho = some q → s.dev.rd bnkHoTmax ≤ q.judged → s.gives (.bnkHoTimeout t b) (fun d' =>
      (d'.mbank b).ho = none ∧ d'.rd bnkHorResult = 18 ∧ d'.rd (bnkOwner b) = s.dev.rd (bnkOwner b))) ∧
    ((s.dev.mbank b).ho = none → exec (.handoverApply t b) s = .next (s.passed t) ∧ exec (.bnkHoTimeout t b) s = .next (s.passed t)) ∧
    (∀ v, s.dev.reaches r = true → v < 3 → b.val ≠ 31 → s.dev.rd (bnkPstate b) ≠ 5 → s.dev.owner b < 5 → (s.dev.mbank b).pwr = none →
      s.gives (.bnkPwr t r b v) (fun d' => d'.rd bnkPwrrResult = 0 ∧ d'.rd bnkPwrrBank = b ∧
        (∃ q, (d'.mbank b).pwr = some q ∧ q.new = v ∧ q.at_ = s.when_ t) ∧ s.dev.keepsRegs d' [bnkPwrrBank, bnkPwrrResult])) ∧
    (∀ q, (s.dev.mbank b).pwr = some q → 4 ≤ s.dev.stepsDone → s.dev.rd (bnkPstate b) ≠ 5 →
      (q.new = 0 → q.old ≠ 0 → s.dev.rd (bnkPstate b) ≠ q.old) →
      (q.new ≠ 0 ∨ q.old = 0 → s.dev.judgedNow q.at_ (s.when_ t) = true ∧ (q.old ≠ 0 ∨ (s.dev.at_ t).quiet b = true)) →
      s.givesMem (.bankPowerDone t b) (fun d' m' =>
      d'.rd (bnkPstate b) = q.new % 2 ^ 3 ∧ (d'.mbank b).pwr = none ∧ d'.rd bnkPwrrResult = 1 ∧
      keepsBytes s.mem m' (b * bankSize) bankSize ∧
      (q.new = 2 ∨ s.dev.rd (bnkPstate b) = 3 → ∀ a, b * bankSize ≤ a → a < (b + 1) * bankSize → m'.read a = memDefault) ∧
      (q.new ≠ 2 → s.dev.rd (bnkPstate b) ≠ 3 → m' = s.mem))) ∧
    ((s.dev.mbank b).pwr = none → exec (.bankPowerDone t b) s = .next (s.passed t)) ∧
    (∀ g : Fin 2, s.dev.rd bnkModeSweepEn ≠ 0 → s.dev.rd (bnkSweepBank g) / 16 = g → s.dev.sweepable (s.dev.rd (bnkSweepBank g)) = true →
      (s.dev.rd (bnkSweepBlock g) + 1 < 512 → s.gives (.sweepBlock t g false false) (fun d' =>
        d'.rd (bnkSweepBlock g) = s.dev.rd (bnkSweepBlock g) + 1 ∧ (s.dev.at_ t).onlyRegs d' [bnkSweepBlock g])) ∧
      ((∀ x ∈ (s.dev.mbank (s.dev.rd (bnkSweepBank g))).spares, x.isSome = true) →
        s.gives (.sweepBlock t g true false) (fun d' => d'.isActive 0x3B02 (s.dev.rd (bnkSweepBank g)) = true ∧
          ∀ j, (d'.mbank j).spares = (s.dev.mbank j).spares)) ∧
      (∀ i, (s.dev.mbank (s.dev.rd (bnkSweepBank g))).spares.findIdx? Option.isNone = some i →
        s.gives (.sweepBlock t g true false) (fun d' => bitAt (d'.rd (pageEvent .bnk)) 4 = true ∧
          (d'.mbank (s.dev.rd (bnkSweepBank g))).spares =
            (s.dev.mbank (s.dev.rd (bnkSweepBank g))).spares.set i (some (s.dev.rd (bnkSweepBlock g) / 4, false))))) ∧
    (∀ (g : Fin 2) (failed late : Bool), s.dev.rd bnkModeSweepEn = 0 → exec (.sweepBlock t g failed late) s = .next (s.passed t))

/-- Arbitration (R402 to R404): of two accesses at one port of a bank the one of the master that comes first in the fixed order is
served in its cycle and the other in the next, in whatever order they are issued, so that of two writes of one word the second
stands. A read and a write of one word on both ports in one cycle race: the write is made, the access on port B is the later one and the race is
counted without a record; a hardware master on port B reads again in the next cycle, and a reader on port A
receives a word that is undefined. -/
def Obligations.BankArbitration : Prop :=
  ∀ (s : State) (t : Nat) (m k : Fin 16) (a v w : Nat), s.ready t → Memory.wf s.mem = true → a % 4 = 0 → a + 4 ≤ memSize →
    (∀ g ∈ (s.dev.mbank (bankOf a)).grants, g.cycle < (s.dev.at_ t).cycle) → 0 < m.val → 0 < k.val →
    (∀ x y : PortAccess, x = { m := m, write := true, a := a, n := 4, v := v, wait := 0, upset := none } →
      y = { m := k, write := true, a := a, n := 4, v := w, wait := 0, upset := none } →
      s.dev.bankBar (bankOf a) m true = none → portB m = portB k → rankOf m < rankOf k →
      (s.dev.bankBar (bankOf a) k true = none →
        s.givesMem (.bankAccess t [x, y]) (fun d' m' => m'.word a = w % 2 ^ 32 ∧
          d'.served = [(s.when_ t + 5, { result := 0, data := [] }), (s.when_ t + 10, { result := 0, data := [] })]) ∧
        s.givesMem (.bankAccess t [y, x]) (fun d' m' => m'.word a = w % 2 ^ 32 ∧
          d'.served = [(s.when_ t + 10, { result := 0, data := [] }), (s.when_ t + 5, { result := 0, data := [] })])) ∧
      (∀ why, s.dev.bankBar (bankOf a) k true = some why → s.givesMem (.bankAccess t [y, x]) (fun d' m' => m'.word a = v % 2 ^ 32 ∧
          d'.served = [(s.when_ t + 10, { result := 2, data := [] }), (s.when_ t + 5, { result := 0, data := [] })]))) ∧
    (∀ x y : PortAccess, x = { m := m, write := true, a := a, n := 4, v := v, wait := 0, upset := none } →
      y = { m := k, write := false, a := a, n := 4, v := 0, wait := 0, upset := none } →
      s.dev.bankBar (bankOf a) m true = none → s.dev.bankBar (bankOf a) k false = none → portB m = true → portB k = false →
      s.givesMem (.bankAccess t [x, y]) (fun d' m' => m'.word a = v % 2 ^ 32 ∧ keepsBytes s.mem m' a 4 ∧
        (∃ q z, d'.served = [(s.when_ t + 5, { result := 0, data := [] }), (q, { result := 0, data := [z] })]) ∧
        d'.rd bnkRaceCount = (s.dev.rd bnkRaceCount + 1) % 2 ^ 32 ∧ d'.rd bnkRaceLater = m ∧ d'.rd bnkRaceEarlier = k ∧
        d'.rd bnkRaceBank = bankOf a ∧ d'.rd bnkRaceWord = wordOf a ∧ bitAt (d'.rd (pageEvent .bnk)) 10 = true ∧ d'.queue = s.dev.queue)) ∧
    (∀ x y : PortAccess, x = { m := m, write := true, a := a, n := 4, v := v, wait := 0, upset := none } →
      y = { m := k, write := false, a := a, n := 4, v := 0, wait := 0, upset := none } →
      s.dev.bankBar (bankOf a) m true = none → s.dev.bankBar (bankOf a) k false = none → portB m = false → portB k = true →
      s.dev.rd bnkInjEn = 0 → s.givesMem (.bankAccess t [x, y]) (fun d' m' => m'.word a = v % 2 ^ 32 ∧ keepsBytes s.mem m' a 4 ∧
        d'.served = [(s.when_ t + 5, { result := 0, data := [] }), (s.when_ t + 10, { result := 0, data := [v % 2 ^ 32] })] ∧
        d'.rd bnkRaceCount = (s.dev.rd bnkRaceCount + 1) % 2 ^ 32 ∧ d'.rd bnkRaceLater = k ∧ d'.rd bnkRaceEarlier = m ∧
        d'.rd bnkRaceBank = bankOf a ∧ d'.rd bnkRaceWord = wordOf a ∧ bitAt (d'.rd (pageEvent .bnk)) 10 = true ∧ d'.queue = s.dev.queue))

/-- Software transfers and windows (R416 to R425, R439, R490): a transfer is taken where its port serves and its buffer belongs to the
requester, refused BUSY over another one, and, once the port has come to it, ends with the bits done, after which only its buffer can
differ; a release of the watched select ends it SHORT. A window read is served from a line buffer, fills a line from the device, stalls while the
port has another transaction, or, without a DQS edge in 8D-8D-8D, raises 0x5C02; a code fetch of Almanac fills a line of its cache. -/
def Obligations.SerialMemory : Prop :=
  ∀ (s : State) (t : Nat) (r : Req) (q : Fin 2), s.ready t → Memory.wf s.mem = true →
    (s.dev.reaches r = true →
      ((s.dev.smpOf q).sw.isSome = true → s.gives (.smpSwGo t r q) (fun d' => d'.rd (smpSwResult q) = 3 ∧
        (s.taken r (.smp q) 0x06C t).onlyRegs d' [smpSwResult q, pageEvent (.smp q), pageSticky (.smp q)])) ∧
      ((s.dev.smpOf q).sw = none → s.dev.serves q = true → 0 < s.dev.rd (smpSwLen q) → s.dev.rd (smpSwLen q) ≤ 16384 →
        s.dev.rd (smpSwDir q) < 3 → s.dev.rd (smpSwDir q) ≠ 0 ∨ s.dev.rd (smpSwDdr q) = 0 →
        s.dev.owner (4 * s.dev.rd (smpSwBuf q) / bankSize) = r.master →
        4 * s.dev.rd (smpSwBuf q) / bankSize = (4 * s.dev.rd (smpSwBuf q) + 4 * ((s.dev.rd (smpSwLen q) + 31) / 32) - 1) / bankSize →
        s.gives (.smpSwGo t r q) (fun d' => d'.rd (smpSwResult q) = 0 ∧
          (∃ x, (d'.smpOf q).sw = some x ∧ x.len = s.dev.rd (smpSwLen q) ∧ x.dir = s.dev.rd (smpSwDir q) ∧
            x.buf = 4 * s.dev.rd (smpSwBuf q) ∧ x.master = r.master ∧ x.since = none) ∧
          d' = { s.taken r (.smp q) 0x06C t with regs := d'.regs, smps := d'.smps } ∧ s.dev.keepsRegs d' [smpSwResult q])) ∧
      ((s.dev.smpOf q).sw = none → s.dev.serves q = false → s.gives (.smpSwGo t r q) (fun d' => d'.rd (smpSwResult q) = 2 ∧
        (s.taken r (.smp q) 0x06C t).onlyRegs d' [smpSwResult q, pageEvent (.smp q), pageSticky (.smp q)]))) ∧
    (∀ x rx, (s.dev.at_ t).transferOn q = some x → s.givesMem (.swTransferEnd t q rx) (fun d' m' => (d'.smpOf q).sw = none ∧
      (d'.smpOf q).cur = none ∧ d'.rd (smpSwBitsDone q) = x.len % 2 ^ (smpSwBitsDone q).w ∧ d'.rd (smpSwShort q) = 0 ∧
      d'.rd (smpSwResult q) = 1 ∧
      bitAt (d'.rd (pageEvent (.smp q))) 0 = true ∧ keepsBytes s.mem m' x.buf (4 * ((x.len + 31) / 32)) ∧
      (x.dir = 1 → m' = s.mem))) ∧
    (∀ x bits rx, (s.dev.at_ t).transferOn q = some x → x.watch = true → s.dev.gpioPin x.watchPin = x.watchHigh → bits < x.len →
      s.givesMem (.watchRelease t q bits rx) (fun d' m' =>
      (d'.smpOf q).sw = none ∧ d'.rd (smpSwBitsDone q) = bits % 2 ^ (smpSwBitsDone q).w ∧ d'.rd (smpSwShort q) = 1 ∧
      bitAt (d'.rd (pageEvent (.smp q))) 1 = true ∧ keepsBytes s.mem m' x.buf (4 * ((bits + 31) / 32)))) ∧
    (∀ bits rx, (s.dev.at_ t).transferOn q = none → exec (.swTransferEnd t q rx) s = .next (s.passed t) ∧
      exec (.watchRelease t q bits rx) s = .next (s.passed t)) ∧
    (∀ a n dqs line, inWindow a = true →
      (∀ v e, (s.dev.at_ t).windowHit a n = some (v, e) → s.gives (.windowLineFetch t a n dqs line false) (fun d' =>
        d'.answer = some { result := 0, data := [v] } ∧ d' = { s.dev.at_ t with answer := d'.answer, smps := d'.smps, regs := d'.regs } ∧
        d'.rd (smpLineHits (portOf (s.dev.windowExt a))) =
          (s.dev.rd (smpLineHits (portOf (s.dev.windowExt a))) + 1) % 2 ^ (smpLineHits (portOf (s.dev.windowExt a))).w ∧
        s.dev.keepsRegs d' [smpLineHits (portOf (s.dev.windowExt a))])) ∧
      (∀ p base, portOf (s.dev.windowExt a) = p → (s.dev.at_ t).missedLine a n = base → (s.dev.at_ t).windowHit a n = none →
        (s.dev.serves p = true → s.dev.extOk base 32 = true →
          (((s.dev.at_ t).smpOf p).cur = none ∨ ((s.dev.at_ t).smpOf p).cur = some (.fetch base) →
            (dqs = false ∨ s.dev.rd (smpHwMode p) = 0 → s.gives (.windowLineFetch t a n dqs line false) (fun d' =>
              (∃ x, d'.answer = some { result := 0, data := [x] }) ∧
              ((d'.smpOf p).lines.head? = some (base, (List.range 8).map (fun i => line.getD i 0 % 2 ^ 32))) ∧
              (d'.smpOf p).cur = none ∧ d' = { s.dev.at_ t with answer := d'.answer, smps := d'.smps })) ∧
            (dqs = true → s.dev.rd (smpHwMode p) ≠ 0 → s.gives (.windowLineFetch t a n dqs line false) (fun d' =>
              d'.answer = some { result := 2, data := [0] } ∧ d'.rd (smpErrCause p) = 2 ∧
              bitAt (d'.rd (pageEvent (.smp p))) 3 = true))) ∧
          (∀ i, ((s.dev.at_ t).smpOf p).cur = some i → i ≠ .fetch base → s.gives (.windowLineFetch t a n dqs line false) (fun d' =>
            d'.answer = none ∧ base ∈ (d'.smpOf p).fetches ∧ d' = { s.dev.at_ t with smps := d'.smps }))) ∧
        (s.dev.serves p = false ∨ s.dev.extOk base 32 = false → s.gives (.windowLineFetch t a n dqs line false) (fun d' =>
          d'.answer = some { result := 2, data := [0] } ∧ d'.rd (smpErrCause p) = 3 ∧ bitAt (d'.rd (pageEvent (.smp p))) 3 = true)))) ∧
    (∀ a n dqs line, inWindow a = false → exec (.windowLineFetch t a n dqs line false) s = .next (s.passed t)) ∧
    (∀ a n line p base, portOf a = p → a / 64 * 64 = base → s.dev.almRuns = true → s.dev.alm.cache.any (fun l => l.1 == base) = false →
      s.dev.serves p = true → s.dev.extOk base 64 = true →
      ((s.dev.at_ t).smpOf p).cur = none ∨ ((s.dev.at_ t).smpOf p).cur = some (.fetch base) →
      s.gives (.windowLineFetch t a n false line true) (fun d' =>
        (base, (List.range 16).map (fun i => line.getD i 0 % 2 ^ 32)) ∈ d'.alm.cache ∧ s.dev.keepsRegs d' [])) ∧
    (∀ a n dqs line, s.dev.almRuns = false ∨ s.dev.alm.cache.any (fun l => l.1 == a / 64 * 64) = true →
      exec (.windowLineFetch t a n dqs line true) s = .next (s.passed t))

/-- The pager's streams (R429, R431 to R440, R443): OPEN takes the frames a closed stream needs and CLOSE gives them back, each
with its result, and CLOSE is refused for a bound stream; a page that arrives good goes to a frame of the stream and to nothing else in
memory; RETRY lets a stopped stream go on; the ring's end moves as written; an export is due when its age reaches the flush time,
and its write takes the words that wait. What a page, a RETRY or a new ring end makes available goes to the consumer at once, so the
stream's own state is stated for a stream without one. -/
def Obligations.PagerStreams : Prop :=
  ∀ (s : State) (t : Nat) (r : Req) (k : Fin 48), s.ready t → Memory.wf s.mem = true →
    (s.dev.rd pgrSel = k → s.dev.reaches r = true →
      ((s.dev.stream k).isOpen = false → (s.dev.stream k).kind ≠ 0 → s.dev.openRange (s.dev.stream k) = false →
        (s.dev.stream k).need ≤ s.dev.freeFrames.length → s.gives (.streamOpen t r) (fun d' => (d'.stream k).isOpen = true ∧
          (d'.stream k).frames = s.dev.freeFrames.take (s.dev.stream k).need ∧ (d'.stream k).result = 1 ∧
          (d'.stream k).stopped = false ∧ (d'.stream k).page = 0 ∧ ∀ j : Nat, j ≠ k → d'.stream j = s.dev.stream j)) ∧
      ((s.dev.stream k).isOpen = true → s.gives (.streamOpen t r) (fun d' => (d'.stream k).result = 2 ∧
        bitAt (d'.rd (pageEvent .pgr)) 2 = true ∧ s.dev.keepsRegs d' [pageEvent .pgr, pageSticky .pgr])) ∧
      ((s.dev.stream k).isOpen = true → (s.dev.stream k).consumer = none → s.gives (.streamClose t r) (fun d' =>
        (d'.stream k).isOpen = false ∧ (d'.stream k).frames = [] ∧ (d'.stream k).result = 1 ∧
        ∀ j : Nat, j ≠ k → d'.stream j = s.dev.stream j)) ∧
      ((s.dev.stream k).isOpen = false ∨ (s.dev.stream k).consumer ≠ none → s.gives (.streamClose t r) (fun d' =>
        d'.stream k = { s.dev.stream k with result := 2 } ∧ bitAt (d'.rd (pageEvent .pgr)) 2 = true)) ∧
      ((s.dev.stream k).stopped = true → s.gives (.streamRetry t r) (fun d' => (d'.stream k).result = 1 ∧
        (s.dev.noConsumer → d'.stream k = { s.dev.stream k with stopped := false, tries := 0, result := 1 } ∧
          d' = { s.taken r .pgr 0x088 t with streams := d'.streams }))) ∧
      ((s.dev.stream k).stopped = false → s.gives (.streamRetry t r) (fun d' => (d'.stream k).result = 2)) ∧
      (∀ v, s.opens r .pgr 0x078 t → s.gives (.ringWrite t r v) (fun d' => (d'.stream k).wr = v % 2 ^ 32 ∧
        (s.dev.noConsumer → d'.stream k = { s.dev.stream k with wr := v % 2 ^ 32 } ∧
          d' = { s.taken r .pgr 0x078 t with streams := d'.streams } ∧ ∀ j : Nat, j ≠ k → d'.stream j = s.dev.stream j)))) ∧
    (∀ ws q addr, (s.dev.stream k).base + 4096 * (s.dev.stream k).page = addr → portOf addr = q → (s.dev.stream k).wantsPage = true →
      s.dev.serves q = true → s.dev.extOk addr 4096 = true → ((s.dev.at_ t).smpOf q).cur = some (.page k) →
      pageGood (s.dev.stream k).check ((List.range 1024).map (fun i => ws.getD i 0 % 2 ^ 32)) = true →
      s.givesMem (.pagerPageRead t k false ws) (fun d' m' => d'.rd pgrPageReads = (s.dev.rd pgrPageReads + 1) % 2 ^ 32 ∧
        keepsBytes s.mem m' (frameAddr (s.dev.stream k).fillFrame) 4096 ∧
        ((s.dev.stream k).fillFrame < 1024 →
          ∀ i, i < 1024 → m'.word (frameAddr (s.dev.stream k).fillFrame + 4 * i) = ws.getD i 0 % 2 ^ 32) ∧
        (s.dev.noConsumer → (d'.stream k).page = (s.dev.stream k).page + 1 ∧ (d'.stream k).tries = 0 ∧
          (d'.stream k).held = (s.dev.stream k).held ++ [((s.dev.stream k).fillFrame, (s.dev.stream k).page)] ∧
          (d'.smpOf q).cur = none))) ∧
    (∀ dqs ws, s.dev.noConsumer → (s.dev.stream k).wantsPage = false → exec (.pagerPageRead t k dqs ws) s = .next (s.passed t)) ∧
    (∀ a, (s.dev.stream k).expAge = some a → (s.dev.stream k).flush ≤ a → (s.dev.stream k).expWords ≠ [] →
      s.gives (.exportFlush t k) (fun d' => d'.stream k = { s.dev.stream k with expDue := true } ∧
        d' = { s.dev.at_ t with streams := d'.streams })) ∧
    ((s.dev.stream k).expAge = none → exec (.exportFlush t k) s = .next (s.passed t)) ∧
    (∀ x n, s.dev.stream k = x → x.exportWords = n → n ≠ 0 → s.dev.serves (portOf x.exportAddr) = true →
      s.dev.extOk x.exportAddr (4 * n) = true → ((s.dev.at_ t).smpOf (portOf x.exportAddr)).cur = some (.export_ k) →
      s.gives (.exportWrite t k) (fun d' => (d'.stream k).expWords = x.expWords.drop n ∧ (d'.stream k).expDue = false ∧
        (d'.stream k).expAt = x.expAt + n ∧ (d'.stream k).rd = (x.rd + ((x.expAt + n) / 4 - x.expAt / 4)) % 2 ^ 32 ∧
        d'.answer = some { result := 0, data := x.exportAddr :: x.expWords.take n } ∧
        d' = { s.dev.at_ t with answer := d'.answer, streams := d'.streams, smps := d'.smps })) ∧
    ((s.dev.stream k).exportWords = 0 ∨ s.dev.serves (portOf (s.dev.stream k).exportAddr) = false →
      exec (.exportWrite t k) s = .next (s.passed t))

/-! ### The network -/

/-- The links and the state of the station (R447 to R449, R456, R477 to R480): a link trains, comes up and goes down, and no role
stays on a link that is down; a station that hears no pennant raises 0x6D02 and then leaves its segment; ENUMERATE, UNFOLD and
LEAVE are taken by the head or the member they are for, and refused with STATE otherwise; a broken ring folds at the last station
that is still heard on line X; a station that is lost leaves; a join starts from RELAY and is given up after its span. -/
def Obligations.LinksAndSegment : Prop :=
  ∀ (s : State) (t : Nat) (r : Req) (m : Fin 4), s.ready t →
    (s.dev.rd (lnkState m) = 0 → s.dev.rd (lnkEn m) ≠ 0 → s.gives (.linkTrain t m) (fun d' => d'.rd (lnkState m) = 1 ∧
      s.dev.keepsRegs d' (lnkState m :: chronFlds))) ∧
    (s.dev.rd (lnkState m) ≠ 0 ∨ s.dev.rd (lnkEn m) = 0 → exec (.linkTrain t m) s = .next (s.heard t)) ∧
    (∀ standby, s.dev.rd (lnkState m) = 1 → s.gives (.linkUp t m standby) (fun d' => d'.rd (lnkState m) = 2 ∧
      d'.rd (lnkStandbyRx m) = (if standby then 1 else 0) ∧ bitAt (d'.rd (pageEvent (.lnk m))) 0 = true)) ∧
    (∀ standby, s.dev.rd (lnkState m) ≠ 1 → exec (.linkUp t m standby) s = .next (s.heard t)) ∧
    (∀ errs, s.dev.rd (lnkState m) ≠ 0 → s.gives (.linkDown t m errs) (fun d' => d'.rd (lnkState m) = 0 ∧ d'.rd (lnkRole m) = 0 ∧
      d'.rd (lnkStandbyRx m) = 0 ∧ bitAt (d'.rd (pageEvent (.lnk m))) 1 = true ∧
      (s.dev.rd (lnkDownCount m) + 1 < 2 ^ (lnkDownCount m).w → d'.rd (lnkDownCount m) = s.dev.rd (lnkDownCount m) + 1))) ∧
    (s.dev.rd netState = 4 → s.dev.rd netMissN ≤ s.dev.missedCycles (s.when_ t) → s.dev.isActive 0x6D02 0 = false →
      s.gives (.pennantMiss t) (fun d' => d'.isActive 0x6D02 0 = true ∧ d'.net.good = 0 ∧ bitAt (d'.rd (pageEvent .net)) 1 = true)) ∧
    (s.dev.rd netState ≠ 4 → exec (.pennantMiss t) s = .next (s.heard t) ∧ exec (.stationRejoin t) s = .next (s.heard t)) ∧
    (s.dev.rd netState = 4 → 256 ≤ s.dev.missedCycles (s.when_ t) → s.gives (.stationRejoin t) (fun d' =>
      d'.rd netState = 1 ∧ d'.rd netAddrValid = 0 ∧ s.dev.keepsRegs d' ([netState, netAddrValid] ++ chronFlds))) ∧
    (s.dev.reaches r = true →
      (s.dev.rd netHeadSide = 0 → ∀ c, c = Instr.enumerate t r ∨ c = .unfold t r → s.gives c (fun d' => d'.rd netResult = 2 ∧
        bitAt (d'.rd (pageEvent .net)) 7 = true ∧ s.dev.keepsRegs d' [netResult, pageEvent .net, pageSticky .net])) ∧
      (s.dev.rd netHeadSide ≠ 0 → s.dev.rd netEnumBusy = 0 → s.gives (.enumerate t r) (fun d' => d'.rd netEnumBusy = 1 ∧
        d'.rd netResult = 0 ∧ d'.net.enumK = 0 ∧ s.dev.keepsRegs d' [netEnumBusy, netResult])) ∧
      (s.dev.rd netHeadSide ≠ 0 → s.dev.rd netFolded ≠ 0 → s.dev.net.unfoldIn = none → s.gives (.unfold t r) (fun d' =>
        d'.net.unfoldIn = some 4 ∧ d'.rd netResult = 1 ∧ s.dev.keepsRegs d' [netResult])) ∧
      (s.dev.rd netState = 5 → s.gives (.leave t r) (fun d' => d'.rd netState = 1 ∧ d'.rd netHeadSide = 0 ∧ d'.rd timeState = 0 ∧
        d'.rd netResult = 1 ∧ d'.net.members = [])) ∧
      (s.dev.rd netState = 3 ∨ s.dev.rd netState = 4 → s.gives (.leave t r) (fun d' => d'.rd netState = 1 ∧ d'.rd netAddrValid = 0 ∧
        d'.rd timeState = 0 ∧ d'.rd netResult = 1)) ∧
      (s.dev.rd netState < 3 → s.gives (.leave t r) (fun d' => d'.rd netResult = 2 ∧ d'.rd netState = s.dev.rd netState))) ∧
    (s.dev.rd netHeadSide ≠ 0 → s.dev.rd netRing ≠ 0 → s.dev.rd netFolded = 0 →
      (∃ x ∈ s.dev.net.members, x.miss ≠ 0) ∨ s.dev.rd (lnkStandbyRx (mate s.dev.lineX)) = 0 ∨ s.dev.linkUp s.dev.lineX = false →
      s.gives (.ringFold t) (fun d' => d'.rd netFolded = 1 ∧ d'.net.foldPos = s.dev.lastOnX % 256 ∧
        bitAt (d'.rd (pageEvent .net)) 4 = true)) ∧
    (s.dev.rd netHeadSide = 0 ∨ s.dev.rd netRing = 0 ∨ s.dev.rd netFolded ≠ 0 ∨ ((∀ x ∈ s.dev.net.members, x.miss = 0) ∧
      s.dev.rd (lnkStandbyRx (mate s.dev.lineX)) ≠ 0 ∧ s.dev.linkUp s.dev.lineX = true) → exec (.ringFold t) s = .next (s.heard t)) ∧
    (s.dev.rd netHeadSide ≠ 0 → s.dev.rd netFolded ≠ 0 → s.dev.rd netCfgAutoUnfold ≠ 0 → 16 ≤ s.dev.net.restoredRun →
      s.dev.net.unfoldIn = none → s.gives (.ringUnfold t) (fun d' => d'.net = { s.dev.net with tx := [], unfoldIn := some 4 } ∧
        d' = { s.dev.at_ t with net := d'.net })) ∧
    (s.dev.rd netHeadSide = 0 → exec (.ringUnfold t) s = .next (s.heard t)) ∧
    (∀ stn x, s.dev.rd netHeadSide ≠ 0 → x ∈ s.dev.net.members → x.stn = stn → s.dev.rd netMissN ≤ x.miss →
      s.gives (.stationLeft t stn) (fun d' => (∀ y ∈ d'.net.members, y.stn ≠ stn) ∧ bitAt (d'.rd (pageEvent .net)) 6 = true)) ∧
    (∀ stn, (∀ x ∈ s.dev.net.members, x.stn ≠ stn) → exec (.stationLeft t stn) s = .next (s.heard t)) ∧
    (s.dev.rd netState = 1 → s.dev.rd devReady ≠ 0 → 8 ≤ s.dev.net.good → s.dev.rd timeState = 2 → s.gives (.joinStart t) (fun d' =>
      d'.rd netState = 3 ∧ d'.net.joinAt = s.when_ t ∧
      (s.dev.awaiting (netAddress s.dev.net.seg 0) 4 = false → s.dev.rd (lnkEn (s.dev.originLink false)) ≠ 0 →
        ∃ f stn, d'.net.tx = [f] ∧ f.kind = 3 ∧ f.chan = 4 ∧ f.unaddr = true ∧ f.dst = netAddress s.dev.net.seg 0 ∧
          f.words = joinWords (s.dev.rd devSerial) stn))) ∧
    (s.dev.rd netState ≠ 1 → exec (.joinStart t) s = .next (s.heard t)) ∧
    (s.dev.rd netState = 3 → s.dev.net.grant = none → s.dev.net.joinAt + s.dev.retxSpan ≤ s.when_ t → s.gives (.joinTimeout t) (fun d' =>
      d'.rd netState = 1 ∧ d'.rd netAddrValid = 0)) ∧
    (s.dev.rd netState ≠ 3 → exec (.joinTimeout t) s = .next (s.heard t))

/-- Pennants and the period of the segment (R32, R34, R448, R451, R456, R462, R465). The head sends one pennant in a tick that is due
and counts its cycle; a station sends a good one on with HOP counted up, towards the end that its line has, and counts it; one
that returns gives the head its round trip; a foreign one is not heard. The head confirms an announced period when its
stations do, and takes it at the boundary it named where R32 still passes; a station takes it there when it saw CONFIRM and had
reported that R32 passes. -/
def Obligations.Pennants : Prop :=
  ∀ (s : State) (t : Nat), s.ready t →
    (s.dev.rd netHeadSide ≠ 0 → s.dev.rd netEnumBusy = 0 → s.dev.net.sentAt ≠ some s.dev.tickStart →
      s.dev.tickStart + 5 * s.dev.rd netSendOfs ≤ s.when_ t →
      s.dev.tickIndex s.dev.tickStart % (ncycTicks (s.dev.rd netNcyc) : Nat) = 0 →
      s.gives (.pennantSend t) (fun d' => d'.net.cycle = (s.dev.net.cycle + 1) % 2 ^ 32 ∧
        d'.rd netCycle = (s.dev.net.cycle + 1) % 2 ^ 32 ∧ d'.net.sentAt = some s.dev.tickStart ∧ d'.net.back = false ∧
        ∀ m, s.dev.net.unfoldIn ≠ some 0 → s.dev.lineLink false = some m → s.dev.rd (lnkEn m) ≠ 0 →
          ∃ f ∈ d'.net.tx, f.link = m ∧ f.kind = 1 ∧ f.words.getD 1 0 = (s.dev.net.cycle + 1) % 2 ^ 32)) ∧
    (s.dev.rd netHeadSide = 0 ∨ s.dev.net.sentAt = some s.dev.tickStart → exec (.pennantSend t) s = .next (s.heard t)) ∧
    (∀ p : PennantIn, s.dev.headLink p.link.val = true ∨ s.dev.rd netState = 5 → exec (.pennant t p) s = .next (s.heard t)) ∧
    (∀ (p : PennantIn) (x : Nat), s.dev.rd netHeadSide = 0 → s.dev.rd netState = 1 → s.dev.rd devReady = 0 → p.q = 0 →
      (if s.dev.turns p.link.val then p.link.val else mate p.link.val) = x → s.gives (.pennant t p) (fun d' =>
        ((∀ c dl, s.dev.net.last = some (c, dl) → pw p.frame 1 = (c + 1) % 2 ^ 32) → d'.net.good = s.dev.net.good + 1) ∧
        d'.rd netPos = pwHop p.frame % 2 ^ 8 ∧ d'.rd netCycle = pw p.frame 1 % 2 ^ 32 ∧
        (s.dev.rd (lnkEn x) ≠ 0 → d'.net.tx.head? = some { link := x, kind := 1, words := hopUp p.frame }))) ∧
    (∀ p : PennantIn, s.dev.rd netHeadSide = 0 → s.dev.rd netState = 1 → p.q = 2 → s.gives (.pennant t p) (fun d' =>
      d'.net.good = 0 ∧ bitAt (d'.rd (pageEvent .net)) 1 = true ∧ bitAt (d'.rd (pageEvent (.lnk p.link.val))) 3 = true)) ∧
    (∀ (p : PennantIn) (k : Nat), s.dev.headLink p.link.val = true → s.dev.rd netEnumBusy ≠ 0 → 1 < s.dev.net.enumK → s.dev.net.enumK < 8 →
      p.q = 0 → pwFlag p.frame 4 = false → enumNames (returnedEntries p.frame) = enumNames s.dev.net.entries →
      s.gives (.enumerationPennant t p k) (fun d' =>
        d'.net = { s.dev.net with tx := [], delta0 := p.tr - p.ta, enumBack := s.dev.net.enumK, back := true } ∧
        d' = { s.dev.at_ t with net := d'.net })) ∧
    (∀ (p : PennantIn) (k : Nat), s.dev.rd netHeadSide = 0 → s.dev.rd netState = 4 → p.q = 0 → pwFlag p.frame 4 = false → k < 8 →
      pwEnum p.frame ≤ 254 → s.gives (.enumerationPennant t p k) (fun d' => d'.rd netRetainPos = pwHop p.frame % 2 ^ (netRetainPos).w ∧
        d'.rd netRetainValid = 1 ∧ d'.rd netCycle = pw p.frame 1 % 2 ^ 32)) ∧
    (∀ p : PennantIn, s.dev.headLink p.link.val = true → p.q = 0 → pwFlag p.frame 4 = false → (∀ i, s.dev.rd (netMapEn i) = 0) →
      s.gives (.pennantReturn t p) (fun d' => d'.net.delta0 = p.tr - p.ta ∧ d'.net.foldX = p.frame ∧ d'.net.deltaY = s.dev.net.deltaY ∧
        d'.net.back = true ∧ d'.net.members = s.dev.net.members.map (fun x => x.heard p.frame))) ∧
    (∀ p : PennantIn, s.dev.headLink p.link.val = false → exec (.pennantReturn t p) s = .next (s.heard t)) ∧
    (∀ a, s.dev.net.headAnn = some a → a.confirm = false →
      (a.time : Int) - (2 * ncycTicks (s.dev.rd netNcyc) * s.dev.tickNs : Nat) ≤ s.dev.sysTime (s.when_ t) →
      ((∀ x ∈ s.dev.net.members, bitAt x.word 31 = true ∧ bitAt x.word 30 = true) → s.gives (.announceDecision t) (fun d' =>
        d'.net.headAnn = some { a with confirm := true } ∧ d' = { s.dev.at_ t with net := d'.net })) ∧
      ((∃ x ∈ s.dev.net.members, bitAt x.word 30 = false) → s.gives (.announceDecision t) (fun d' => d'.net.headAnn = none ∧
        bitAt (d'.rd (pageEvent .time)) 4 = true))) ∧
    (s.dev.net.headAnn = none → exec (.announceDecision t) s = .next (s.heard t)) ∧
    (∀ a, s.dev.net.headAnn = some a → a.confirm = true → s.dev.net.ann = none → (a.time : Int) ≤ s.dev.sysTime s.dev.tickStart →
      s.dev.sysTime s.dev.tickStart < (a.time : Int) + 5 →
      (s.dev.periodBar a.period true = 0 → s.gives (.announcedPeriodApply t) (fun d' =>
        d'.rd timeTickPeriod = a.period % 2 ^ (timeTickPeriod).w ∧ d'.nextTick = s.dev.tickStart + 5 * a.period ∧ d'.net.headAnn = none)) ∧
      (s.dev.periodBar a.period true ≠ 0 → s.gives (.announcedPeriodApply t) (fun d' =>
        d'.rd timeTickPeriod = s.dev.rd timeTickPeriod ∧ d'.nextTick = s.dev.nextTick ∧ d'.net.headAnn = none ∧
        bitAt (d'.rd (pageEvent .time)) 4 = true))) ∧
    (∀ a, s.dev.net.headAnn = none → s.dev.net.ann = some a → (a.time : Int) ≤ s.dev.sysTime s.dev.tickStart →
      s.dev.sysTime s.dev.tickStart < (a.time : Int) + 5 →
      (a.confirm = true → a.acked = true → s.dev.rd netCfgRole ≠ 1 → s.dev.periodBar a.period true = 0 →
        s.gives (.announcedPeriodApply t) (fun d' => d'.rd timeTickPeriod = a.period % 2 ^ (timeTickPeriod).w ∧
          d'.nextTick = s.dev.tickStart + 5 * a.period ∧ d'.net.ann = none)) ∧
      (a.confirm = false ∨ a.acked = false → s.gives (.announcedPeriodApply t) (fun d' =>
        d'.net = { s.dev.net with tx := [], ann := none } ∧ d' = { s.dev.at_ t with net := d'.net }))) ∧
    (s.dev.net.headAnn = none → s.dev.net.ann = none → exec (.announcedPeriodApply t) s = .next (s.heard t))

/-- What becomes of a dispatch before it is executed (R451, R467, R471, R473), on every channel that the device serves: a damaged
one only counts on its link and is sent on; one for another address, or one that comes back, only counts as received and is sent on;
one without a context and without SYNC, or out of sequence, or over 256 contexts, is answered 9, 8 or 10; one that was answered
before is answered the same again, and is not executed. -/
def Obligations.DispatchOrder : Prop :=
  ∀ (s : State) (t : Nat) (h : DispHdr) (ws : List Nat) (serial stn : Nat) (sl : Slice) (x : Nat) (b : Bool) (sv : List (Nat × Nat)),
    s.ready t → ∀ (c : Instr) (chan : Nat) (pl : List Nat),
    (c, chan, pl) ∈ [(Instr.registerAccessRead t h ws, 0, ws), (.registerAccessWrite t h ws, 0, ws),
      (.parameterStoreDispatch t h ws, 1, ws), (.axisCommandQueue t h ws, 2, ws), (.chronographFetch t h ws, 3, ws),
      (.join t h serial stn, 4, joinWords serial stn),
      (.grant t h serial stn sl x b, 4, if b then grantWords serial 0 {} 0 else grantWords serial stn sl x),
      (.slice t h sl x, 4, sliceWords sl x), (.notice t h x b, 4, noticeWords x b), (.serviceDirectory t h ws sv, 8, ws),
      (.almanacService t h x ws, x, ws)] →
    (h.q false chan 0 pl = 2 → s.gives c (fun d' => d'.answer = none ∧
      d'.net = { s.dev.net with tx := d'.net.tx, passed := d'.net.passed } ∧
      (∀ f ∈ d'.net.tx, f.words = pl ∧ f.chan = chan ∧ f.ttl = h.ttl ∧ f.fcs = some h.fcs) ∧
      bitAt (d'.rd (pageEvent (.lnk h.link.val))) 3 = true ∧
      s.dev.keepsRegs d' ([lnkCrcBad h.link.val, pageEvent (.lnk h.link.val), pageSticky (.lnk h.link.val)] ++ frameFlds))) ∧
    (h.q false chan 0 pl = 0 → s.dev.addressed h.link.val h.dst = false ∨ s.dev.comesBack h false chan = true → s.gives c (fun d' =>
      d'.rd (lnkDispRx h.link.val) = (s.dev.rd (lnkDispRx h.link.val) + 1) % 2 ^ 32 ∧
      (s.dev.route h.link.val h.dst ≠ 3 ∨ h.bcast = true ∨ s.dev.comesBack h false chan = true → d'.answer = none) ∧
      (s.dev.comesBack h false chan = true → d'.net = { s.dev.net with tx := d'.net.tx, passed := d'.net.passed }) ∧
      (∀ k ∈ d'.net.ctxs, k ∈ s.dev.net.ctxs) ∧ s.dev.keepsRegs d' frameFlds)) ∧
    (h.q false chan 0 pl = 0 → s.dev.comesBack h false chan = false → s.dev.addressed h.link.val h.dst = true →
      s.dev.executes h.link.val = true → h.bcast = false →
      (s.dev.ctx h.key chan = none → h.sync = false → s.gives c (fun d' => d'.answer = some (ans 9) ∧ s.dev.keepsRegs d' frameFlds)) ∧
      (s.dev.ctx h.key chan = none → h.sync = true → 256 ≤ (s.dev.dropExpired (s.when_ t)).ctxUsed → s.gives c (fun d' =>
        d'.answer = some (ans 10) ∧ s.dev.keepsRegs d' frameFlds)) ∧
      (∀ k, s.dev.ctx h.key chan = some k → s.when_ t < k.used + s.dev.rd netCtxHold * 1000000 →
        (k.seq ≠ h.seq → h.sync = false → h.seq ≠ (k.seq + 1) % 65536 →
          s.gives c (fun d' => d'.answer = some (ans 8) ∧ s.dev.keepsRegs d' frameFlds)) ∧
        (∀ a, k.seq = h.seq → k.ack = some a → s.gives c (fun d' => d'.answer = some a ∧ s.dev.keepsRegs d' (netDispDup :: frameFlds)))))

/-- What a dispatch does when it is executed, and what becomes of one that is sent (R467 to R475, R479, R480, R485, R493): a
register access is answered with its own result and data, a timed group waits for its time, a fetch gives the entries asked for,
a slice waits for its cycle, a notice frees the contexts of its address, a service waits for Almanac until its answer is given.
A dispatch for another segment is sent on with TTL counted down, and one that only passes along the line as it is; an acknowledge ends
the one it names, and the next one that waits is sent; one without an acknowledge is sent again and at last ends with 18; a context that
is not used expires. -/
def Obligations.DispatchEffects : Prop :=
  ∀ (s : State) (t : Nat) (h : DispHdr) (ws : List Nat), s.ready t →
    (s.dev.accepts h 0 ws → h.len = 4 * ws.length → accessValid ws = true →
      ∀ c, c = Instr.registerAccessRead t h ws ∨ c = .registerAccessWrite t h ws → s.givesMem c (fun d' _ =>
        d'.answer = some ((((s.dev.at_ t).executing h 0 ws (s.when_ t)).runAccess s.mem h.req ws (s.when_ t)).1))) ∧
    (∀ i v, s.dev.accepts h 1 [i, 4 * v, ws.length] → h.len = 12 → i % 256 = 1 →
      s.givesMem (.parameterStoreDispatch t h [i, 4 * v, ws.length]) (fun d' _ =>
      d'.rd pstStage = v % 2 ^ (pstStage).w ∧ d'.rd pstLen = ws.length % 2 ^ (pstLen).w ∧
      d'.answer = some { result := 0, data := [d'.rd pstResult] })) ∧
    (∀ lo hi, s.dev.accepts h 2 (lo :: hi :: ws) → h.len = 4 * (ws.length + 2) → ws ≠ [] → groupsValid ws.length ws = true →
      s.dev.rd timeState = 2 → s.dev.net.timed.length < 8 → s.gives (.axisCommandQueue t h (lo :: hi :: ws)) (fun d' =>
        d'.net.timed = s.dev.net.timed ++ [{ req := h.req, src := h.key, seq := h.seq, bcast := false, exec := lo + hi * 2 ^ 32, groups := ws,
                                             at_ := s.when_ t }] ∧ d'.answer = none)) ∧
    (∀ x, s.dev.net.timed = [x] → x.bcast = false → s.dev.timedDue x (s.when_ t) = true →
      s.gives (.timedDispatchApply t) (fun d' => ∃ a n, d'.answer = some { result := a, data := [n] })) ∧
    ((∀ x ∈ s.dev.net.timed, s.dev.timedDue x (s.when_ t) = false) → s.gives (.timedDispatchApply t) (fun d' =>
      d'.net = { s.dev.net with tx := [] } ∧ d' = { s.dev.at_ t with net := d'.net })) ∧
    (∀ i n, s.dev.accepts h 3 [i, n] → h.len = 8 → 0 < n → n ≤ 15 → s.gives (.chronographFetch t h [i, n]) (fun d' =>
      d'.answer = some (((s.dev.at_ t).executing h 3 [i, n] (s.when_ t)).fetchEntries s.mem i n (s.when_ t)).1 ∧
      ((fetchRange (s.dev.rd chronWr) i n).2 = 0 → d'.answer = some { result := 0, data := [i] }))) ∧
    (∀ serial stn, s.dev.accepts h 4 (joinWords serial stn) → s.dev.headLink h.link.val = true → s.gives (.join t h serial stn) (fun d' =>
      d'.answer = some (ans 0) ∧
      (d'.net.joins.length = s.dev.net.joins.length + 1 ∨ d'.rd netResult = 21 ∧ d'.net.joins = s.dev.net.joins) ∧
      (s.dev.awaiting (netAddress (s.dev.rd netSeg) 255) 4 = false → s.dev.rd (lnkEn (s.dev.originLink true)) ≠ 0 →
        ∃ f ∈ d'.net.tx, f.link = s.dev.originLink true ∧ f.kind = 3 ∧ f.chan = 4 ∧ f.dst = netAddress (s.dev.rd netSeg) 255 ∧
          f.words.take 2 = words64 serial))) ∧
    (∀ serial stn sl cg, s.dev.comesBack h false 4 = false → s.dev.addressed h.link.val h.dst = true → h.bcast = true → stnOf h.src = 0 →
      (∀ b ∈ s.dev.net.bcast, b ≠ (h.key, h.seq)) → s.dev.rd netState = 3 → serial = s.dev.rd devSerial →
      (h.q false 4 0 (grantWords serial stn sl cg) = 0 → s.gives (.grant t h serial stn sl cg false) (fun d' =>
        d'.net.grant = some { cycle := cg, stn := stn, slice := sl, pos := s.dev.rd netPos })) ∧
      (h.q false 4 0 (grantWords serial 0 {} 0) = 0 → s.gives (.grant t h serial stn sl cg true) (fun d' =>
        d'.rd netResult = 21 ∧ d'.rd netState = 1))) ∧
    (∀ sl cycle, s.dev.accepts h 4 (sliceWords sl cycle) → s.dev.headLink h.link.val = false → s.gives (.slice t h sl cycle) (fun d' =>
      d'.net.slices = s.dev.net.slices ++ [(cycle, sl)] ∧ d'.answer = some (ans 0))) ∧
    (∀ addr joined, s.dev.accepts h 4 (noticeWords addr joined) → s.dev.headLink h.link.val = false →
      s.gives (.notice t h addr joined) (fun d' => (∀ k ∈ d'.net.ctxs, k.src ≠ addr) ∧ d'.answer = some (ans 0))) ∧
    (∀ served, s.dev.accepts h 8 ws → h.len = 0 → s.dev.rd devAlmReady ≠ 0 → s.dev.net.alm.length < 32 →
      s.gives (.serviceDirectory t h ws served) (fun d' =>
        d'.answer = some { result := 0, data := served.map (fun p => p.1 % 256 * 2 ^ 24 + p.2 % 2 ^ 24) })) ∧
    (∀ chan, s.dev.accepts h chan ws → s.dev.rd devAlmReady ≠ 0 → s.dev.net.alm.length < 32 → s.gives (.almanacService t h chan ws) (fun d' =>
      d'.net.alm = s.dev.net.alm ++ [{ link := h.link.val, src := h.key, chan := chan, seq := h.seq, words := ws }] ∧ d'.answer = none ∧
      d'.rd almQueued = (s.dev.net.alm.length + 1) % 2 ^ (almQueued).w)) ∧
    (∀ src chan a, (∃ x ∈ s.dev.net.alm, x.src = src ∧ x.chan = chan) → s.gives (.almanacAnswer t src chan a ws) (fun d' =>
      d'.answer = some { result := a, data := ws } ∧ ∀ x ∈ d'.net.alm, ¬ (x.src = src ∧ x.chan = chan))) ∧
    (∀ src chan a, (∀ x ∈ s.dev.net.alm, ¬ (x.src = src ∧ x.chan = chan)) → exec (.almanacAnswer t src chan a ws) s = .next (s.heard t)) ∧
    (∀ chan, h.q false chan 0 ws = 0 → s.dev.comesBack h false chan = false → 5 ≤ chan → chan < 8 → h.bcast = false →
      s.dev.addressed h.link.val h.dst = true → s.dev.executes h.link.val = true →
      s.gives (.dispatchOtherChannel t h chan ws) (fun d' => d'.answer = some (ans 12))) ∧
    (∀ ack chan result, (∀ x, s.dev.onward h.link.val = some x → s.dev.rd (lnkEn x) ≠ 0 →
        s.gives (.dispatchForward t h ack chan result ws false) (fun d' => ∃ f ∈ d'.net.tx, f.link = x ∧ f.ttl = h.ttl ∧ f.words = ws ∧
          f.dst = h.dst ∧ f.src = h.src ∧ f.chan = chan ∧ f.seq = h.seq ∧ f.fcs = some h.fcs)) ∧
      (h.q ack chan result ws = 0 → s.dev.comesBack h ack chan = false → s.dev.route h.link.val h.dst = 1 →
        (∀ x ∈ s.dev.linksTo true h.dst, 0 < h.ttl → s.dev.rd (lnkEn x) ≠ 0 →
          s.gives (.dispatchForward t h ack chan result ws false) (fun d' => ∃ f ∈ d'.net.tx, f.link = x ∧ f.ttl = h.ttl - 1 ∧ f.words = ws ∧
            f.dst = h.dst ∧ f.src = h.src ∧ f.chan = chan ∧ f.seq = h.seq ∧ f.fcs = none)) ∧
        (h.ttl = 0 → s.gives (.dispatchForward t h ack chan result ws false) (fun d' =>
          s.dev.rd netDispTtl + 1 < 2 ^ (netDispTtl).w → d'.rd netDispTtl = s.dev.rd netDispTtl + 1)))) ∧
    (∀ chan result o, h.q true chan result ws = 0 → s.dev.comesBack h true chan = false → s.dev.ackHere h.link.val h.dst = true →
      s.dev.net.out = [o] →
      (o.dst = h.src → o.chan = chan → o.seq = h.seq →
        (s.dev.net.waiting = [] → s.gives (.acknowledge t h chan result ws) (fun d' => d'.net.out = [])) ∧
        (∀ w rest, takeFirst (fun w => w.dst == o.dst && w.chan == o.chan) s.dev.net.waiting = some (w, rest) →
          s.gives (.acknowledge t h chan result ws) (fun d' => d'.net.waiting = rest ∧
            ∃ p, d'.net.out = [p] ∧ p.dst = o.dst ∧ p.chan = o.chan ∧ p.words = w.words ∧ p.tries = 0 ∧ p.at_ = s.when_ t))) ∧
      (o.dst ≠ h.src ∨ o.chan ≠ chan ∨ o.seq ≠ h.seq → s.gives (.acknowledge t h chan result ws) (fun d' => d'.net.out = [o]))) ∧
    (∀ o, s.dev.net.out = [o] → stnOf o.dst ≠ 255 → o.at_ + s.dev.rd netRetxT * 1000 ≤ s.when_ t →
      (o.tries < s.dev.rd netRetxN → s.gives (.dispatchRetransmit t o.dst o.chan) (fun d' =>
        d'.net.out = [{ o with tries := o.tries + 1, at_ := s.when_ t }] ∧
        ∀ x ∈ s.dev.linksTo (s.dev.headLink o.link) o.dst, s.dev.rd (lnkEn x) ≠ 0 →
          ∃ f ∈ d'.net.tx, f.link = x ∧ f.kind = 3 ∧ f.seq = o.seq ∧ f.sync = o.sync ∧ f.dst = o.dst ∧ f.src = o.src ∧ f.words = o.words)) ∧
      (s.dev.rd netRetxN ≤ o.tries → s.gives (.dispatchTimeout t o.dst o.chan) (fun d' => d'.answer = some (ans 18) ∧
        (s.dev.net.waiting = [] → d'.net.out = []) ∧ bitAt (d'.rd (pageEvent .net)) 2 = true))) ∧
    (∀ dst chan, s.dev.net.out = [] → exec (.dispatchRetransmit t dst chan) s = .next (s.heard t) ∧
      exec (.dispatchTimeout t dst chan) s = .next (s.heard t)) ∧
    (∀ src chan, s.gives (.contextExpiry t src chan) (fun d' => d' = { s.dev.at_ t with net := d'.net } ∧
      ∀ k, k ∈ d'.net.ctxs ↔ k ∈ s.dev.net.ctxs ∧
        ¬ (k.src = src ∧ k.chan = chan ∧ k.used + s.dev.rd netCtxHold * 1000000 ≤ s.when_ t)))

/-! ### Faults, records and firmware -/

/-- Clears, conditions, the reaction table and the chronograph (R533, R541 to R545, R548, R550, R553, R562): a clear is taken for the
boundary unless one waits; a condition that has ended leaves the active set; a table word takes its reaction, not below its
minimum, unless the table is fixed, and its write is recorded as one of the expert area; the entries that are due go to bank 31 in order, and to nothing else but the frames of export streams; a record of Almanac is
delivered where its code is one of Almanac's. -/
def Obligations.FaultsAndRecords : Prop :=
  ∀ (s : State) (t : Nat) (r : Req), s.ready t → Memory.wf s.mem = true →
    (∀ (e : Fin 128) (i : Fin 32), s.dev.reaches r = true → s.dev.clearReq = none → s.gives (.faultClear t r e i) (fun d' =>
      d'.clearReq = some { all := false, entry := e, inst := i, at_ := s.when_ t, src := r.src } ∧ d'.rd fltClrResult = 0 ∧
      d'.active = s.dev.active ∧ s.dev.keepsRegs d' [fltClrResult, fltClrCleared])) ∧
    (s.dev.reaches r = true → s.dev.clearReq = none → s.gives (.clearAll t r) (fun d' => (∃ q, d'.clearReq = some q ∧ q.all = true ∧ q.at_ = s.when_ t) ∧
      d'.rd fltClrResult = 0 ∧ d'.active = s.dev.active ∧ s.dev.keepsRegs d' [fltClrResult, fltClrCleared])) ∧
    (s.dev.reaches r = true → s.dev.clearReq.isSome = true → ∀ c, c = Instr.clearAll t r ∨ (∃ e i, c = .faultClear t r e i) → s.gives c (fun d' =>
      d'.rd fltClrResult = 3 ∧ d'.rd fltClrCleared = 0 ∧ bitAt (d'.rd (pageEvent .flt)) 3 = true ∧
      (s.taken r .flt 0x048 t).onlyRegs d' [fltClrResult, fltClrCleared, pageEvent .flt, pageSticky .flt])) ∧
    (∀ (e : Fin 128) (i : Fin 256) (row : FaultRow), faultEntry? e = some row →
      (row.kind = 1 → (row.code = 0x2303 → s.dev.rd (adcMode i) ≠ 2) → (row.code = 0x6D02 → s.dev.net.good ≠ 0) →
        (row.code = 0x6D04 → s.dev.rd timeState = 2) → s.gives (.conditionEnd t e i) (fun d' =>
        d'.isActive row.code i = false ∧ (∀ k j, s.dev.isActive k j = false → d'.isActive k j = false) ∧
        s.dev.keepsRegs d' ([devReady, pageEvent .dev, pageSticky .dev] ++ chronFlds))) ∧
      (row.kind ≠ 1 ∨ (row.code = 0x2303 ∧ s.dev.rd (adcMode i) = 2) ∨ (row.code = 0x6D02 ∧ s.dev.net.good = 0) ∨
        (row.code = 0x6D04 ∧ s.dev.rd timeState ≠ 2) → exec (.conditionEnd t e i) s = .next (s.passed t)) ∧
      (∀ v, s.opens r .flt (0x400 + 4 * e) t → s.dev.expertOpen r .flt = true → row.kind = 1 ∨ row.kind = 2 → s.dev.tableFixed = false →
        s.dev.reactMin = none → s.gives (.reactionTableWrite t r e v) (fun d' =>
        d'.rd (fltReactReact e) = max (min (v % 8) 4) (reactDefault e) % 2 ^ (fltReactReact e).w ∧
        d'.rd (fltReactWiden e) = v / 16 % 2 ^ (fltReactWiden e).w ∧ d'.rd (fltReactAxes e) = v / 256 % 2 ^ (fltReactAxes e).w ∧
        s.dev.keepsRegs d' ([fltReactReact e, fltReactWiden e, fltReactAxes e, pageEvent .flt, pageSticky .flt] ++ chronFlds) ∧
        d'.expert = ((s.taken r .flt (0x400 + 4 * e) t).expertWritten r .flt (0x400 + 4 * e) (s.when_ t)).expert)) ∧
      (∀ v, s.opens r .flt (0x400 + 4 * e) t → s.dev.expertOpen r .flt = true → s.dev.tableFixed = true ∨ row.kind = 0 ∨ row.kind = 3 →
        exec (.reactionTableWrite t r e v) s =
          .next { s with dev := (s.taken r .flt (0x400 + 4 * e) t).expertWritten r .flt (0x400 + 4 * e) (s.when_ t) })) ∧
    (s.dev.chronOn = true → s.givesMem (.chronWrite t) (fun d' m' => (∀ e ∈ d'.queue, s.when_ t < e.time + 2000) ∧
      d'.rd chronWr % 2 ^ 32 = (s.dev.rd chronWr + (s.dev.queue.filter (fun e => decide (e.time + 2000 ≤ s.when_ t))).length) % 2 ^ 32 ∧
      ((∀ k, (s.dev.stream k).kind = 3 → (s.dev.stream k).isOpen = false) → keepsBytes s.mem m' chronBase (16 * 4096)) ∧
      ∀ a, a < chronBase ∨ chronBase + 16 * 4096 ≤ a →
        (∀ k, (s.dev.stream k).kind = 3 → ∀ f ∈ (s.dev.stream k).frames, a < frameAddr f ∨ frameAddr f + 4096 ≤ a) →
        m'.read a = s.mem.read a)) ∧
    (s.dev.chronOn = false → exec (.chronWrite t) s = .next (s.passed t)) ∧
    (∀ v, v % 65536 < 4096 → v % 16 ≠ 0 → s.gives (.almanacRecord t .alm v) (fun d' => d'.rd chronAlm = v % 2 ^ (chronAlm).w ∧
      (s.taken .alm .chron 0x058 t).onlyNoted d' [chronAlm])) ∧
    (∀ v, r ≠ .alm → s.dev.reaches r = true → exec (.almanacRecord t r v) s = .next { s with dev := s.taken r .chron 0x058 t })

/-- The mailbox and Almanac (R487 to R497): a command is refused BUSY over a running one, refused for its bar, and otherwise runs;
a recheck and a verification end with their results; a heartbeat of a core that was released makes it ready; a switch waits
for the quiet point or its time; a watchdog or an exception stops the core, which restarts unless it did so too often. -/
def Obligations.Firmware : Prop :=
  ∀ (s : State) (t : Nat) (r : Req) (v : Nat), s.ready t →
    (∀ (i : Instr) (cmd arg : Nat), (i, cmd, arg) ∈ [(Instr.recheck t r v, 1, v), (.almVerify t r v, 2, v), (.almSwitch t r v, 3, v),
        (.almRestart t r, 4, 0), (.almStop t r, 5, 0), (.almStart t r, 6, 0)] →
      s.dev.reaches r = true →
      (s.dev.rd merBusy ≠ 0 → s.gives i (fun d' => d'.rd merResult = 3 ∧ bitAt (d'.rd (pageEvent .mer)) 1 = true ∧
        (s.taken r .mer 0x044 t).onlyRegs d' [merResult, pageEvent .mer, pageSticky .mer])) ∧
      (∀ why, s.dev.rd merBusy = 0 → s.dev.merBar r cmd arg = some why → s.gives i (fun d' => d'.rd merResult = why ∧
        d'.rd merLastCmd = cmd ∧ bitAt (d'.rd (pageEvent .mer)) 1 = true ∧
        (s.taken r .mer 0x044 t).onlyRegs d' [merSource, merLastCmd, merResult, pageEvent .mer, pageSticky .mer])) ∧
      (s.dev.rd merBusy = 0 → s.dev.merBar r cmd arg = none → s.gives i (fun d' => d'.rd merLastCmd = cmd ∧
        (cmd = 5 → d'.rd merBusy = 0 ∧ d'.rd merResult = 1 ∧ d'.rd almStopped = 1 ∧ d'.rd devAlmReady = 0) ∧
        (cmd ≠ 5 → d'.rd merBusy = 1 ∧ d'.rd merResult = 0) ∧
        (cmd = 1 → bitAt (d'.rd merRecheck) v = true) ∧ (cmd = 2 → d'.alm.purpose = 1 ∧ d'.alm.slot = v) ∧
        (cmd = 3 → d'.rd almQuietReq = 1 ∧ d'.alm.slot = v ∧ d'.alm.quietAt = some (s.when_ t)) ∧
        (cmd = 4 ∨ cmd = 6 → d'.rd almStopped = 1 ∧ d'.alm.purpose = 5 ∧ d'.alm.slot = s.dev.rd almBootSlot)))) ∧
    (∀ (c : Fin 6) (fine lane dac : Bool), bitAt (s.dev.rd merRecheck) c = true → s.gives (.recheckEnd t c fine lane dac) (fun d' =>
      bitAt (d'.rd merRecheck) c = false ∧ d'.rd merBusy = 0 ∧ d'.rd merResult = 1 ∧ d'.isActive 0x2122 c = fine ∧
      d'.isActive 0x2141 c = lane ∧ d'.isActive 0x2124 c = dac)) ∧
    (∀ (c : Fin 6) (fine lane dac : Bool), bitAt (s.dev.rd merRecheck) c = false →
      exec (.recheckEnd t c fine lane dac) s = .next (s.passed t)) ∧
    (∀ img, s.dev.alm.purpose = 1 → s.dev.alm.restart = false → s.gives (.almanacVerifyEnd t img) (fun d' => d'.rd merBusy = 0 ∧
      d'.rd merResult = (if s.dev.keyValid = true ∧ s.dev.verifyCause img = 0 then 1 else 22) ∧ d'.alm.purpose = 0)) ∧
    (∀ img, s.dev.alm.purpose = 0 → s.dev.alm.restart = false → exec (.almanacVerifyEnd t img) s = .next (s.passed t)) ∧
    (s.dev.rd almStopped = 0 → s.dev.alm.waiting = true → s.gives (.almHeartbeat t .alm v) (fun d' => d'.rd devAlmReady = 1 ∧
      d'.rd almRunning = 1 ∧ d'.rd almHeartbeat = v % 2 ^ (almHeartbeat).w ∧ d'.alm = { s.dev.alm with beat := s.when_ t, waiting := false } ∧
      s.dev.keepsRegs d' ([devAlmReady, almRunning, almHeartbeat, pageEvent .dev, pageSticky .dev] ++ chronFlds))) ∧
    (s.dev.reaches r = true → r ≠ .alm ∨ s.dev.rd almStopped ≠ 0 →
      exec (.almHeartbeat t r v) s = .next { s with dev := s.taken r .alm 0x050 t }) ∧
    (v % 2 = 1 → s.dev.alm.quietAt.isSome = true → s.gives (.almQuiet t .alm v) (fun d' => d'.rd almQuiet = 1 ∧ d'.alm.quietAt = none ∧
      d'.alm.purpose = 3 ∧ d'.alm.slot = s.dev.alm.slot ∧ d'.rd almStopped = 1 ∧ d'.rd almQuietReq = 0)) ∧
    (s.dev.reaches r = true → r ≠ .alm ∨ v % 2 = 0 → s.gives (.almQuiet t r v) (fun d' =>
      d'.rd almQuiet = v % 2 ∧ (s.taken r .alm 0x054 t).onlyRegs d' [almQuiet])) ∧
    (∀ q, s.dev.alm.quietAt = some q → q + s.dev.rd almQuietTmax * 1000000 ≤ s.when_ t → s.gives (.almQuietTimeout t) (fun d' =>
      d'.alm.quietAt = none ∧ d'.alm.purpose = 3 ∧ d'.rd almStopped = 1 ∧ d'.rd almQuietReq = 0)) ∧
    (s.dev.alm.quietAt = none → exec (.almQuietTimeout t) s = .next (s.passed t)) ∧
    (∀ (i : Instr) (cause : Nat), (i, cause) ∈ [(Instr.almWatchdog t, 4), (.almCoreException t, 5)] →
      (s.dev.rd almStopped = 0 → s.dev.alm.beat + s.dev.rd almWdt * 1000000 ≤ s.when_ t → s.gives i (fun d' =>
        d'.rd almStopped = 1 ∧ d'.rd devAlmReady = 0 ∧ d'.rd almRunning = 0 ∧
        (s.dev.alm.restarts.length < s.dev.rd almRestartMax → d'.alm.restart = true ∧ d'.rd almCause = cause) ∧
        (s.dev.rd almRestartMax = 0 → d'.alm.restart = false ∧ d'.rd almCause = 6))) ∧
      (s.dev.rd almStopped ≠ 0 → exec i s = .next (s.passed t)))

/-! ### The host port, the store and the pins -/

/-- Frames of the host port (R77, R394, R499 to R503, R508): before the second step of start-up every frame is ignored; one that is cut
in its address is discarded with 7, an unknown opcode with 6; every other frame carries the status byte of the frame before,
and its units act in order: one unit of each form here, on a page with the result of that access, on a bank with exactly its
bytes. -/
def Obligations.HostFrames : Prop :=
  ∀ (s : State) (t : Nat) (ab a v : Nat), s.ready t → Memory.wf s.mem = true →
    (s.dev.stepsDone < 2 → ∀ c us part clocks late lines, c ∈ [Instr.status t ab, .pageWrite t ab a us part, .pageRead t ab a clocks late,
        .bankWrite32 t ab a us part, .bankWrite16 t ab a us part, .bankWrite8 t ab a us part, .bankRead32 t ab a clocks late,
        .extRead t ab a clocks late lines, .hostOpcodeUnknown t v] → exec c s = .next (s.passed t)) ∧
    (2 ≤ s.dev.stepsDone →
      (∀ c op us part clocks late lines, (c, op) ∈ [(Instr.pageWrite t ab a us part, 0x10), (.pageRead t ab a clocks late, 0x11),
          (.bankWrite32 t ab a us part, 0x20), (.bankWrite16 t ab a us part, 0x22), (.bankWrite8 t ab a us part, 0x24),
          (.bankRead32 t ab a clocks late, 0x21), (.extRead t ab a clocks late lines, 0x31)] → ab < 24 →
        s.gives c (fun d' => d'.answer = some { result := (s.dev.at_ t).statusByte, data := [] } ∧ d'.rd hspLastOpcode = op ∧
          d'.rd hspLastUnits = 0 ∧ d'.rd hspLastFlags = 7 ∧ d'.rd hspFrames = (s.dev.rd hspFrames + 1) % 2 ^ 16 ∧
          s.dev.keepsRegs d' [hspLastOpcode, hspLastUnits, hspLastPartial, hspLastFlags, hspFrames, pageEvent .hsp, pageSticky .hsp])) ∧
      (∀ bits, 32 ≤ bits → s.gives (.status t bits) (fun d' => d'.answer = some
        { result := (s.dev.at_ t).statusByte,
          data := [s.dev.rd hspLastOpcode * 2 ^ 24 + s.dev.rd hspLastUnits * 2 ^ 13 + s.dev.rd hspLastPartial * 2 ^ 8 + s.dev.rd hspLastFlags] } ∧
        d'.rd hspFrames = (s.dev.rd hspFrames + 1) % 2 ^ 16)) ∧
      (v < 256 → v ∉ [0x00, 0x10, 0x11, 0x20, 0x21, 0x22, 0x24, 0x31] → s.givesMem (.hostOpcodeUnknown t v) (fun d' m' => m' = s.mem ∧
        d'.rd hspLastOpcode = v ∧ d'.rd hspLastFlags = 6 ∧ d'.answer = some { result := (s.dev.at_ t).statusByte, data := [] })) ∧
      (24 ≤ ab → a % 4096 + 4 ≤ 4096 →
        s.givesMem (.pageWrite t ab a [v] 0) (fun d' _ => d'.rd hspLastOpcode = 0x10 ∧ d'.rd hspLastUnits = 1 ∧
          d'.rd hspLastFlags = ((s.dev.at_ t).busWrite s.mem .host (a / 4096 % 4096) (a % 4096) (v % 2 ^ 32) true (s.when_ t)).1 % 2 ^ (hspLastFlags).w ∧
          ∀ f, f.pg ≠ .hsp →
            d'.rd f = ((s.dev.at_ t).busWrite s.mem .host (a / 4096 % 4096) (a % 4096) (v % 2 ^ 32) true (s.when_ t)).2.rd f) ∧
        s.givesMem (.pageRead t ab a (s.dev.rd hspDummy + 32) []) (fun d' m' => m' = s.mem ∧ d'.rd hspLastUnits = 1 ∧ d'.answer = some
          { result := (s.dev.at_ t).statusByte,
            data := [((s.dev.at_ t).busRead .host (a / 4096 % 4096) (a % 4096) true (s.when_ t)).2.1] })) ∧
      (24 ≤ ab → a < memSize → s.dev.bankBar (bankOf a) 3 true = none → (s.dev.mbank (bankOf a)).bad = [] →
        ∀ c op n, (c, op, n) ∈ [(Instr.bankWrite32 t ab a [v] 0, 0x20, 4), (.bankWrite16 t ab a [v] 0, 0x22, 2), (.bankWrite8 t ab a [v] 0, 0x24, 1)] →
          a % n = 0 → s.givesMem c (fun d' m' => m'.num a n = v % 256 ^ n ∧ keepsBytes s.mem m' a n ∧ d'.rd hspLastOpcode = op ∧
            d'.rd hspLastUnits = 1 ∧ d'.rd hspLastFlags = 0)) ∧
      (24 ≤ ab → a + 4 ≤ memSize → a % 4 = 0 → s.dev.bankBar (bankOf a) 3 false = none → (s.dev.mbank (bankOf a)).bad = [] →
        s.givesMem (.bankRead32 t ab a (s.dev.rd hspDummy + 32) []) (fun d' m' => m' = s.mem ∧ d'.rd hspLastUnits = 1 ∧
          d'.answer = some { result := (s.dev.at_ t).statusByte, data := [s.mem.word a] })) ∧
      (∀ (w : Nat) (line : List Nat), w = s.dev.rd hspXbase * 2 ^ 24 + a → 24 ≤ ab → a + 4 ≤ 2 ^ 24 → a % 4 = 0 → 0x40000000 ≤ s.dev.rd hspXbase * 2 ^ 24 →
        (s.dev.at_ t).windowHit w 4 = none → s.dev.serves (portOf (s.dev.windowExt w)) = true →
        s.dev.extOk (s.dev.windowExt w / 32 * 32) 32 = true →
        s.givesMem (.extRead t ab a (s.dev.rd hspDummy + 32) [] [(false, line)]) (fun d' m' => m' = s.mem ∧ d'.rd hspLastUnits = 1 ∧
          d'.answer = some
            { result := (s.dev.at_ t).statusByte,
              data := [bytesOf ((List.range 8).map (fun i => line.getD i 0 % 2 ^ 32)) (s.dev.windowExt w - s.dev.windowExt w / 32 * 32) 4] })) ∧
      (24 ≤ ab → s.dev.rd hspXbase * 2 ^ 24 < 0x40000000 → s.givesMem (.extRead t ab a (s.dev.rd hspDummy + 32) [] []) (fun d' m' =>
        m' = s.mem ∧ d'.rd hspLastUnits = 1 ∧ (∃ x, d'.answer = some { result := (s.dev.at_ t).statusByte, data := [x] }))))

/-- The fuses, the parameter store, and the pins that only move (R418, R515 to R526, R583, R584): a command over a running one is
refused BUSY, and one that is barred for its reason; one that is taken runs, and ends with the page no longer busy; a raw burn
only adds bits; a store that is verified is in force, one that is not leaves the other half alone. A read of a register
answers what the page gives; TRST_N holds the test access port in reset. -/
def Obligations.StoreAndPins : Prop :=
  ∀ (s : State) (t : Nat) (r : Req) (g : Fin 16), s.ready t →
    (∀ (i : Instr) (cmd region : Nat), (i, cmd, region) ∈ [(Instr.program t r g, 1, g.val), (.reburn t r g, 2, g.val), (.lock t r g, 3, g.val), (.check t r, 4, 0)] →
      s.dev.reaches r = true →
      (s.dev.persistBusy = true → s.gives i (fun d' => d'.rd otpResult = 3 ∧ (s.taken r .otp 0x044 t).onlyRegs d' [otpResult, pageEvent .otp, pageSticky .otp])) ∧
      (∀ why, s.dev.persistBusy = false → s.dev.otpBar r cmd region = some why → s.gives i (fun d' => d'.rd otpResult = why ∧
        d'.rd otpLastCmd = cmd ∧ (s.taken r .otp 0x044 t).onlyRegs d' [otpSource, otpLastCmd, otpResult, pageEvent .otp, pageSticky .otp])) ∧
      (s.dev.persistBusy = false → s.dev.otpBar r cmd region = none → s.gives i (fun d' => d'.rd otpBusy = 1 ∧ d'.rd otpResult = 0 ∧
        d'.rd otpLastCmd = cmd ∧ d'.eng.cmd = cmd ∧ d'.eng.region = region ∧ d'.nv = s.dev.nv))) ∧
    (∀ weak, s.dev.reaches r = true → s.dev.expertOpen r .otp = true → s.dev.persistBusy = false → s.dev.pins.vok = true → s.dev.rd otpRawRow < otpRows →
      s.dev.rawLocked (s.dev.rd otpRawRow) (rowBits ((List.range 8).map (fun w => s.dev.rd (otpRawData w)))) = false →
      s.gives (.otpRawGo t r weak) (fun d' => d'.rd otpResult = 1 ∧
        d'.nv = s.dev.nv.burn (s.dev.rd otpRawRow) (rowBits ((List.range 8).map (fun w => s.dev.rd (otpRawData w)))))) ∧
    (∀ weak, s.dev.reaches r = true → s.dev.expertOpen r .otp = true → s.dev.persistBusy = false → s.dev.pins.vok = false →
      s.gives (.otpRawGo t r weak) (fun d' => d'.rd otpResult = 23 ∧ d'.nv = s.dev.nv)) ∧
    (∀ weak, s.dev.reaches r = true → s.dev.expertOpen r .otp = false → s.gives (.otpRawGo t r weak) (fun d' =>
      d'.answer = some { result := 3, data := [] } ∧ d'.nv = s.dev.nv ∧ d'.rd otpResult = s.dev.rd otpResult)) ∧
    (∀ weak, (1 ≤ s.dev.eng.cmd → s.dev.eng.cmd ≤ 4 → s.gives (.otpCommandEnd t weak) (fun d' => d'.rd otpBusy = 0 ∧ d'.eng = {} ∧
        (s.dev.eng.cmd = 3 → d'.nv = s.dev.nv.burn (120 + s.dev.eng.region) (2 ^ 256 - 1) ∧ d'.rd otpResult = 1) ∧
        (s.dev.eng.cmd = 4 → d'.nv = s.dev.nv ∧ d'.rd otpResult = 1))) ∧
      (s.dev.eng.cmd = 0 → exec (.otpCommandEnd t weak) s = .next (s.passed t))) ∧
    (∀ merge, s.dev.reaches r = true → s.dev.persistBusy = true → s.gives (.store t r merge) (fun d' => d'.rd pstResult = 3 ∧
      (s.taken r .pst 0x054 t).onlyRegs d' [pstResult, pageEvent .pst, pageSticky .pst])) ∧
    (∀ merge, s.dev.reaches r = true → s.dev.persistBusy = false → s.dev.pins.vok = true → s.dev.rd pstLen = 0 → s.dev.nextGen ≤ 0xFFFFFFFE →
      (s.dev.newRecords merge []).length ≤ 32765 → s.gives (.store t r merge) (fun d' => d'.rd pstResult = 0 ∧ d'.rd pstBusy = 1 ∧
        d'.eng.cmd = 6 ∧ d'.eng.half = s.dev.targetHalf ∧ d'.eng.gen = s.dev.nextGen ∧ d'.nv = s.dev.nv)) ∧
    (s.dev.eng.cmd = 6 → s.dev.rd pstCopied = 0 → s.dev.rd pstLen = 0 → (s.dev.newRecords (!s.dev.eng.image.isEmpty) []).length ≤ 32765 →
      s.gives (.storeCopyEnd t) (fun d' => d'.rd pstCopied = 1 ∧ d'.nv.halves = s.dev.nv.halves.set s.dev.eng.half [] ∧
        d'.nv.fuses = s.dev.nv.fuses)) ∧
    (s.dev.eng.cmd = 6 → s.dev.rd pstCopied ≠ 0 → s.gives (.storeVerifyEnd t true) (fun d' => d'.rd pstResult = 1 ∧ d'.rd pstBusy = 0 ∧
        d'.nv.halves = s.dev.nv.halves.set s.dev.eng.half (imageOf s.dev.eng.gen s.dev.eng.records) ∧ d'.image = s.dev.eng.records ∧
        d'.rd pstHalfAct = s.dev.eng.half % 2 ^ (pstHalfAct).w) ∧
      s.gives (.storeVerifyEnd t false) (fun d' => d'.rd pstResult = 24 ∧ d'.rd pstBusy = 0 ∧ d'.nv = s.dev.nv ∧ d'.image = s.dev.image)) ∧
    (s.dev.eng.cmd ≠ 6 → exec (.storeCopyEnd t) s = .next (s.passed t) ∧ ∀ good, exec (.storeVerifyEnd t good) s = .next (s.passed t)) ∧
    s.gives (.vokFall t) (fun d' => d'.pins = { s.dev.pins with vok := false } ∧ d'.nv = s.dev.nv ∧
      (s.dev.eng.cmd = 6 → d'.rd pstResult = 23 ∧ d'.rd pstBusy = 0)) ∧
    exec (.vokRise t) s = .next { s with dev := { s.dev.at_ t with pins := { s.dev.pins with vok := true } } } ∧
    exec (.vddsmFall t) s = .next { s with dev := { s.dev.at_ t with pins := { s.dev.pins with vddsm := false } } } ∧
    exec (.vddsmRise t) s = .next { s with dev := { s.dev.at_ t with pins := { s.dev.pins with vddsm := true } } } ∧
    (∀ a bytes page off, s.dev.reaches r = true → pageAddress a = some (page, off) → s.gives (.registerRead t r a bytes) (fun d' => d'.answer = some
      { result := ((s.dev.at_ t).busRead r page off (bytes == 4) (s.when_ t)).1,
        data := [((s.dev.at_ t).busRead r page off (bytes == 4) (s.when_ t)).2.1] })) ∧
    (∀ k : Fin 12, s.gives (.reticlePulseEnd t k) (fun d' => d'.evp k = { s.dev.evp k with
        pulses := (s.dev.evp k).pulses.filter (fun p => decide (4 * s.when_ t < p.2)) } ∧
      d' = { s.dev.at_ t with evps := d'.evps } ∧ ∀ j : Nat, j ≠ k → d'.evp j = s.dev.evp j)) ∧
    exec (.testAccessPort t (.trst false)) s =
      .next { s with dev := { s.dev.at_ t with tap := { s.dev.tap with st := .reset, ir := tapBypass, trstN := false } } } ∧
    (∀ tms tdi, s.dev.tap.trstN = false → exec (.testAccessPort t (.tck tms tdi)) s = .next (s.passed t)) ∧
    (∀ tdi, s.dev.tap.trstN = true → s.dev.tap.st = .exit1Ir → s.gives (.testAccessPort t (.tck true tdi)) (fun d' =>
      d'.tap = { s.dev.tap with st := .updateIr, ir := tapInstr s.dev.tap.irShift }))
end

