-- ==== Sys2Proof/Laws/Effect.lean ====
section
/-! SUPPORT. The outcome of a command under each combinator: when it answers, what the next state is, and what it leaves alone. -/
namespace Sys2Proof.Machine

@[simp] theorem Dev.at_now (d : Dev) (t : Nat) : (d.at_ t).now = max d.now t := rfl
@[simp] theorem Dev.at_running (d : Dev) (t : Nat) : (d.at_ t).running = d.running := rfl
@[simp] theorem Dev.at_pins (d : Dev) (t : Nat) : (d.at_ t).pins = d.pins := rfl
@[simp] theorem Dev.at_nv (d : Dev) (t : Nat) : (d.at_ t).nv = d.nv := rfl
@[simp] theorem Dev.at_tap (d : Dev) (t : Nat) : (d.at_ t).tap = d.tap := rfl
@[simp] theorem Dev.at_regs (d : Dev) (t : Nat) : (d.at_ t).regs = d.regs := rfl
@[simp] theorem Dev.at_stepsDone (d : Dev) (t : Nat) : (d.at_ t).stepsDone = d.stepsDone := rfl
@[simp] theorem Dev.at_active (d : Dev) (t : Nat) : (d.at_ t).active = d.active := rfl
@[simp] theorem Dev.at_net (d : Dev) (t : Nat) : (d.at_ t).net = d.net := rfl
@[simp] theorem Dev.at_freeCtr (d : Dev) (t : Nat) : (d.at_ t).freeCtr = d.freeCtr := rfl
@[simp] theorem Dev.at_shadows (d : Dev) (t : Nat) : (d.at_ t).shadows = d.shadows := rfl
@[simp] theorem Dev.at_commits (d : Dev) (t : Nat) : (d.at_ t).commits = d.commits := rfl
@[simp] theorem Dev.at_holdEnd (d : Dev) (t : Nat) : (d.at_ t).holdEnd = d.holdEnd := rfl
@[simp] theorem Dev.at_rdHold (d : Dev) (t : Nat) : (d.at_ t).rdHold = d.rdHold := rfl
@[simp] theorem Dev.at_wrHold (d : Dev) (t : Nat) : (d.at_ t).wrHold = d.wrHold := rfl
@[simp] theorem Dev.at_cycleAt (d : Dev) (t : Nat) : (d.at_ t).cycleAt = d.cycleAt := rfl
@[simp] theorem Dev.at_cycleWrites (d : Dev) (t : Nat) : (d.at_ t).cycleWrites = d.cycleWrites := rfl
@[simp] theorem Dev.at_expert (d : Dev) (t : Nat) : (d.at_ t).expert = d.expert := rfl
@[simp] theorem Dev.at_refused5 (d : Dev) (t : Nat) : (d.at_ t).refused5 = d.refused5 := rfl
@[simp] theorem Dev.at_deferred (d : Dev) (t : Nat) : (d.at_ t).deferred = d.deferred := rfl
@[simp] theorem Dev.at_clearReq (d : Dev) (t : Nat) : (d.at_ t).clearReq = d.clearReq := rfl
@[simp] theorem Dev.at_evtTick (d : Dev) (t : Nat) : (d.at_ t).evtTick = d.evtTick := rfl
@[simp] theorem Dev.at_queue (d : Dev) (t : Nat) : (d.at_ t).queue = d.queue := rfl
@[simp] theorem Dev.at_lostPend (d : Dev) (t : Nat) : (d.at_ t).lostPend = d.lostPend := rfl
@[simp] theorem Dev.at_startBuf (d : Dev) (t : Nat) : (d.at_ t).startBuf = d.startBuf := rfl
@[simp] theorem Dev.at_bufOver (d : Dev) (t : Nat) : (d.at_ t).bufOver = d.bufOver := rfl
@[simp] theorem Dev.at_chronOn (d : Dev) (t : Nat) : (d.at_ t).chronOn = d.chronOn := rfl
@[simp] theorem Dev.at_reactMin (d : Dev) (t : Nat) : (d.at_ t).reactMin = d.reactMin := rfl
@[simp] theorem Dev.at_tableFixed (d : Dev) (t : Nat) : (d.at_ t).tableFixed = d.tableFixed := rfl
@[simp] theorem Dev.at_pkgHot (d : Dev) (t : Nat) : (d.at_ t).pkgHot = d.pkgHot := rfl
@[simp] theorem Dev.at_neverReady (d : Dev) (t : Nat) : (d.at_ t).neverReady = d.neverReady := rfl
@[simp] theorem Dev.at_noTime (d : Dev) (t : Nat) : (d.at_ t).noTime = d.noTime := rfl
@[simp] theorem Dev.at_errRun (d : Dev) (t : Nat) : (d.at_ t).errRun = d.errRun := rfl
@[simp] theorem Dev.at_agree (d : Dev) (t : Nat) : (d.at_ t).agree = d.agree := rfl
@[simp] theorem Dev.at_alignLeft (d : Dev) (t : Nat) : (d.at_ t).alignLeft = d.alignLeft := rfl
@[simp] theorem Dev.at_tickStart (d : Dev) (t : Nat) : (d.at_ t).tickStart = d.tickStart := rfl
@[simp] theorem Dev.at_nextTick (d : Dev) (t : Nat) : (d.at_ t).nextTick = d.nextTick := rfl
@[simp] theorem Dev.at_stretch (d : Dev) (t : Nat) : (d.at_ t).stretch = d.stretch := rfl
@[simp] theorem Dev.at_restart (d : Dev) (t : Nat) : (d.at_ t).restart = d.restart := rfl
@[simp] theorem Dev.at_axes (d : Dev) (t : Nat) : (d.at_ t).axes = d.axes := rfl
@[simp] theorem Dev.at_profs (d : Dev) (t : Nat) : (d.at_ t).profs = d.profs := rfl
@[simp] theorem Dev.at_adc (d : Dev) (t : Nat) : (d.at_ t).adc = d.adc := rfl
@[simp] theorem Dev.at_xckDue (d : Dev) (t : Nat) : (d.at_ t).xckDue = d.xckDue := rfl
@[simp] theorem Dev.at_slots (d : Dev) (t : Nat) : (d.at_ t).slots = d.slots := rfl
@[simp] theorem Dev.at_installs (d : Dev) (t : Nat) : (d.at_ t).installs = d.installs := rfl
@[simp] theorem Dev.at_lanes (d : Dev) (t : Nat) : (d.at_ t).lanes = d.lanes := rfl
@[simp] theorem Dev.at_admWait (d : Dev) (t : Nat) : (d.at_ t).admWait = d.admWait := rfl
@[simp] theorem Dev.at_memBusy (d : Dev) (t : Nat) : (d.at_ t).memBusy = d.memBusy := rfl
@[simp] theorem Dev.at_banks (d : Dev) (t : Nat) : (d.at_ t).banks = d.banks := rfl
@[simp] theorem Dev.at_fbps (d : Dev) (t : Nat) : (d.at_ t).fbps = d.fbps := rfl
@[simp] theorem Dev.at_evps (d : Dev) (t : Nat) : (d.at_ t).evps = d.evps := rfl
@[simp] theorem Dev.at_streams (d : Dev) (t : Nat) : (d.at_ t).streams = d.streams := rfl
@[simp] theorem Dev.at_alm (d : Dev) (t : Nat) : (d.at_ t).alm = d.alm := rfl
@[simp] theorem Dev.at_eng (d : Dev) (t : Nat) : (d.at_ t).eng = d.eng := rfl
@[simp] theorem Dev.at_otpReads (d : Dev) (t : Nat) : (d.at_ t).otpReads = d.otpReads := rfl
@[simp] theorem Dev.at_otpTable (d : Dev) (t : Nat) : (d.at_ t).otpTable = d.otpTable := rfl
@[simp] theorem Dev.at_safe (d : Dev) (t : Nat) : (d.at_ t).safe = d.safe := rfl
@[simp] theorem Dev.at_keys (d : Dev) (t : Nat) : (d.at_ t).keys = d.keys := rfl
@[simp] theorem Dev.at_image (d : Dev) (t : Nat) : (d.at_ t).image = d.image := rfl
@[simp] theorem Dev.at_answer (d : Dev) (t : Nat) : (d.at_ t).answer = none := rfl
@[simp] theorem Dev.at_served (d : Dev) (t : Nat) : (d.at_ t).served = [] := rfl

@[simp] theorem Dev.keepAll_now (d e : Dev) : (d.keepAll e).now = d.now := rfl
@[simp] theorem Dev.keepAll_running (d e : Dev) : (d.keepAll e).running = d.running := rfl
@[simp] theorem Dev.keepAll_pins (d e : Dev) : (d.keepAll e).pins = d.pins := rfl
@[simp] theorem Dev.keepAll_nv (d e : Dev) : (d.keepAll e).nv = d.nv := rfl
@[simp] theorem Dev.keepAll_tap (d e : Dev) : (d.keepAll e).tap = d.tap := rfl
theorem Dev.keepAll_self (d : Dev) : d.keepAll d = d := rfl

/-- A command answers a next state whenever the block is ready for its time. -/
theorem onAll_next (keep : Dev → Dev → Dev) (t : Nat) (s : State) (f : Nat → Mem → Dev → Dev × Mem) (h : s.ready t) :
    onAll keep t s f = .next { s with dev := keep (s.dev.at_ t) (f (s.when_ t) s.mem (s.dev.at_ t)).1,
                                      mem := (f (s.when_ t) s.mem (s.dev.at_ t)).2 } := by
  unfold onAll
  have h2 : ¬ 2 ^ 64 ≤ (s.dev.at_ t).now := Nat.not_le.mpr h.2
  dsimp only
  rw [if_neg h2, if_neg (by simp [h.1])]
  rfl

theorem onDev_next (t : Nat) (s : State) (f : Nat → Dev → Dev) (h : s.ready t) :
    onDev t s f = .next { s with dev := (s.dev.at_ t).keepAll (f (s.when_ t) (s.dev.at_ t)) } := onAll_next _ _ _ _ h

theorem onRead_next (t : Nat) (s : State) (f : Nat → Mem → Dev → Dev) (h : s.ready t) :
    onRead t s f = .next { s with dev := (s.dev.at_ t).keepAll (f (s.when_ t) s.mem (s.dev.at_ t)) } := onAll_next _ _ _ _ h

theorem onMem_next (t : Nat) (s : State) (f : Nat → Mem → Dev → Dev × Mem) (h : s.ready t) :
    onMem t s f = .next { s with dev := (s.dev.at_ t).keepAll (f (s.when_ t) s.mem (s.dev.at_ t)).1,
                                 mem := (f (s.when_ t) s.mem (s.dev.at_ t)).2 } := onAll_next _ _ _ _ h

theorem onDevNv_next (t : Nat) (s : State) (f : Nat → Dev → Dev) (h : s.ready t) :
    onDevNv t s f = .next { s with dev := (s.dev.at_ t).keepPins (f (s.when_ t) (s.dev.at_ t)) } := onAll_next _ _ _ _ h

theorem onReadNv_next (t : Nat) (s : State) (f : Nat → Mem → Dev → Dev) (h : s.ready t) :
    onReadNv t s f = .next { s with dev := (s.dev.at_ t).keepPins (f (s.when_ t) s.mem (s.dev.at_ t)) } := onAll_next _ _ _ _ h

theorem onMemNv_next (t : Nat) (s : State) (f : Nat → Mem → Dev → Dev × Mem) (h : s.ready t) :
    onMemNv t s f = .next { s with dev := (s.dev.at_ t).keepPins (f (s.when_ t) s.mem (s.dev.at_ t)).1,
                                   mem := (f (s.when_ t) s.mem (s.dev.at_ t)).2 } := onAll_next _ _ _ _ h

theorem onWrite_next (r : Req) (p : Page) (off t : Nat) (s : State) (f : Nat → Mem → Dev → Dev) (h : s.ready t) :
    onWrite r p off t s f = .next { s with dev := (s.dev.at_ t).keepAll (Dev.written r p off (s.when_ t) (f (s.when_ t) s.mem) (s.dev.at_ t)) } :=
  onRead_next t s (fun t mem d => Dev.written r p off t (f t mem) d) h

theorem onWriteNv_next (r : Req) (p : Page) (off t : Nat) (s : State) (f : Nat → Mem → Dev → Dev) (h : s.ready t) :
    onWriteNv r p off t s f = .next { s with dev := (s.dev.at_ t).keepPins (Dev.written r p off (s.when_ t) (f (s.when_ t) s.mem) (s.dev.at_ t)) } :=
  onReadNv_next t s (fun t mem d => Dev.written r p off t (f t mem) d) h

theorem onPinRead_next (t : Nat) (s : State) (f : Nat → Mem → Dev → Dev) (h : s.ready t) :
    onPinRead t s f = .next { s with dev := (s.dev.at_ t).keepNv (f (s.when_ t) s.mem (s.dev.at_ t)) } := by
  unfold onPinRead
  rw [if_pos h.1]
  exact onAll_next _ _ _ _ h

/-- What a command of the combinator keeps, whatever its effect is. -/
theorem keepAll_keeps (s : State) (t : Nat) (e : Dev) (m : Mem) (h : s.ready t) :
    s.keeps { s with dev := (s.dev.at_ t).keepAll e, mem := m } t := ⟨rfl, h.1, rfl, rfl, rfl, rfl⟩

/-- The outcomes of the combinator: the time does not fit, the block is held in reset, or it is ready. -/
theorem onAll_cases (keep : Dev → Dev → Dev) (t : Nat) (s : State) (f : Nat → Mem → Dev → Dev × Mem) :
    (2 ^ 64 ≤ max s.dev.now t ∧ onAll keep t s f = .fault .timeWraps) ∨
    (max s.dev.now t < 2 ^ 64 ∧ s.dev.running = false ∧ onAll keep t s f = .next s) ∨
    (s.ready t ∧ onAll keep t s f = .next { s with dev := keep (s.dev.at_ t) (f (s.when_ t) s.mem (s.dev.at_ t)).1,
                                                   mem := (f (s.when_ t) s.mem (s.dev.at_ t)).2 }) := by
  by_cases h : 2 ^ 64 ≤ max s.dev.now t
  · refine .inl ⟨h, ?_⟩
    unfold onAll
    exact if_pos h
  · have h' : max s.dev.now t < 2 ^ 64 := Nat.not_le.mp h
    refine .inr ?_
    cases hr : s.dev.running with
    | false =>
      refine .inl ⟨h', rfl, ?_⟩
      unfold onAll
      exact (if_neg h).trans (if_pos (by simp [hr]))
    | true => exact .inr ⟨⟨hr, h'⟩, onAll_next keep t s f ⟨hr, h'⟩⟩

/-- What a write of a register with a row of its own can do: nothing, where the requester reaches no page (R77); LOCKED, in an
expert area that is not open to it (R58, R63); or it is accepted (R66) and ends with OK. -/
theorem Dev.written_cases (r : Req) (p : Page) (off t : Nat) (f : Dev → Dev) (d : Dev) :
    (d.reaches r = false ∧ Dev.written r p off t f d = d) ∨
    (d.reaches r = true ∧ 0x400 ≤ off ∧ (d.dropHigh r).expertOpen r p = false ∧
      Dev.written r p off t f d = ((d.dropHigh r).accessRefused r (pageIndex p) off 3 true t).answered 3 []) ∨
    (d.reaches r = true ∧ (off < 0x400 ∨ (d.dropHigh r).expertOpen r p = true) ∧
      Dev.written r p off t f d = ((d.dropHigh r).accept r p off t f).answered 0 []) := by
  unfold Dev.written
  cases hr : d.reaches r with
  | false => exact .inl ⟨rfl, rfl⟩
  | true =>
    by_cases hl : 0x400 ≤ off ∧ !(d.dropHigh r).expertOpen r p
    · exact .inr (.inl ⟨rfl, hl.1, by simpa using hl.2, if_pos hl⟩)
    · refine .inr (.inr ⟨rfl, ?_, if_neg hl⟩)
      by_cases ho : off < 0x400
      · exact .inl ho
      · exact .inr (by simpa [Nat.not_lt.mp ho] using hl)

/-- The outcomes of a tick boundary: the time does not fit, the block is held in reset, or the boundary comes (R27). -/
theorem onTick_cases (oc : Nat) (s : State) :
    (2 ^ 64 ≤ max s.dev.nextTick s.dev.now ∧ onTick oc s = .fault .timeWraps) ∨
    (max s.dev.nextTick s.dev.now < 2 ^ 64 ∧ s.dev.running = false ∧ onTick oc s = .next s) ∨
    (max s.dev.nextTick s.dev.now < 2 ^ 64 ∧ s.dev.running = true ∧
      ∃ d e, onTick oc s = .next { s with dev := Dev.keepAll e d } ∧ e.now = max s.dev.now s.dev.nextTick ∧ e.running = true ∧
        e.pins = { s.dev.pins with oc := oc } ∧ e.nv = s.dev.nv ∧ e.tap = s.dev.tap) := by
  by_cases h : 2 ^ 64 ≤ max s.dev.nextTick s.dev.now
  · exact .inl ⟨h, if_pos h⟩
  · refine .inr ?_
    cases hr : s.dev.running with
    | false => exact .inl ⟨Nat.not_le.mp h, rfl, (if_neg h).trans (if_pos (by simp [hr]))⟩
    | true => exact .inr ⟨Nat.not_le.mp h, rfl, _, _, (if_neg h).trans (if_neg (by simp [hr])), rfl, hr, rfl, rfl, rfl⟩

end Sys2Proof.Machine
end

