-- ==== Sys2Proof/Laws/Exec.lean ====
section
/-! SUPPORT. The shape of every command's meaning: which combinator carries it out. -/
namespace Sys2Proof.Machine

/-- The shapes of a meaning. -/
inductive ExecShape (c : Instr) (s : State) : Prop
  /-- It changes neither pins, store nor memory. -/
  | plain (t : Nat) (f : Nat → Mem → Dev → Dev) (h : exec c s = onAll Dev.keepAll t s (fun t m d => (f t m d, m)))
      (r : c.resets = false)
  /-- It may store to the memory banks. -/
  | stores (t : Nat) (f : Nat → Mem → Dev → Dev × Mem) (h : exec c s = onAll Dev.keepAll t s f) (r : c.resets = false)
      (w : c.writesBanks = true)
  /-- It may reach the persistence engine. -/
  | persists (t : Nat) (f : Nat → Mem → Dev → Dev) (h : exec c s = onAll Dev.keepPins t s (fun t m d => (f t m d, m)))
      (r : c.resets = false) (p : c.reachesStore = true)
  /-- It may reach the persistence engine and store to the memory banks. -/
  | persistsStores (t : Nat) (f : Nat → Mem → Dev → Dev × Mem) (h : exec c s = onAll Dev.keepPins t s f) (r : c.resets = false)
      (p : c.reachesStore = true) (w : c.writesBanks = true)
  /-- It changes a level at the pins. -/
  | pin (t : Nat) (f : Nat → Mem → Dev → Dev) (h : exec c s = onPinRead t s f) (r : c.resets = false) (p : c.movesPins = true)
  /-- It is the tick boundary. -/
  | tick (oc : Nat) (h : c = .tickBoundary oc)
  /-- It is a command of the supplies or the reset. -/
  | reset (d : Dev) (h : exec c s = .next { s with dev := d }) (r : c.resets = true)

/-- Every command's meaning has one of the shapes. -/
theorem exec_shape (c : Instr) (s : State) : ExecShape c s := by
  cases c with
  | supplyMonitorAssert => exact .reset _ rfl rfl
  | resetNFall => exact .reset _ rfl rfl
  | resetNRelease => exact .reset _ rfl rfl
  | clockGood => exact .reset _ rfl rfl
  | otpLoad t weak x => exact .plain t _ (show execOtpLoad t weak x s = _ by unfold execOtpLoad onDev; rfl) rfl
  | parameterStoreLoad t => exact .plain t _ (show execParameterStoreLoad t s = _ by unfold execParameterStoreLoad onRead; rfl) rfl
  | selfCalibration t fine coefs offsets => exact .plain t _ (show execSelfCalibration t fine coefs offsets s = _ by unfold execSelfCalibration onDev; rfl) rfl
  | bankInitialisation t fails => exact .stores t _ (show execBankInitialisation t fails s = _ by unfold execBankInitialisation onMem; rfl) rfl rfl
  | meridianChecks t rom lanes clocks dac => exact .plain t _ (show execMeridianChecks t rom lanes clocks dac s = _ by unfold execMeridianChecks onDev; rfl) rfl
  | almanacImageVerified t boot other => exact .plain t _ (show execAlmanacImageVerified t boot other s = _ by unfold execAlmanacImageVerified onDev; rfl) rfl
  | tickBoundary oc => exact .tick _ rfl
  | holdoverEntry t => exact .plain t _ (show execHoldoverEntry t s = _ by unfold execHoldoverEntry onDev; rfl) rfl
  | steerLimit t => exact .plain t _ (show execSteerLimit t s = _ by unfold execSteerLimit onDev; rfl) rfl
  | registerWrite t r a bytes v => exact .persists t _ (show execRegisterWrite t r a bytes v s = _ by unfold execRegisterWrite onReadNv; rfl) rfl rfl
  | pageCommit t r page v => exact .plain t _ (show execPageCommit t r page v s = _ by unfold execPageCommit onRead; rfl) rfl
  | pageExpertKey t r page v => exact .plain t _ (show execPageExpertKey t r page v s = _ by unfold execPageExpertKey onRead; rfl) rfl
  | expertAreaTimeout t r page => exact .plain t _ (show execExpertAreaTimeout t r page s = _ by unfold execExpertAreaTimeout onDev; rfl) rfl
  | devCommitHold t r hold => exact .plain t _ (show execDevCommitHold t r hold s = _ by unfold execDevCommitHold onWrite onRead; rfl) rfl
  | tickSlew t r v => exact .plain t _ (show execTickSlew t r v s = _ by unfold execTickSlew onWrite onRead; rfl) rfl
  | arm t r n => exact .plain t _ (show execArm t r n s = _ by unfold execArm onWrite onRead; rfl) rfl
  | disarm t r n => exact .plain t _ (show execDisarm t r n s = _ by unfold execDisarm onWrite onRead; rfl) rfl
  | start t r n => exact .plain t _ (show execStart t r n s = _ by unfold execStart onWrite onRead; rfl) rfl
  | stop t r n => exact .plain t _ (show execStop t r n s = _ by unfold execStop onWrite onRead; rfl) rfl
  | stopHold t r n => exact .plain t _ (show execStopHold t r n s = _ by unfold execStopHold onWrite onRead; rfl) rfl
  | brake t r n => exact .plain t _ (show execBrake t r n s = _ by unfold execBrake onWrite onRead; rfl) rfl
  | coast t r n => exact .plain t _ (show execCoast t r n s = _ by unfold execCoast onWrite onRead; rfl) rfl
  | service t r n => exact .plain t _ (show execService t r n s = _ by unfold execService onWrite onRead; rfl) rfl
  | returnAxis t r n => exact .plain t _ (show execReturnAxis t r n s = _ by unfold execReturnAxis onWrite onRead; rfl) rfl
  | brakeStartAtValley t n => exact .plain t _ (show execBrakeStartAtValley t n s = _ by unfold execBrakeStartAtValley onDev; rfl) rfl
  | moveAbs t r n => exact .plain t _ (show execMoveAbs t r n s = _ by unfold execMoveAbs onWrite onRead; rfl) rfl
  | moveRel t r n => exact .plain t _ (show execMoveRel t r n s = _ by unfold execMoveRel onWrite onRead; rfl) rfl
  | halt t r n => exact .plain t _ (show execHalt t r n s = _ by unfold execHalt onWrite onRead; rfl) rfl
  | ephStart t r n => exact .plain t _ (show execEphStart t r n s = _ by unfold execEphStart onWrite onRead; rfl) rfl
  | ephContinue t r n => exact .plain t _ (show execEphContinue t r n s = _ by unfold execEphContinue onWrite onRead; rfl) rfl
  | ephResume t r n => exact .plain t _ (show execEphResume t r n s = _ by unfold execEphResume onWrite onRead; rfl) rfl
  | ephAbort t r n => exact .plain t _ (show execEphAbort t r n s = _ by unfold execEphAbort onWrite onRead; rfl) rfl
  | focIntReset t r n => exact .plain t _ (show execFocIntReset t r n s = _ by unfold execFocIntReset onWrite onRead; rfl) rfl
  | motIntReset t r n => exact .plain t _ (show execMotIntReset t r n s = _ by unfold execMotIntReset onWrite onRead; rfl) rfl
  | excitationStart t r n v => exact .plain t _ (show execExcitationStart t r n v s = _ by unfold execExcitationStart onWrite onRead; rfl) rfl
  | excitationEnd t n written => exact .plain t _ (show execExcitationEnd t n written s = _ by unfold execExcitationEnd onDev; rfl) rfl
  | setPos t r p => exact .plain t _ (show execSetPos t r p s = _ by unfold execSetPos onWrite onRead; rfl) rfl
  | referenceSetArm t r p => exact .plain t _ (show execReferenceSetArm t r p s = _ by unfold execReferenceSetArm onWrite onRead; rfl) rfl
  | fbEdge t p fine lines => exact .pin t _ (show execFbEdge t p fine lines s = _ by unfold execFbEdge ; rfl) rfl rfl
  | illegalLimit t p => exact .plain t _ (show execIllegalLimit t p s = _ by unfold execIllegalLimit onDev; rfl) rfl
  | refMismatchLimit t p => exact .plain t _ (show execRefMismatchLimit t p s = _ by unfold execRefMismatchLimit onDev; rfl) rfl
  | wireDisagreement t p pairs => exact .plain t _ (show execWireDisagreement t p pairs s = _ by unfold execWireDisagreement onDev; rfl) rfl
  | hallInvalid t p => exact .plain t _ (show execHallInvalid t p s = _ by unfold execHallInvalid onDev; rfl) rfl
  | sserFrameStart t p => exact .plain t _ (show execSserFrameStart t p s = _ by unfold execSserFrameStart onDev; rfl) rfl
  | sserFrameEnd t p frame => exact .plain t _ (show execSserFrameEnd t p frame s = _ by unfold execSserFrameEnd onRead; rfl) rfl
  | sserErrLimit t p => exact .plain t _ (show execSserErrLimit t p s = _ by unfold execSserErrLimit onDev; rfl) rfl
  | estimatorStill t p => exact .plain t _ (show execEstimatorStill t p s = _ by unfold execEstimatorStill onDev; rfl) rfl
  | latchCapture t p fine falling => exact .plain t _ (show execLatchCapture t p fine falling s = _ by unfold execLatchCapture onDev; rfl) rfl
  | dutyLoad t n => exact .plain t _ (show execDutyLoad t n s = _ by unfold execDutyLoad onDev; rfl) rfl
  | currentWindowEnd t n codes => exact .stores t _ (show execCurrentWindowEnd t n codes s = _ by unfold execCurrentWindowEnd onMem; rfl) rfl rfl
  | staleLimit t n => exact .plain t _ (show execStaleLimit t n s = _ by unfold execStaleLimit onDev; rfl) rfl
  | sumErrorLimit t n => exact .plain t _ (show execSumErrorLimit t n s = _ by unfold execSumErrorLimit onDev; rfl) rfl
  | offsetMeasurementStart t n => exact .plain t _ (show execOffsetMeasurementStart t n s = _ by unfold execOffsetMeasurementStart onDev; rfl) rfl
  | offsetMeasurementEnd t n => exact .plain t _ (show execOffsetMeasurementEnd t n s = _ by unfold execOffsetMeasurementEnd onDev; rfl) rfl
  | overcurrentTrip t n phases link since => exact .pin t _ (show execOvercurrentTrip t n phases link since s = _ by unfold execOvercurrentTrip onPin; rfl) rfl rfl
  | xfltAssert t j => exact .pin t _ (show execXfltAssert t j s = _ by unfold execXfltAssert onPin; rfl) rfl rfl
  | brakeRegulation t n p => exact .plain t _ (show execBrakeRegulation t n p s = _ by unfold execBrakeRegulation onDev; rfl) rfl
  | brakeReclose t n crossing => exact .plain t _ (show execBrakeReclose t n crossing s = _ by unfold execBrakeReclose onDev; rfl) rfl
  | bootstrapLow t n leg => exact .plain t _ (show execBootstrapLow t n leg s = _ by unfold execBootstrapLow onDev; rfl) rfl
  | bootstrapPrecharged t c => exact .plain t _ (show execBootstrapPrecharged t c s = _ by unfold execBootstrapPrecharged onDev; rfl) rfl
  | enableFall t i => exact .pin t _ (show execEnableFall t i s = _ by unfold execEnableFall onPin; rfl) rfl rfl
  | vgdOutOfRange t c => exact .pin t _ (show execVgdOutOfRange t c s = _ by unfold execVgdOutOfRange onPin; rfl) rfl rfl
  | busOutOfRange t u => exact .plain t _ (show execBusOutOfRange t u s = _ by unfold execBusOutOfRange onDev; rfl) rfl
  | dieOverTemperature t c => exact .plain t _ (show execDieOverTemperature t c s = _ by unfold execDieOverTemperature onDev; rfl) rfl
  | vbusStaleLimit t n => exact .plain t _ (show execVbusStaleLimit t n s = _ by unfold execVbusStaleLimit onDev; rfl) rfl
  | injGo t r c mask => exact .plain t _ (show execInjGo t r c mask s = _ by unfold execInjGo onWrite onRead; rfl) rfl
  | injectionComplete t c i code => exact .stores t _ (show execInjectionComplete t c i code s = _ by unfold execInjectionComplete onMem; rfl) rfl rfl
  | seqGo t r c => exact .plain t _ (show execSeqGo t r c s = _ by unfold execSeqGo onWrite onRead; rfl) rfl
  | sequencePassEnd t c codes => exact .stores t _ (show execSequencePassEnd t c codes s = _ by unfold execSequencePassEnd onMem; rfl) rfl rfl
  | supervisionScan t c => exact .plain t _ (show execSupervisionScan t c s = _ by unfold execSupervisionScan onDev; rfl) rfl
  | supervisionScanEnd t c codes temps => exact .stores t _ (show execSupervisionScanEnd t c codes temps s = _ by unfold execSupervisionScanEnd onMem; rfl) rfl rfl
  | supervisionScanLate t c => exact .plain t _ (show execSupervisionScanLate t c s = _ by unfold execSupervisionScanLate onDev; rfl) rfl
  | crossCheckEvaluate t p codesE codesO => exact .stores t _ (show execCrossCheckEvaluate t p codesE codesO s = _ by unfold execCrossCheckEvaluate onMem; rfl) rfl rfl
  | xckClear t r p => exact .plain t _ (show execXckClear t r p s = _ by unfold execXckClear onWrite onRead; rfl) rfl
  | fgcal t r c => exact .plain t _ (show execFgcal t r c s = _ by unfold execFgcal onWrite onRead; rfl) rfl
  | fgcalEnd t c ks => exact .plain t _ (show execFgcalEnd t c ks s = _ by unfold execFgcalEnd onDev; rfl) rfl
  | backgroundCalibrationEnd t c k => exact .plain t _ (show execBackgroundCalibrationEnd t c k s = _ by unfold execBackgroundCalibrationEnd onDev; rfl) rfl
  | sliceRetry t c k x => exact .plain t _ (show execSliceRetry t c k x s = _ by unfold execSliceRetry onDev; rfl) rfl
  | restoreEnd t c ks => exact .plain t _ (show execRestoreEnd t c ks s = _ by unfold execRestoreEnd onDev; rfl) rfl
  | curProgramStart t c errs => exact .plain t _ (show execCurProgramStart t c errs s = _ by unfold execCurProgramStart onRead; rfl) rfl
  | globalLaneStart t g errs => exact .plain t _ (show execGlobalLaneStart t g errs s = _ by unfold execGlobalLaneStart onRead; rfl) rfl
  | programEnd t l stalls => exact .stores t _ (show execProgramEnd t l stalls s = _ by unfold execProgramEnd onMem; rfl) rfl rfl
  | curDeadline t n => exact .plain t _ (show execCurDeadline t n s = _ by unfold execCurDeadline onRead; rfl) rfl
  | globalLaneDeadline t g => exact .plain t _ (show execGlobalLaneDeadline t g s = _ by unfold execGlobalLaneDeadline onRead; rfl) rfl
  | overrunLimit t n k => exact .plain t _ (show execOverrunLimit t n k s = _ by unfold execOverrunLimit onDev; rfl) rfl
  | trackingError t n => exact .plain t _ (show execTrackingError t n s = _ by unfold execTrackingError onDev; rfl) rfl
  | followingError t n => exact .plain t _ (show execFollowingError t n s = _ by unfold execFollowingError onDev; rfl) rfl
  | feedbackFreeze t n => exact .plain t _ (show execFeedbackFreeze t n s = _ by unfold execFeedbackFreeze onDev; rfl) rfl
  | observerFallback t n => exact .plain t _ (show execObserverFallback t n s = _ by unfold execObserverFallback onDev; rfl) rfl
  | overspeed t n => exact .plain t _ (show execOverspeed t n s = _ by unfold execOverspeed onDev; rfl) rfl
  | stopEnd t n => exact .plain t _ (show execStopEnd t n s = _ by unfold execStopEnd onDev; rfl) rfl
  | stopTimeout t n => exact .plain t _ (show execStopTimeout t n s = _ by unfold execStopTimeout onDev; rfl) rfl
  | catchMeasureEnd t n => exact .plain t _ (show execCatchMeasureEnd t n s = _ by unfold execCatchMeasureEnd onDev; rfl) rfl
  | alignEnd t n => exact .plain t _ (show execAlignEnd t n s = _ by unfold execAlignEnd onDev; rfl) rfl
  | polarityEnd t n => exact .plain t _ (show execPolarityEnd t n s = _ by unfold execPolarityEnd onDev; rfl) rfl
  | blendStart t n => exact .plain t _ (show execBlendStart t n s = _ by unfold execBlendStart onDev; rfl) rfl
  | handTimeout t n => exact .plain t _ (show execHandTimeout t n s = _ by unfold execHandTimeout onDev; rfl) rfl
  | blendEnd t n => exact .plain t _ (show execBlendEnd t n s = _ by unfold execBlendEnd onDev; rfl) rfl
  | lossOfLock t n => exact .plain t _ (show execLossOfLock t n s = _ by unfold execLossOfLock onDev; rfl) rfl
  | retriesClear t n => exact .plain t _ (show execRetriesClear t n s = _ by unfold execRetriesClear onDev; rfl) rfl
  | brakeEnd t n => exact .plain t _ (show execBrakeEnd t n s = _ by unfold execBrakeEnd onDev; rfl) rfl
  | stillBrakeEnd t n => exact .plain t _ (show execStillBrakeEnd t n s = _ by unfold execStillBrakeEnd onDev; rfl) rfl
  | brakeHoldEnd t n => exact .plain t _ (show execBrakeHoldEnd t n s = _ by unfold execBrakeHoldEnd onDev; rfl) rfl
  | brakeTimeout t n => exact .plain t _ (show execBrakeTimeout t n s = _ by unfold execBrakeTimeout onDev; rfl) rfl
  | curveStale t n => exact .plain t _ (show execCurveStale t n s = _ by unfold execCurveStale onDev; rfl) rfl
  | crvNetVal t r n v => exact .plain t _ (show execCrvNetVal t r n v s = _ by unfold execCrvNetVal onWrite onRead; rfl) rfl
  | retStart t r k => exact .plain t _ (show execRetStart t r k s = _ by unfold execRetStart onWrite onRead; rfl) rfl
  | retAbort t r k => exact .plain t _ (show execRetAbort t r k s = _ by unfold execRetAbort onWrite onRead; rfl) rfl
  | reticlePredictedFire t k => exact .plain t _ (show execReticlePredictedFire t k s = _ by unfold execReticlePredictedFire onRead; rfl) rfl
  | netSample t r k ts => exact .plain t _ (show execNetSample t r k ts s = _ by unfold execNetSample onWrite onRead; rfl) rfl
  | netSourceStale t k => exact .plain t _ (show execNetSourceStale t k s = _ by unfold execNetSourceStale onDev; rfl) rfl
  | emuEdge t k => exact .plain t _ (show execEmuEdge t k s = _ by unfold execEmuEdge onDev; rfl) rfl
  | latchInputEdge t k fine rising => exact .pin t _ (show execLatchInputEdge t k fine rising s = _ by unfold execLatchInputEdge onPin; rfl) rfl rfl
  | pwidthEdge t k fine rising => exact .pin t _ (show execPwidthEdge t k fine rising s = _ by unfold execPwidthEdge onPin; rfl) rfl rfl
  | gpioEdge t i rising => exact .pin t _ (show execGpioEdge t i rising s = _ by unfold execGpioEdge onPin; rfl) rfl rfl
  | gpioSet t r mask => exact .plain t _ (show execGpioSet t r mask s = _ by unfold execGpioSet onWrite onRead; rfl) rfl
  | gpioClr t r mask => exact .plain t _ (show execGpioClr t r mask s = _ by unfold execGpioClr onWrite onRead; rfl) rfl
  | installCustom t r n k keep => exact .plain t _ (show execInstallCustom t r n k keep s = _ by unfold execInstallCustom onWrite onRead; rfl) rfl
  | installStock t r n k stock => exact .plain t _ (show execInstallStock t r n k stock s = _ by unfold execInstallStock onWrite onRead; rfl) rfl
  | remove t r n k => exact .plain t _ (show execRemove t r n k s = _ by unfold execRemove onWrite onRead; rfl) rfl
  | installJudged t n => exact .plain t _ (show execInstallJudged t n s = _ by unfold execInstallJudged onRead; rfl) rfl
  | prgSwap t r n mask => exact .plain t _ (show execPrgSwap t r n mask s = _ by unfold execPrgSwap onWrite onRead; rfl) rfl
  | pbWrite t r n w v => exact .plain t _ (show execPbWrite t r n w v s = _ by unfold execPbWrite onWrite onRead; rfl) rfl
  | admissionEvaluation t l => exact .plain t _ (show execAdmissionEvaluation t l s = _ by unfold execAdmissionEvaluation onDev; rfl) rfl
  | scrubRead t l a err => exact .plain t _ (show execScrubRead t l a err s = _ by unfold execScrubRead onDev; rfl) rfl
  | cluClear t r c => exact .plain t _ (show execCluClear t r c s = _ by unfold execCluClear onWrite onRead; rfl) rfl
  | glnClear t r g => exact .plain t _ (show execGlnClear t r g s = _ by unfold execGlnClear onWrite onRead; rfl) rfl
  | bankAccess t accs => exact .stores t _ (show execBankAccess t accs s = _ by unfold execBankAccess onMem; rfl) rfl rfl
  | bnkHandover t r force b owner readers => exact .plain t _ (show execBnkHandover t r force b owner readers s = _ by unfold execBnkHandover onWrite onRead; rfl) rfl
  | handoverApply t b => exact .plain t _ (show execHandoverApply t b s = _ by unfold execHandoverApply onDev; rfl) rfl
  | bnkHoTimeout t b => exact .plain t _ (show execBnkHoTimeout t b s = _ by unfold execBnkHoTimeout onDev; rfl) rfl
  | bnkPwr t r b v => exact .plain t _ (show execBnkPwr t r b v s = _ by unfold execBnkPwr onWrite onRead; rfl) rfl
  | bankPowerDone t b => exact .stores t _ (show execBankPowerDone t b s = _ by unfold execBankPowerDone onMem; rfl) rfl rfl
  | sweepBlock t g failed late => exact .plain t _ (show execSweepBlock t g failed late s = _ by unfold execSweepBlock onDev; rfl) rfl
  | smpSwGo t r q => exact .plain t _ (show execSmpSwGo t r q s = _ by unfold execSmpSwGo onWrite onRead; rfl) rfl
  | swTransferEnd t q rx => exact .stores t _ (show execSwTransferEnd t q rx s = _ by unfold execSwTransferEnd onMem; rfl) rfl rfl
  | watchRelease t q bits rx => exact .stores t _ (show execWatchRelease t q bits rx s = _ by unfold execWatchRelease onMem; rfl) rfl rfl
  | windowLineFetch t a k dqs line code => exact .plain t _ (show execWindowLineFetch t a k dqs line code s = _ by unfold execWindowLineFetch onDev; rfl) rfl
  | streamOpen t r => exact .plain t _ (show execStreamOpen t r s = _ by unfold execStreamOpen onWrite onRead; rfl) rfl
  | streamClose t r => exact .plain t _ (show execStreamClose t r s = _ by unfold execStreamClose onWrite onRead; rfl) rfl
  | streamRetry t r => exact .plain t _ (show execStreamRetry t r s = _ by unfold execStreamRetry onWrite onRead; rfl) rfl
  | pagerPageRead t k dqs ws => exact .stores t _ (show execPagerPageRead t k dqs ws s = _ by unfold execPagerPageRead onMem; rfl) rfl rfl
  | ringWrite t r v => exact .plain t _ (show execRingWrite t r v s = _ by unfold execRingWrite onWrite onRead; rfl) rfl
  | exportFlush t k => exact .plain t _ (show execExportFlush t k s = _ by unfold execExportFlush onDev; rfl) rfl
  | exportWrite t k => exact .plain t _ (show execExportWrite t k s = _ by unfold execExportWrite onDev; rfl) rfl
  | linkTrain t m => exact .plain t _ (show execLinkTrain t m s = _ by unfold execLinkTrain onDev; rfl) rfl
  | linkUp t m standby => exact .plain t _ (show execLinkUp t m standby s = _ by unfold execLinkUp onDev; rfl) rfl
  | linkDown t m errs => exact .plain t _ (show execLinkDown t m errs s = _ by unfold execLinkDown onDev; rfl) rfl
  | pennantSend t => exact .plain t _ (show execPennantSend t s = _ by unfold execPennantSend onDev; rfl) rfl
  | pennant t p => exact .persists t _ (show execPennant t p s = _ by unfold execPennant onReadNv; rfl) rfl rfl
  | pennantMiss t => exact .plain t _ (show execPennantMiss t s = _ by unfold execPennantMiss onDev; rfl) rfl
  | stationRejoin t => exact .plain t _ (show execStationRejoin t s = _ by unfold execStationRejoin onDev; rfl) rfl
  | enumerate t r => exact .plain t _ (show execEnumerate t r s = _ by unfold execEnumerate onWrite onRead; rfl) rfl
  | enumerationPennant t p k => exact .plain t _ (show execEnumerationPennant t p k s = _ by unfold execEnumerationPennant onDev; rfl) rfl
  | unfold t r => exact .plain t _ (show execUnfold t r s = _ by unfold execUnfold onWrite onRead; rfl) rfl
  | leave t r => exact .plain t _ (show execLeave t r s = _ by unfold execLeave onWrite onRead; rfl) rfl
  | ringFold t => exact .plain t _ (show execRingFold t s = _ by unfold execRingFold onDev; rfl) rfl
  | ringUnfold t => exact .plain t _ (show execRingUnfold t s = _ by unfold execRingUnfold onDev; rfl) rfl
  | stationLeft t stn => exact .plain t _ (show execStationLeft t stn s = _ by unfold execStationLeft onDev; rfl) rfl
  | joinStart t => exact .plain t _ (show execJoinStart t s = _ by unfold execJoinStart onDev; rfl) rfl
  | joinTimeout t => exact .plain t _ (show execJoinTimeout t s = _ by unfold execJoinTimeout onDev; rfl) rfl
  | registerAccessRead t h ws => exact .stores t _ (show execRegisterAccessRead t h ws s = _ by unfold execRegisterAccessRead onMem; rfl) rfl rfl
  | registerAccessWrite t h ws => exact .persistsStores t _ (show execRegisterAccessWrite t h ws s = _ by unfold execRegisterAccessWrite onMemNv; rfl) rfl rfl rfl
  | parameterStoreDispatch t h ws => exact .stores t _ (show execParameterStoreDispatch t h ws s = _ by unfold execParameterStoreDispatch onMem; rfl) rfl rfl
  | axisCommandQueue t h ws => exact .persistsStores t _ (show execAxisCommandQueue t h ws s = _ by unfold execAxisCommandQueue onMemNv; rfl) rfl rfl rfl
  | timedDispatchApply t => exact .persists t _ (show execTimedDispatchApply t s = _ by unfold execTimedDispatchApply onReadNv; rfl) rfl rfl
  | chronographFetch t h ws => exact .stores t _ (show execChronographFetch t h ws s = _ by unfold execChronographFetch onMem; rfl) rfl rfl
  | join t h serial stn => exact .stores t _ (show execJoin t h serial stn s = _ by unfold execJoin onMem; rfl) rfl rfl
  | grant t h serial stn sl cg capacity => exact .stores t _ (show execGrant t h serial stn sl cg capacity s = _ by unfold execGrant onMem; rfl) rfl rfl
  | slice t h sl cycle => exact .stores t _ (show execSlice t h sl cycle s = _ by unfold execSlice onMem; rfl) rfl rfl
  | notice t h addr joined => exact .stores t _ (show execNotice t h addr joined s = _ by unfold execNotice onMem; rfl) rfl rfl
  | serviceDirectory t h ws served => exact .stores t _ (show execServiceDirectory t h ws served s = _ by unfold execServiceDirectory onMem; rfl) rfl rfl
  | almanacService t h chan ws => exact .stores t _ (show execAlmanacService t h chan ws s = _ by unfold execAlmanacService onMem; rfl) rfl rfl
  | almanacAnswer t src chan result ws => exact .plain t _ (show execAlmanacAnswer t src chan result ws s = _ by unfold execAlmanacAnswer onDev; rfl) rfl
  | dispatchOtherChannel t h chan ws => exact .plain t _ (show execDispatchOtherChannel t h chan ws s = _ by unfold execDispatchOtherChannel onDev; rfl) rfl
  | dispatchForward t h ack chan result ws full => exact .plain t _ (show execDispatchForward t h ack chan result ws full s = _ by unfold execDispatchForward onDev; rfl) rfl
  | acknowledge t h chan result ws => exact .plain t _ (show execAcknowledge t h chan result ws s = _ by unfold execAcknowledge onDev; rfl) rfl
  | dispatchRetransmit t dst chan => exact .plain t _ (show execDispatchRetransmit t dst chan s = _ by unfold execDispatchRetransmit onDev; rfl) rfl
  | dispatchTimeout t dst chan => exact .plain t _ (show execDispatchTimeout t dst chan s = _ by unfold execDispatchTimeout onDev; rfl) rfl
  | contextExpiry t src chan => exact .plain t _ (show execContextExpiry t src chan s = _ by unfold execContextExpiry onDev; rfl) rfl
  | announceDecision t => exact .plain t _ (show execAnnounceDecision t s = _ by unfold execAnnounceDecision onDev; rfl) rfl
  | announcedPeriodApply t => exact .plain t _ (show execAnnouncedPeriodApply t s = _ by unfold execAnnouncedPeriodApply onDev; rfl) rfl
  | faultClear t r entry inst => exact .plain t _ (show execFaultClear t r entry inst s = _ by unfold execFaultClear onWrite onRead; rfl) rfl
  | clearAll t r => exact .plain t _ (show execClearAll t r s = _ by unfold execClearAll onWrite onRead; rfl) rfl
  | conditionEnd t entry inst => exact .plain t _ (show execConditionEnd t entry inst s = _ by unfold execConditionEnd onDev; rfl) rfl
  | reactionTableWrite t r e v => exact .plain t _ (show execReactionTableWrite t r e v s = _ by unfold execReactionTableWrite onWrite onRead; rfl) rfl
  | chronWrite t => exact .stores t _ (show execChronWrite t s = _ by unfold execChronWrite onMem; rfl) rfl rfl
  | almanacRecord t r v => exact .plain t _ (show execAlmanacRecord t r v s = _ by unfold execAlmanacRecord onWrite onRead; rfl) rfl
  | packageTempRead t v => exact .plain t _ (show execPackageTempRead t v s = _ by unfold execPackageTempRead onDev; rfl) rfl
  | clockDeparture t g ppm => exact .pin t _ (show execClockDeparture t g ppm s = _ by unfold execClockDeparture onPin; rfl) rfl rfl
  | recheck t r v => exact .plain t _ (show execRecheck t r v s = _ by unfold execRecheck onWrite onRead; rfl) rfl
  | recheckEnd t c fineFail laneFail dacFail => exact .plain t _ (show execRecheckEnd t c fineFail laneFail dacFail s = _ by unfold execRecheckEnd onDev; rfl) rfl
  | almVerify t r v => exact .plain t _ (show execAlmVerify t r v s = _ by unfold execAlmVerify onWrite onRead; rfl) rfl
  | almSwitch t r v => exact .plain t _ (show execAlmSwitch t r v s = _ by unfold execAlmSwitch onWrite onRead; rfl) rfl
  | almRestart t r => exact .plain t _ (show execAlmRestart t r s = _ by unfold execAlmRestart onWrite onRead; rfl) rfl
  | almStop t r => exact .plain t _ (show execAlmStop t r s = _ by unfold execAlmStop onWrite onRead; rfl) rfl
  | almStart t r => exact .plain t _ (show execAlmStart t r s = _ by unfold execAlmStart onWrite onRead; rfl) rfl
  | almanacVerifyEnd t img => exact .plain t _ (show execAlmanacVerifyEnd t img s = _ by unfold execAlmanacVerifyEnd onDev; rfl) rfl
  | almHeartbeat t r v => exact .plain t _ (show execAlmHeartbeat t r v s = _ by unfold execAlmHeartbeat onWrite onRead; rfl) rfl
  | almQuiet t r v => exact .plain t _ (show execAlmQuiet t r v s = _ by unfold execAlmQuiet onWrite onRead; rfl) rfl
  | almQuietTimeout t => exact .plain t _ (show execAlmQuietTimeout t s = _ by unfold execAlmQuietTimeout onDev; rfl) rfl
  | almWatchdog t => exact .plain t _ (show execAlmWatchdog t s = _ by unfold execAlmWatchdog onDev; rfl) rfl
  | almCoreException t => exact .plain t _ (show execAlmCoreException t s = _ by unfold execAlmCoreException onDev; rfl) rfl
  | status t bits => exact .plain t _ (show execStatus t bits s = _ by unfold execStatus onDev; rfl) rfl
  | pageWrite t ab a us part => exact .persistsStores t _ (show execPageWrite t ab a us part s = _ by unfold execPageWrite onMemNv; rfl) rfl rfl rfl
  | pageRead t ab a clocks late => exact .stores t _ (show execPageRead t ab a clocks late s = _ by unfold execPageRead onMem; rfl) rfl rfl
  | bankWrite32 t ab a us part => exact .stores t _ (show execBankWrite32 t ab a us part s = _ by unfold execBankWrite32 onMem; rfl) rfl rfl
  | bankWrite16 t ab a us part => exact .stores t _ (show execBankWrite16 t ab a us part s = _ by unfold execBankWrite16 onMem; rfl) rfl rfl
  | bankWrite8 t ab a us part => exact .stores t _ (show execBankWrite8 t ab a us part s = _ by unfold execBankWrite8 onMem; rfl) rfl rfl
  | bankRead32 t ab a clocks late => exact .stores t _ (show execBankRead32 t ab a clocks late s = _ by unfold execBankRead32 onMem; rfl) rfl rfl
  | extRead t ab a clocks late lines => exact .stores t _ (show execExtRead t ab a clocks late lines s = _ by unfold execExtRead onMem; rfl) rfl rfl
  | hostOpcodeUnknown t opcode => exact .stores t _ (show execHostOpcodeUnknown t opcode s = _ by unfold execHostOpcodeUnknown onMem; rfl) rfl rfl
  | program t r region => exact .plain t _ (show execProgram t r region s = _ by unfold execProgram onWrite onRead; rfl) rfl
  | reburn t r region => exact .plain t _ (show execReburn t r region s = _ by unfold execReburn onWrite onRead; rfl) rfl
  | lock t r region => exact .plain t _ (show execLock t r region s = _ by unfold execLock onWrite onRead; rfl) rfl
  | check t r => exact .plain t _ (show execCheck t r s = _ by unfold execCheck onWrite onRead; rfl) rfl
  | otpRawGo t r weak => exact .persists t _ (show execOtpRawGo t r weak s = _ by unfold execOtpRawGo onWriteNv onReadNv; rfl) rfl rfl
  | otpCommandEnd t weak => exact .persists t _ (show execOtpCommandEnd t weak s = _ by unfold execOtpCommandEnd onDevNv; rfl) rfl rfl
  | store t r merge => exact .plain t _ (show execStore t r merge s = _ by unfold execStore onWrite onRead; rfl) rfl
  | storeCopyEnd t => exact .persists t _ (show execStoreCopyEnd t s = _ by unfold execStoreCopyEnd onReadNv; rfl) rfl rfl
  | storeVerifyEnd t good => exact .persists t _ (show execStoreVerifyEnd t good s = _ by unfold execStoreVerifyEnd onDevNv; rfl) rfl rfl
  | vokFall t => exact .pin t _ (show execVokFall t s = _ by unfold execVokFall onPin; rfl) rfl rfl
  | supplyMonitorRelease => exact .reset _ rfl rfl
  | vgdInRange t c => exact .pin t _ (show execVgdInRange t c s = _ by unfold execVgdInRange onPin; rfl) rfl rfl
  | enableRise t i => exact .pin t _ (show execEnableRise t i s = _ by unfold execEnableRise onPin; rfl) rfl rfl
  | xfltDeassert t j => exact .pin t _ (show execXfltDeassert t j s = _ by unfold execXfltDeassert onPin; rfl) rfl rfl
  | clockReturn t g => exact .pin t _ (show execClockReturn t g s = _ by unfold execClockReturn onPin; rfl) rfl rfl
  | vddsmFall t => exact .pin t _ (show execVddsmFall t s = _ by unfold execVddsmFall onPin; rfl) rfl rfl
  | vddsmRise t => exact .pin t _ (show execVddsmRise t s = _ by unfold execVddsmRise onPin; rfl) rfl rfl
  | vokRise t => exact .pin t _ (show execVokRise t s = _ by unfold execVokRise onPin; rfl) rfl rfl
  | registerRead t r a bytes => exact .plain t _ (show execRegisterRead t r a bytes s = _ by unfold execRegisterRead onDev; rfl) rfl
  | pennantReturn t p => exact .persists t _ (show execPennantReturn t p s = _ by unfold execPennantReturn onReadNv; rfl) rfl rfl
  | reticlePulseEnd t k => exact .plain t _ (show execReticlePulseEnd t k s = _ by unfold execReticlePulseEnd onDev; rfl) rfl
  | testAccessPort t i => exact .pin t _ (show execTestAccessPort t i s = _ by unfold execTestAccessPort onPin; rfl) rfl rfl

end Sys2Proof.Machine
end

