-- ==== Sys2Proof/Laws/State.lean ====
section
/-! SUPPORT. The fields of the state under each update: what an update writes, and that it leaves every other field alone. -/
namespace Sys2Proof.Machine

/-! ### The three parts of the state -/

@[simp] theorem State.withDev_dev (s : State) (d : Dev) : ({ s with dev := d } : State).dev = d := rfl
@[simp] theorem State.withDev_mem (s : State) (d : Dev) : ({ s with dev := d } : State).mem = s.mem := rfl
@[simp] theorem State.withDev_pending (s : State) (d : Dev) : ({ s with dev := d } : State).pending = s.pending := rfl
@[simp] theorem State.withMem_dev (s : State) (m : Mem) : ({ s with mem := m } : State).dev = s.dev := rfl
@[simp] theorem State.withMem_mem (s : State) (m : Mem) : ({ s with mem := m } : State).mem = m := rfl
@[simp] theorem State.withMem_pending (s : State) (m : Mem) : ({ s with mem := m } : State).pending = s.pending := rfl
@[simp] theorem State.withPending_dev (s : State) (q : List Instr) : ({ s with pending := q } : State).dev = s.dev := rfl
@[simp] theorem State.withPending_mem (s : State) (q : List Instr) : ({ s with pending := q } : State).mem = s.mem := rfl
@[simp] theorem State.withPending_pending (s : State) (q : List Instr) : ({ s with pending := q } : State).pending = q := rfl

/-! ### A register write leaves every typed field alone -/

@[simp] theorem Dev.wr_pins (d : Dev) (f : Fld) (v : Nat) : (d.wr f v).pins = d.pins := rfl
@[simp] theorem Dev.wr_running (d : Dev) (f : Fld) (v : Nat) : (d.wr f v).running = d.running := rfl
@[simp] theorem Dev.wr_now (d : Dev) (f : Fld) (v : Nat) : (d.wr f v).now = d.now := rfl
@[simp] theorem Dev.wr_freeCtr (d : Dev) (f : Fld) (v : Nat) : (d.wr f v).freeCtr = d.freeCtr := rfl
@[simp] theorem Dev.wr_shadows (d : Dev) (f : Fld) (v : Nat) : (d.wr f v).shadows = d.shadows := rfl
@[simp] theorem Dev.wr_commits (d : Dev) (f : Fld) (v : Nat) : (d.wr f v).commits = d.commits := rfl
@[simp] theorem Dev.wr_holdEnd (d : Dev) (f : Fld) (v : Nat) : (d.wr f v).holdEnd = d.holdEnd := rfl
@[simp] theorem Dev.wr_rdHold (d : Dev) (f : Fld) (v : Nat) : (d.wr f v).rdHold = d.rdHold := rfl
@[simp] theorem Dev.wr_wrHold (d : Dev) (f : Fld) (v : Nat) : (d.wr f v).wrHold = d.wrHold := rfl
@[simp] theorem Dev.wr_expert (d : Dev) (f : Fld) (v : Nat) : (d.wr f v).expert = d.expert := rfl
@[simp] theorem Dev.wr_refused5 (d : Dev) (f : Fld) (v : Nat) : (d.wr f v).refused5 = d.refused5 := rfl
@[simp] theorem Dev.wr_answer (d : Dev) (f : Fld) (v : Nat) : (d.wr f v).answer = d.answer := rfl
@[simp] theorem Dev.wr_active (d : Dev) (f : Fld) (v : Nat) : (d.wr f v).active = d.active := rfl
@[simp] theorem Dev.wr_deferred (d : Dev) (f : Fld) (v : Nat) : (d.wr f v).deferred = d.deferred := rfl
@[simp] theorem Dev.wr_clearReq (d : Dev) (f : Fld) (v : Nat) : (d.wr f v).clearReq = d.clearReq := rfl
@[simp] theorem Dev.wr_evtTick (d : Dev) (f : Fld) (v : Nat) : (d.wr f v).evtTick = d.evtTick := rfl
@[simp] theorem Dev.wr_queue (d : Dev) (f : Fld) (v : Nat) : (d.wr f v).queue = d.queue := rfl
@[simp] theorem Dev.wr_lostPend (d : Dev) (f : Fld) (v : Nat) : (d.wr f v).lostPend = d.lostPend := rfl
@[simp] theorem Dev.wr_startBuf (d : Dev) (f : Fld) (v : Nat) : (d.wr f v).startBuf = d.startBuf := rfl
@[simp] theorem Dev.wr_bufOver (d : Dev) (f : Fld) (v : Nat) : (d.wr f v).bufOver = d.bufOver := rfl
@[simp] theorem Dev.wr_chronOn (d : Dev) (f : Fld) (v : Nat) : (d.wr f v).chronOn = d.chronOn := rfl
@[simp] theorem Dev.wr_reactMin (d : Dev) (f : Fld) (v : Nat) : (d.wr f v).reactMin = d.reactMin := rfl
@[simp] theorem Dev.wr_tableFixed (d : Dev) (f : Fld) (v : Nat) : (d.wr f v).tableFixed = d.tableFixed := rfl
@[simp] theorem Dev.wr_pkgHot (d : Dev) (f : Fld) (v : Nat) : (d.wr f v).pkgHot = d.pkgHot := rfl
@[simp] theorem Dev.wr_stepsDone (d : Dev) (f : Fld) (v : Nat) : (d.wr f v).stepsDone = d.stepsDone := rfl
@[simp] theorem Dev.wr_neverReady (d : Dev) (f : Fld) (v : Nat) : (d.wr f v).neverReady = d.neverReady := rfl
@[simp] theorem Dev.wr_noTime (d : Dev) (f : Fld) (v : Nat) : (d.wr f v).noTime = d.noTime := rfl
@[simp] theorem Dev.wr_errRun (d : Dev) (f : Fld) (v : Nat) : (d.wr f v).errRun = d.errRun := rfl
@[simp] theorem Dev.wr_agree (d : Dev) (f : Fld) (v : Nat) : (d.wr f v).agree = d.agree := rfl
@[simp] theorem Dev.wr_alignLeft (d : Dev) (f : Fld) (v : Nat) : (d.wr f v).alignLeft = d.alignLeft := rfl
@[simp] theorem Dev.wr_tickStart (d : Dev) (f : Fld) (v : Nat) : (d.wr f v).tickStart = d.tickStart := rfl
@[simp] theorem Dev.wr_nextTick (d : Dev) (f : Fld) (v : Nat) : (d.wr f v).nextTick = d.nextTick := rfl
@[simp] theorem Dev.wr_axes (d : Dev) (f : Fld) (v : Nat) : (d.wr f v).axes = d.axes := rfl
@[simp] theorem Dev.wr_profs (d : Dev) (f : Fld) (v : Nat) : (d.wr f v).profs = d.profs := rfl
@[simp] theorem Dev.wr_adc (d : Dev) (f : Fld) (v : Nat) : (d.wr f v).adc = d.adc := rfl
@[simp] theorem Dev.wr_xckDue (d : Dev) (f : Fld) (v : Nat) : (d.wr f v).xckDue = d.xckDue := rfl
@[simp] theorem Dev.wr_slots (d : Dev) (f : Fld) (v : Nat) : (d.wr f v).slots = d.slots := rfl
@[simp] theorem Dev.wr_installs (d : Dev) (f : Fld) (v : Nat) : (d.wr f v).installs = d.installs := rfl
@[simp] theorem Dev.wr_lanes (d : Dev) (f : Fld) (v : Nat) : (d.wr f v).lanes = d.lanes := rfl
@[simp] theorem Dev.wr_admWait (d : Dev) (f : Fld) (v : Nat) : (d.wr f v).admWait = d.admWait := rfl
@[simp] theorem Dev.wr_memBusy (d : Dev) (f : Fld) (v : Nat) : (d.wr f v).memBusy = d.memBusy := rfl
@[simp] theorem Dev.wr_banks (d : Dev) (f : Fld) (v : Nat) : (d.wr f v).banks = d.banks := rfl
@[simp] theorem Dev.wr_fbps (d : Dev) (f : Fld) (v : Nat) : (d.wr f v).fbps = d.fbps := rfl
@[simp] theorem Dev.wr_evps (d : Dev) (f : Fld) (v : Nat) : (d.wr f v).evps = d.evps := rfl
@[simp] theorem Dev.wr_smps (d : Dev) (f : Fld) (v : Nat) : (d.wr f v).smps = d.smps := rfl
@[simp] theorem Dev.wr_streams (d : Dev) (f : Fld) (v : Nat) : (d.wr f v).streams = d.streams := rfl
@[simp] theorem Dev.wr_net (d : Dev) (f : Fld) (v : Nat) : (d.wr f v).net = d.net := rfl
@[simp] theorem Dev.wr_alm (d : Dev) (f : Fld) (v : Nat) : (d.wr f v).alm = d.alm := rfl
@[simp] theorem Dev.wr_eng (d : Dev) (f : Fld) (v : Nat) : (d.wr f v).eng = d.eng := rfl
@[simp] theorem Dev.wr_otpReads (d : Dev) (f : Fld) (v : Nat) : (d.wr f v).otpReads = d.otpReads := rfl
@[simp] theorem Dev.wr_otpTable (d : Dev) (f : Fld) (v : Nat) : (d.wr f v).otpTable = d.otpTable := rfl
@[simp] theorem Dev.wr_safe (d : Dev) (f : Fld) (v : Nat) : (d.wr f v).safe = d.safe := rfl
@[simp] theorem Dev.wr_keys (d : Dev) (f : Fld) (v : Nat) : (d.wr f v).keys = d.keys := rfl
@[simp] theorem Dev.wr_image (d : Dev) (f : Fld) (v : Nat) : (d.wr f v).image = d.image := rfl
@[simp] theorem Dev.wr_nv (d : Dev) (f : Fld) (v : Nat) : (d.wr f v).nv = d.nv := rfl
@[simp] theorem Dev.wr_tap (d : Dev) (f : Fld) (v : Nat) : (d.wr f v).tap = d.tap := rfl
@[simp] theorem Dev.wr_stretch (d : Dev) (f : Fld) (v : Nat) : (d.wr f v).stretch = d.stretch := rfl
@[simp] theorem Dev.wr_restart (d : Dev) (f : Fld) (v : Nat) : (d.wr f v).restart = d.restart := rfl
@[simp] theorem Dev.wr_cycleAt (d : Dev) (f : Fld) (v : Nat) : (d.wr f v).cycleAt = d.cycleAt := rfl
@[simp] theorem Dev.wr_cycleWrites (d : Dev) (f : Fld) (v : Nat) : (d.wr f v).cycleWrites = d.cycleWrites := rfl
@[simp] theorem Dev.wr_rots (d : Dev) (f : Fld) (v : Nat) : (d.wr f v).rots = d.rots := rfl
@[simp] theorem Dev.wr_served (d : Dev) (f : Fld) (v : Nat) : (d.wr f v).served = d.served := rfl

/-! ### A change of one unit leaves the other fields alone -/

@[simp] theorem Dev.modAx_pins (d : Dev) (n : Nat) (g : Axis → Axis) : (d.modAx n g).pins = d.pins := rfl
@[simp] theorem Dev.modAx_running (d : Dev) (n : Nat) (g : Axis → Axis) : (d.modAx n g).running = d.running := rfl
@[simp] theorem Dev.modAx_now (d : Dev) (n : Nat) (g : Axis → Axis) : (d.modAx n g).now = d.now := rfl
@[simp] theorem Dev.modAx_freeCtr (d : Dev) (n : Nat) (g : Axis → Axis) : (d.modAx n g).freeCtr = d.freeCtr := rfl
@[simp] theorem Dev.modAx_regs (d : Dev) (n : Nat) (g : Axis → Axis) : (d.modAx n g).regs = d.regs := rfl
@[simp] theorem Dev.modAx_shadows (d : Dev) (n : Nat) (g : Axis → Axis) : (d.modAx n g).shadows = d.shadows := rfl
@[simp] theorem Dev.modAx_commits (d : Dev) (n : Nat) (g : Axis → Axis) : (d.modAx n g).commits = d.commits := rfl
@[simp] theorem Dev.modAx_wrHold (d : Dev) (n : Nat) (g : Axis → Axis) : (d.modAx n g).wrHold = d.wrHold := rfl
@[simp] theorem Dev.modAx_answer (d : Dev) (n : Nat) (g : Axis → Axis) : (d.modAx n g).answer = d.answer := rfl
@[simp] theorem Dev.modAx_active (d : Dev) (n : Nat) (g : Axis → Axis) : (d.modAx n g).active = d.active := rfl
@[simp] theorem Dev.modAx_deferred (d : Dev) (n : Nat) (g : Axis → Axis) : (d.modAx n g).deferred = d.deferred := rfl
@[simp] theorem Dev.modAx_clearReq (d : Dev) (n : Nat) (g : Axis → Axis) : (d.modAx n g).clearReq = d.clearReq := rfl
@[simp] theorem Dev.modAx_queue (d : Dev) (n : Nat) (g : Axis → Axis) : (d.modAx n g).queue = d.queue := rfl
@[simp] theorem Dev.modAx_startBuf (d : Dev) (n : Nat) (g : Axis → Axis) : (d.modAx n g).startBuf = d.startBuf := rfl
@[simp] theorem Dev.modAx_chronOn (d : Dev) (n : Nat) (g : Axis → Axis) : (d.modAx n g).chronOn = d.chronOn := rfl
@[simp] theorem Dev.modAx_stepsDone (d : Dev) (n : Nat) (g : Axis → Axis) : (d.modAx n g).stepsDone = d.stepsDone := rfl
@[simp] theorem Dev.modAx_profs (d : Dev) (n : Nat) (g : Axis → Axis) : (d.modAx n g).profs = d.profs := rfl
@[simp] theorem Dev.modAx_adc (d : Dev) (n : Nat) (g : Axis → Axis) : (d.modAx n g).adc = d.adc := rfl
@[simp] theorem Dev.modAx_xckDue (d : Dev) (n : Nat) (g : Axis → Axis) : (d.modAx n g).xckDue = d.xckDue := rfl
@[simp] theorem Dev.modAx_slots (d : Dev) (n : Nat) (g : Axis → Axis) : (d.modAx n g).slots = d.slots := rfl
@[simp] theorem Dev.modAx_installs (d : Dev) (n : Nat) (g : Axis → Axis) : (d.modAx n g).installs = d.installs := rfl
@[simp] theorem Dev.modAx_lanes (d : Dev) (n : Nat) (g : Axis → Axis) : (d.modAx n g).lanes = d.lanes := rfl
@[simp] theorem Dev.modAx_banks (d : Dev) (n : Nat) (g : Axis → Axis) : (d.modAx n g).banks = d.banks := rfl
@[simp] theorem Dev.modAx_fbps (d : Dev) (n : Nat) (g : Axis → Axis) : (d.modAx n g).fbps = d.fbps := rfl
@[simp] theorem Dev.modAx_evps (d : Dev) (n : Nat) (g : Axis → Axis) : (d.modAx n g).evps = d.evps := rfl
@[simp] theorem Dev.modAx_smps (d : Dev) (n : Nat) (g : Axis → Axis) : (d.modAx n g).smps = d.smps := rfl
@[simp] theorem Dev.modAx_streams (d : Dev) (n : Nat) (g : Axis → Axis) : (d.modAx n g).streams = d.streams := rfl
@[simp] theorem Dev.modAx_net (d : Dev) (n : Nat) (g : Axis → Axis) : (d.modAx n g).net = d.net := rfl
@[simp] theorem Dev.modAx_alm (d : Dev) (n : Nat) (g : Axis → Axis) : (d.modAx n g).alm = d.alm := rfl
@[simp] theorem Dev.modAx_eng (d : Dev) (n : Nat) (g : Axis → Axis) : (d.modAx n g).eng = d.eng := rfl
@[simp] theorem Dev.modAx_nv (d : Dev) (n : Nat) (g : Axis → Axis) : (d.modAx n g).nv = d.nv := rfl
@[simp] theorem Dev.modAx_tap (d : Dev) (n : Nat) (g : Axis → Axis) : (d.modAx n g).tap = d.tap := rfl
@[simp] theorem Dev.modAx_stretch (d : Dev) (n : Nat) (g : Axis → Axis) : (d.modAx n g).stretch = d.stretch := rfl
@[simp] theorem Dev.modAx_restart (d : Dev) (n : Nat) (g : Axis → Axis) : (d.modAx n g).restart = d.restart := rfl
@[simp] theorem Dev.modAx_cycleAt (d : Dev) (n : Nat) (g : Axis → Axis) : (d.modAx n g).cycleAt = d.cycleAt := rfl
@[simp] theorem Dev.modAx_cycleWrites (d : Dev) (n : Nat) (g : Axis → Axis) : (d.modAx n g).cycleWrites = d.cycleWrites := rfl
@[simp] theorem Dev.modAx_rots (d : Dev) (n : Nat) (g : Axis → Axis) : (d.modAx n g).rots = d.rots := rfl
@[simp] theorem Dev.modAx_served (d : Dev) (n : Nat) (g : Axis → Axis) : (d.modAx n g).served = d.served := rfl

@[simp] theorem Dev.modProf_pins (d : Dev) (n : Nat) (g : Profile → Profile) : (d.modProf n g).pins = d.pins := rfl
@[simp] theorem Dev.modProf_running (d : Dev) (n : Nat) (g : Profile → Profile) : (d.modProf n g).running = d.running := rfl
@[simp] theorem Dev.modProf_now (d : Dev) (n : Nat) (g : Profile → Profile) : (d.modProf n g).now = d.now := rfl
@[simp] theorem Dev.modProf_freeCtr (d : Dev) (n : Nat) (g : Profile → Profile) : (d.modProf n g).freeCtr = d.freeCtr := rfl
@[simp] theorem Dev.modProf_regs (d : Dev) (n : Nat) (g : Profile → Profile) : (d.modProf n g).regs = d.regs := rfl
@[simp] theorem Dev.modProf_shadows (d : Dev) (n : Nat) (g : Profile → Profile) : (d.modProf n g).shadows = d.shadows := rfl
@[simp] theorem Dev.modProf_commits (d : Dev) (n : Nat) (g : Profile → Profile) : (d.modProf n g).commits = d.commits := rfl
@[simp] theorem Dev.modProf_wrHold (d : Dev) (n : Nat) (g : Profile → Profile) : (d.modProf n g).wrHold = d.wrHold := rfl
@[simp] theorem Dev.modProf_answer (d : Dev) (n : Nat) (g : Profile → Profile) : (d.modProf n g).answer = d.answer := rfl
@[simp] theorem Dev.modProf_active (d : Dev) (n : Nat) (g : Profile → Profile) : (d.modProf n g).active = d.active := rfl
@[simp] theorem Dev.modProf_deferred (d : Dev) (n : Nat) (g : Profile → Profile) : (d.modProf n g).deferred = d.deferred := rfl
@[simp] theorem Dev.modProf_clearReq (d : Dev) (n : Nat) (g : Profile → Profile) : (d.modProf n g).clearReq = d.clearReq := rfl
@[simp] theorem Dev.modProf_queue (d : Dev) (n : Nat) (g : Profile → Profile) : (d.modProf n g).queue = d.queue := rfl
@[simp] theorem Dev.modProf_startBuf (d : Dev) (n : Nat) (g : Profile → Profile) : (d.modProf n g).startBuf = d.startBuf := rfl
@[simp] theorem Dev.modProf_chronOn (d : Dev) (n : Nat) (g : Profile → Profile) : (d.modProf n g).chronOn = d.chronOn := rfl
@[simp] theorem Dev.modProf_stepsDone (d : Dev) (n : Nat) (g : Profile → Profile) : (d.modProf n g).stepsDone = d.stepsDone := rfl
@[simp] theorem Dev.modProf_axes (d : Dev) (n : Nat) (g : Profile → Profile) : (d.modProf n g).axes = d.axes := rfl
@[simp] theorem Dev.modProf_adc (d : Dev) (n : Nat) (g : Profile → Profile) : (d.modProf n g).adc = d.adc := rfl
@[simp] theorem Dev.modProf_xckDue (d : Dev) (n : Nat) (g : Profile → Profile) : (d.modProf n g).xckDue = d.xckDue := rfl
@[simp] theorem Dev.modProf_slots (d : Dev) (n : Nat) (g : Profile → Profile) : (d.modProf n g).slots = d.slots := rfl
@[simp] theorem Dev.modProf_installs (d : Dev) (n : Nat) (g : Profile → Profile) : (d.modProf n g).installs = d.installs := rfl
@[simp] theorem Dev.modProf_lanes (d : Dev) (n : Nat) (g : Profile → Profile) : (d.modProf n g).lanes = d.lanes := rfl
@[simp] theorem Dev.modProf_banks (d : Dev) (n : Nat) (g : Profile → Profile) : (d.modProf n g).banks = d.banks := rfl
@[simp] theorem Dev.modProf_fbps (d : Dev) (n : Nat) (g : Profile → Profile) : (d.modProf n g).fbps = d.fbps := rfl
@[simp] theorem Dev.modProf_evps (d : Dev) (n : Nat) (g : Profile → Profile) : (d.modProf n g).evps = d.evps := rfl
@[simp] theorem Dev.modProf_smps (d : Dev) (n : Nat) (g : Profile → Profile) : (d.modProf n g).smps = d.smps := rfl
@[simp] theorem Dev.modProf_streams (d : Dev) (n : Nat) (g : Profile → Profile) : (d.modProf n g).streams = d.streams := rfl
@[simp] theorem Dev.modProf_net (d : Dev) (n : Nat) (g : Profile → Profile) : (d.modProf n g).net = d.net := rfl
@[simp] theorem Dev.modProf_alm (d : Dev) (n : Nat) (g : Profile → Profile) : (d.modProf n g).alm = d.alm := rfl
@[simp] theorem Dev.modProf_eng (d : Dev) (n : Nat) (g : Profile → Profile) : (d.modProf n g).eng = d.eng := rfl
@[simp] theorem Dev.modProf_nv (d : Dev) (n : Nat) (g : Profile → Profile) : (d.modProf n g).nv = d.nv := rfl
@[simp] theorem Dev.modProf_tap (d : Dev) (n : Nat) (g : Profile → Profile) : (d.modProf n g).tap = d.tap := rfl
@[simp] theorem Dev.modProf_stretch (d : Dev) (n : Nat) (g : Profile → Profile) : (d.modProf n g).stretch = d.stretch := rfl
@[simp] theorem Dev.modProf_restart (d : Dev) (n : Nat) (g : Profile → Profile) : (d.modProf n g).restart = d.restart := rfl
@[simp] theorem Dev.modProf_cycleAt (d : Dev) (n : Nat) (g : Profile → Profile) : (d.modProf n g).cycleAt = d.cycleAt := rfl
@[simp] theorem Dev.modProf_cycleWrites (d : Dev) (n : Nat) (g : Profile → Profile) : (d.modProf n g).cycleWrites = d.cycleWrites := rfl
@[simp] theorem Dev.modProf_rots (d : Dev) (n : Nat) (g : Profile → Profile) : (d.modProf n g).rots = d.rots := rfl
@[simp] theorem Dev.modProf_served (d : Dev) (n : Nat) (g : Profile → Profile) : (d.modProf n g).served = d.served := rfl

@[simp] theorem Dev.modBank_pins (d : Dev) (n : Nat) (g : AdcBank → AdcBank) : (d.modBank n g).pins = d.pins := rfl
@[simp] theorem Dev.modBank_running (d : Dev) (n : Nat) (g : AdcBank → AdcBank) : (d.modBank n g).running = d.running := rfl
@[simp] theorem Dev.modBank_now (d : Dev) (n : Nat) (g : AdcBank → AdcBank) : (d.modBank n g).now = d.now := rfl
@[simp] theorem Dev.modBank_freeCtr (d : Dev) (n : Nat) (g : AdcBank → AdcBank) : (d.modBank n g).freeCtr = d.freeCtr := rfl
@[simp] theorem Dev.modBank_regs (d : Dev) (n : Nat) (g : AdcBank → AdcBank) : (d.modBank n g).regs = d.regs := rfl
@[simp] theorem Dev.modBank_shadows (d : Dev) (n : Nat) (g : AdcBank → AdcBank) : (d.modBank n g).shadows = d.shadows := rfl
@[simp] theorem Dev.modBank_commits (d : Dev) (n : Nat) (g : AdcBank → AdcBank) : (d.modBank n g).commits = d.commits := rfl
@[simp] theorem Dev.modBank_wrHold (d : Dev) (n : Nat) (g : AdcBank → AdcBank) : (d.modBank n g).wrHold = d.wrHold := rfl
@[simp] theorem Dev.modBank_answer (d : Dev) (n : Nat) (g : AdcBank → AdcBank) : (d.modBank n g).answer = d.answer := rfl
@[simp] theorem Dev.modBank_active (d : Dev) (n : Nat) (g : AdcBank → AdcBank) : (d.modBank n g).active = d.active := rfl
@[simp] theorem Dev.modBank_deferred (d : Dev) (n : Nat) (g : AdcBank → AdcBank) : (d.modBank n g).deferred = d.deferred := rfl
@[simp] theorem Dev.modBank_clearReq (d : Dev) (n : Nat) (g : AdcBank → AdcBank) : (d.modBank n g).clearReq = d.clearReq := rfl
@[simp] theorem Dev.modBank_queue (d : Dev) (n : Nat) (g : AdcBank → AdcBank) : (d.modBank n g).queue = d.queue := rfl
@[simp] theorem Dev.modBank_startBuf (d : Dev) (n : Nat) (g : AdcBank → AdcBank) : (d.modBank n g).startBuf = d.startBuf := rfl
@[simp] theorem Dev.modBank_chronOn (d : Dev) (n : Nat) (g : AdcBank → AdcBank) : (d.modBank n g).chronOn = d.chronOn := rfl
@[simp] theorem Dev.modBank_stepsDone (d : Dev) (n : Nat) (g : AdcBank → AdcBank) : (d.modBank n g).stepsDone = d.stepsDone := rfl
@[simp] theorem Dev.modBank_axes (d : Dev) (n : Nat) (g : AdcBank → AdcBank) : (d.modBank n g).axes = d.axes := rfl
@[simp] theorem Dev.modBank_profs (d : Dev) (n : Nat) (g : AdcBank → AdcBank) : (d.modBank n g).profs = d.profs := rfl
@[simp] theorem Dev.modBank_xckDue (d : Dev) (n : Nat) (g : AdcBank → AdcBank) : (d.modBank n g).xckDue = d.xckDue := rfl
@[simp] theorem Dev.modBank_slots (d : Dev) (n : Nat) (g : AdcBank → AdcBank) : (d.modBank n g).slots = d.slots := rfl
@[simp] theorem Dev.modBank_installs (d : Dev) (n : Nat) (g : AdcBank → AdcBank) : (d.modBank n g).installs = d.installs := rfl
@[simp] theorem Dev.modBank_lanes (d : Dev) (n : Nat) (g : AdcBank → AdcBank) : (d.modBank n g).lanes = d.lanes := rfl
@[simp] theorem Dev.modBank_banks (d : Dev) (n : Nat) (g : AdcBank → AdcBank) : (d.modBank n g).banks = d.banks := rfl
@[simp] theorem Dev.modBank_fbps (d : Dev) (n : Nat) (g : AdcBank → AdcBank) : (d.modBank n g).fbps = d.fbps := rfl
@[simp] theorem Dev.modBank_evps (d : Dev) (n : Nat) (g : AdcBank → AdcBank) : (d.modBank n g).evps = d.evps := rfl
@[simp] theorem Dev.modBank_smps (d : Dev) (n : Nat) (g : AdcBank → AdcBank) : (d.modBank n g).smps = d.smps := rfl
@[simp] theorem Dev.modBank_streams (d : Dev) (n : Nat) (g : AdcBank → AdcBank) : (d.modBank n g).streams = d.streams := rfl
@[simp] theorem Dev.modBank_net (d : Dev) (n : Nat) (g : AdcBank → AdcBank) : (d.modBank n g).net = d.net := rfl
@[simp] theorem Dev.modBank_alm (d : Dev) (n : Nat) (g : AdcBank → AdcBank) : (d.modBank n g).alm = d.alm := rfl
@[simp] theorem Dev.modBank_eng (d : Dev) (n : Nat) (g : AdcBank → AdcBank) : (d.modBank n g).eng = d.eng := rfl
@[simp] theorem Dev.modBank_nv (d : Dev) (n : Nat) (g : AdcBank → AdcBank) : (d.modBank n g).nv = d.nv := rfl
@[simp] theorem Dev.modBank_tap (d : Dev) (n : Nat) (g : AdcBank → AdcBank) : (d.modBank n g).tap = d.tap := rfl
@[simp] theorem Dev.modBank_stretch (d : Dev) (n : Nat) (g : AdcBank → AdcBank) : (d.modBank n g).stretch = d.stretch := rfl
@[simp] theorem Dev.modBank_restart (d : Dev) (n : Nat) (g : AdcBank → AdcBank) : (d.modBank n g).restart = d.restart := rfl
@[simp] theorem Dev.modBank_cycleAt (d : Dev) (n : Nat) (g : AdcBank → AdcBank) : (d.modBank n g).cycleAt = d.cycleAt := rfl
@[simp] theorem Dev.modBank_cycleWrites (d : Dev) (n : Nat) (g : AdcBank → AdcBank) : (d.modBank n g).cycleWrites = d.cycleWrites := rfl
@[simp] theorem Dev.modBank_rots (d : Dev) (n : Nat) (g : AdcBank → AdcBank) : (d.modBank n g).rots = d.rots := rfl
@[simp] theorem Dev.modBank_served (d : Dev) (n : Nat) (g : AdcBank → AdcBank) : (d.modBank n g).served = d.served := rfl

@[simp] theorem Dev.modRot_pins (d : Dev) (n : Nat) (g : Rotation → Rotation) : (d.modRot n g).pins = d.pins := rfl
@[simp] theorem Dev.modRot_running (d : Dev) (n : Nat) (g : Rotation → Rotation) : (d.modRot n g).running = d.running := rfl
@[simp] theorem Dev.modRot_now (d : Dev) (n : Nat) (g : Rotation → Rotation) : (d.modRot n g).now = d.now := rfl
@[simp] theorem Dev.modRot_freeCtr (d : Dev) (n : Nat) (g : Rotation → Rotation) : (d.modRot n g).freeCtr = d.freeCtr := rfl
@[simp] theorem Dev.modRot_regs (d : Dev) (n : Nat) (g : Rotation → Rotation) : (d.modRot n g).regs = d.regs := rfl
@[simp] theorem Dev.modRot_shadows (d : Dev) (n : Nat) (g : Rotation → Rotation) : (d.modRot n g).shadows = d.shadows := rfl
@[simp] theorem Dev.modRot_commits (d : Dev) (n : Nat) (g : Rotation → Rotation) : (d.modRot n g).commits = d.commits := rfl
@[simp] theorem Dev.modRot_wrHold (d : Dev) (n : Nat) (g : Rotation → Rotation) : (d.modRot n g).wrHold = d.wrHold := rfl
@[simp] theorem Dev.modRot_cycleAt (d : Dev) (n : Nat) (g : Rotation → Rotation) : (d.modRot n g).cycleAt = d.cycleAt := rfl
@[simp] theorem Dev.modRot_cycleWrites (d : Dev) (n : Nat) (g : Rotation → Rotation) : (d.modRot n g).cycleWrites = d.cycleWrites := rfl
@[simp] theorem Dev.modRot_answer (d : Dev) (n : Nat) (g : Rotation → Rotation) : (d.modRot n g).answer = d.answer := rfl
@[simp] theorem Dev.modRot_active (d : Dev) (n : Nat) (g : Rotation → Rotation) : (d.modRot n g).active = d.active := rfl
@[simp] theorem Dev.modRot_deferred (d : Dev) (n : Nat) (g : Rotation → Rotation) : (d.modRot n g).deferred = d.deferred := rfl
@[simp] theorem Dev.modRot_clearReq (d : Dev) (n : Nat) (g : Rotation → Rotation) : (d.modRot n g).clearReq = d.clearReq := rfl
@[simp] theorem Dev.modRot_queue (d : Dev) (n : Nat) (g : Rotation → Rotation) : (d.modRot n g).queue = d.queue := rfl
@[simp] theorem Dev.modRot_startBuf (d : Dev) (n : Nat) (g : Rotation → Rotation) : (d.modRot n g).startBuf = d.startBuf := rfl
@[simp] theorem Dev.modRot_chronOn (d : Dev) (n : Nat) (g : Rotation → Rotation) : (d.modRot n g).chronOn = d.chronOn := rfl
@[simp] theorem Dev.modRot_stepsDone (d : Dev) (n : Nat) (g : Rotation → Rotation) : (d.modRot n g).stepsDone = d.stepsDone := rfl
@[simp] theorem Dev.modRot_stretch (d : Dev) (n : Nat) (g : Rotation → Rotation) : (d.modRot n g).stretch = d.stretch := rfl
@[simp] theorem Dev.modRot_restart (d : Dev) (n : Nat) (g : Rotation → Rotation) : (d.modRot n g).restart = d.restart := rfl
@[simp] theorem Dev.modRot_axes (d : Dev) (n : Nat) (g : Rotation → Rotation) : (d.modRot n g).axes = d.axes := rfl
@[simp] theorem Dev.modRot_profs (d : Dev) (n : Nat) (g : Rotation → Rotation) : (d.modRot n g).profs = d.profs := rfl
@[simp] theorem Dev.modRot_adc (d : Dev) (n : Nat) (g : Rotation → Rotation) : (d.modRot n g).adc = d.adc := rfl
@[simp] theorem Dev.modRot_xckDue (d : Dev) (n : Nat) (g : Rotation → Rotation) : (d.modRot n g).xckDue = d.xckDue := rfl
@[simp] theorem Dev.modRot_slots (d : Dev) (n : Nat) (g : Rotation → Rotation) : (d.modRot n g).slots = d.slots := rfl
@[simp] theorem Dev.modRot_installs (d : Dev) (n : Nat) (g : Rotation → Rotation) : (d.modRot n g).installs = d.installs := rfl
@[simp] theorem Dev.modRot_lanes (d : Dev) (n : Nat) (g : Rotation → Rotation) : (d.modRot n g).lanes = d.lanes := rfl
@[simp] theorem Dev.modRot_served (d : Dev) (n : Nat) (g : Rotation → Rotation) : (d.modRot n g).served = d.served := rfl
@[simp] theorem Dev.modRot_banks (d : Dev) (n : Nat) (g : Rotation → Rotation) : (d.modRot n g).banks = d.banks := rfl
@[simp] theorem Dev.modRot_fbps (d : Dev) (n : Nat) (g : Rotation → Rotation) : (d.modRot n g).fbps = d.fbps := rfl
@[simp] theorem Dev.modRot_evps (d : Dev) (n : Nat) (g : Rotation → Rotation) : (d.modRot n g).evps = d.evps := rfl
@[simp] theorem Dev.modRot_smps (d : Dev) (n : Nat) (g : Rotation → Rotation) : (d.modRot n g).smps = d.smps := rfl
@[simp] theorem Dev.modRot_streams (d : Dev) (n : Nat) (g : Rotation → Rotation) : (d.modRot n g).streams = d.streams := rfl
@[simp] theorem Dev.modRot_net (d : Dev) (n : Nat) (g : Rotation → Rotation) : (d.modRot n g).net = d.net := rfl
@[simp] theorem Dev.modRot_alm (d : Dev) (n : Nat) (g : Rotation → Rotation) : (d.modRot n g).alm = d.alm := rfl
@[simp] theorem Dev.modRot_eng (d : Dev) (n : Nat) (g : Rotation → Rotation) : (d.modRot n g).eng = d.eng := rfl
@[simp] theorem Dev.modRot_nv (d : Dev) (n : Nat) (g : Rotation → Rotation) : (d.modRot n g).nv = d.nv := rfl
@[simp] theorem Dev.modRot_tap (d : Dev) (n : Nat) (g : Rotation → Rotation) : (d.modRot n g).tap = d.tap := rfl

@[simp] theorem Dev.modLane_pins (d : Dev) (n : Nat) (g : Lane → Lane) : (d.modLane n g).pins = d.pins := rfl
@[simp] theorem Dev.modLane_running (d : Dev) (n : Nat) (g : Lane → Lane) : (d.modLane n g).running = d.running := rfl
@[simp] theorem Dev.modLane_now (d : Dev) (n : Nat) (g : Lane → Lane) : (d.modLane n g).now = d.now := rfl
@[simp] theorem Dev.modLane_freeCtr (d : Dev) (n : Nat) (g : Lane → Lane) : (d.modLane n g).freeCtr = d.freeCtr := rfl
@[simp] theorem Dev.modLane_regs (d : Dev) (n : Nat) (g : Lane → Lane) : (d.modLane n g).regs = d.regs := rfl
@[simp] theorem Dev.modLane_shadows (d : Dev) (n : Nat) (g : Lane → Lane) : (d.modLane n g).shadows = d.shadows := rfl
@[simp] theorem Dev.modLane_commits (d : Dev) (n : Nat) (g : Lane → Lane) : (d.modLane n g).commits = d.commits := rfl
@[simp] theorem Dev.modLane_wrHold (d : Dev) (n : Nat) (g : Lane → Lane) : (d.modLane n g).wrHold = d.wrHold := rfl
@[simp] theorem Dev.modLane_answer (d : Dev) (n : Nat) (g : Lane → Lane) : (d.modLane n g).answer = d.answer := rfl
@[simp] theorem Dev.modLane_active (d : Dev) (n : Nat) (g : Lane → Lane) : (d.modLane n g).active = d.active := rfl
@[simp] theorem Dev.modLane_deferred (d : Dev) (n : Nat) (g : Lane → Lane) : (d.modLane n g).deferred = d.deferred := rfl
@[simp] theorem Dev.modLane_clearReq (d : Dev) (n : Nat) (g : Lane → Lane) : (d.modLane n g).clearReq = d.clearReq := rfl
@[simp] theorem Dev.modLane_queue (d : Dev) (n : Nat) (g : Lane → Lane) : (d.modLane n g).queue = d.queue := rfl
@[simp] theorem Dev.modLane_startBuf (d : Dev) (n : Nat) (g : Lane → Lane) : (d.modLane n g).startBuf = d.startBuf := rfl
@[simp] theorem Dev.modLane_chronOn (d : Dev) (n : Nat) (g : Lane → Lane) : (d.modLane n g).chronOn = d.chronOn := rfl
@[simp] theorem Dev.modLane_stepsDone (d : Dev) (n : Nat) (g : Lane → Lane) : (d.modLane n g).stepsDone = d.stepsDone := rfl
@[simp] theorem Dev.modLane_axes (d : Dev) (n : Nat) (g : Lane → Lane) : (d.modLane n g).axes = d.axes := rfl
@[simp] theorem Dev.modLane_profs (d : Dev) (n : Nat) (g : Lane → Lane) : (d.modLane n g).profs = d.profs := rfl
@[simp] theorem Dev.modLane_adc (d : Dev) (n : Nat) (g : Lane → Lane) : (d.modLane n g).adc = d.adc := rfl
@[simp] theorem Dev.modLane_xckDue (d : Dev) (n : Nat) (g : Lane → Lane) : (d.modLane n g).xckDue = d.xckDue := rfl
@[simp] theorem Dev.modLane_slots (d : Dev) (n : Nat) (g : Lane → Lane) : (d.modLane n g).slots = d.slots := rfl
@[simp] theorem Dev.modLane_installs (d : Dev) (n : Nat) (g : Lane → Lane) : (d.modLane n g).installs = d.installs := rfl
@[simp] theorem Dev.modLane_banks (d : Dev) (n : Nat) (g : Lane → Lane) : (d.modLane n g).banks = d.banks := rfl
@[simp] theorem Dev.modLane_fbps (d : Dev) (n : Nat) (g : Lane → Lane) : (d.modLane n g).fbps = d.fbps := rfl
@[simp] theorem Dev.modLane_evps (d : Dev) (n : Nat) (g : Lane → Lane) : (d.modLane n g).evps = d.evps := rfl
@[simp] theorem Dev.modLane_smps (d : Dev) (n : Nat) (g : Lane → Lane) : (d.modLane n g).smps = d.smps := rfl
@[simp] theorem Dev.modLane_streams (d : Dev) (n : Nat) (g : Lane → Lane) : (d.modLane n g).streams = d.streams := rfl
@[simp] theorem Dev.modLane_net (d : Dev) (n : Nat) (g : Lane → Lane) : (d.modLane n g).net = d.net := rfl
@[simp] theorem Dev.modLane_alm (d : Dev) (n : Nat) (g : Lane → Lane) : (d.modLane n g).alm = d.alm := rfl
@[simp] theorem Dev.modLane_eng (d : Dev) (n : Nat) (g : Lane → Lane) : (d.modLane n g).eng = d.eng := rfl
@[simp] theorem Dev.modLane_nv (d : Dev) (n : Nat) (g : Lane → Lane) : (d.modLane n g).nv = d.nv := rfl
@[simp] theorem Dev.modLane_tap (d : Dev) (n : Nat) (g : Lane → Lane) : (d.modLane n g).tap = d.tap := rfl
@[simp] theorem Dev.modLane_stretch (d : Dev) (n : Nat) (g : Lane → Lane) : (d.modLane n g).stretch = d.stretch := rfl
@[simp] theorem Dev.modLane_restart (d : Dev) (n : Nat) (g : Lane → Lane) : (d.modLane n g).restart = d.restart := rfl
@[simp] theorem Dev.modLane_cycleAt (d : Dev) (n : Nat) (g : Lane → Lane) : (d.modLane n g).cycleAt = d.cycleAt := rfl
@[simp] theorem Dev.modLane_cycleWrites (d : Dev) (n : Nat) (g : Lane → Lane) : (d.modLane n g).cycleWrites = d.cycleWrites := rfl
@[simp] theorem Dev.modLane_rots (d : Dev) (n : Nat) (g : Lane → Lane) : (d.modLane n g).rots = d.rots := rfl
@[simp] theorem Dev.modLane_served (d : Dev) (n : Nat) (g : Lane → Lane) : (d.modLane n g).served = d.served := rfl

@[simp] theorem Dev.modMbank_pins (d : Dev) (n : Nat) (g : BankSt → BankSt) : (d.modMbank n g).pins = d.pins := rfl
@[simp] theorem Dev.modMbank_running (d : Dev) (n : Nat) (g : BankSt → BankSt) : (d.modMbank n g).running = d.running := rfl
@[simp] theorem Dev.modMbank_now (d : Dev) (n : Nat) (g : BankSt → BankSt) : (d.modMbank n g).now = d.now := rfl
@[simp] theorem Dev.modMbank_freeCtr (d : Dev) (n : Nat) (g : BankSt → BankSt) : (d.modMbank n g).freeCtr = d.freeCtr := rfl
@[simp] theorem Dev.modMbank_regs (d : Dev) (n : Nat) (g : BankSt → BankSt) : (d.modMbank n g).regs = d.regs := rfl
@[simp] theorem Dev.modMbank_shadows (d : Dev) (n : Nat) (g : BankSt → BankSt) : (d.modMbank n g).shadows = d.shadows := rfl
@[simp] theorem Dev.modMbank_commits (d : Dev) (n : Nat) (g : BankSt → BankSt) : (d.modMbank n g).commits = d.commits := rfl
@[simp] theorem Dev.modMbank_wrHold (d : Dev) (n : Nat) (g : BankSt → BankSt) : (d.modMbank n g).wrHold = d.wrHold := rfl
@[simp] theorem Dev.modMbank_answer (d : Dev) (n : Nat) (g : BankSt → BankSt) : (d.modMbank n g).answer = d.answer := rfl
@[simp] theorem Dev.modMbank_active (d : Dev) (n : Nat) (g : BankSt → BankSt) : (d.modMbank n g).active = d.active := rfl
@[simp] theorem Dev.modMbank_deferred (d : Dev) (n : Nat) (g : BankSt → BankSt) : (d.modMbank n g).deferred = d.deferred := rfl
@[simp] theorem Dev.modMbank_clearReq (d : Dev) (n : Nat) (g : BankSt → BankSt) : (d.modMbank n g).clearReq = d.clearReq := rfl
@[simp] theorem Dev.modMbank_queue (d : Dev) (n : Nat) (g : BankSt → BankSt) : (d.modMbank n g).queue = d.queue := rfl
@[simp] theorem Dev.modMbank_startBuf (d : Dev) (n : Nat) (g : BankSt → BankSt) : (d.modMbank n g).startBuf = d.startBuf := rfl
@[simp] theorem Dev.modMbank_chronOn (d : Dev) (n : Nat) (g : BankSt → BankSt) : (d.modMbank n g).chronOn = d.chronOn := rfl
@[simp] theorem Dev.modMbank_stepsDone (d : Dev) (n : Nat) (g : BankSt → BankSt) : (d.modMbank n g).stepsDone = d.stepsDone := rfl
@[simp] theorem Dev.modMbank_axes (d : Dev) (n : Nat) (g : BankSt → BankSt) : (d.modMbank n g).axes = d.axes := rfl
@[simp] theorem Dev.modMbank_profs (d : Dev) (n : Nat) (g : BankSt → BankSt) : (d.modMbank n g).profs = d.profs := rfl
@[simp] theorem Dev.modMbank_adc (d : Dev) (n : Nat) (g : BankSt → BankSt) : (d.modMbank n g).adc = d.adc := rfl
@[simp] theorem Dev.modMbank_xckDue (d : Dev) (n : Nat) (g : BankSt → BankSt) : (d.modMbank n g).xckDue = d.xckDue := rfl
@[simp] theorem Dev.modMbank_slots (d : Dev) (n : Nat) (g : BankSt → BankSt) : (d.modMbank n g).slots = d.slots := rfl
@[simp] theorem Dev.modMbank_installs (d : Dev) (n : Nat) (g : BankSt → BankSt) : (d.modMbank n g).installs = d.installs := rfl
@[simp] theorem Dev.modMbank_lanes (d : Dev) (n : Nat) (g : BankSt → BankSt) : (d.modMbank n g).lanes = d.lanes := rfl
@[simp] theorem Dev.modMbank_fbps (d : Dev) (n : Nat) (g : BankSt → BankSt) : (d.modMbank n g).fbps = d.fbps := rfl
@[simp] theorem Dev.modMbank_evps (d : Dev) (n : Nat) (g : BankSt → BankSt) : (d.modMbank n g).evps = d.evps := rfl
@[simp] theorem Dev.modMbank_smps (d : Dev) (n : Nat) (g : BankSt → BankSt) : (d.modMbank n g).smps = d.smps := rfl
@[simp] theorem Dev.modMbank_streams (d : Dev) (n : Nat) (g : BankSt → BankSt) : (d.modMbank n g).streams = d.streams := rfl
@[simp] theorem Dev.modMbank_net (d : Dev) (n : Nat) (g : BankSt → BankSt) : (d.modMbank n g).net = d.net := rfl
@[simp] theorem Dev.modMbank_alm (d : Dev) (n : Nat) (g : BankSt → BankSt) : (d.modMbank n g).alm = d.alm := rfl
@[simp] theorem Dev.modMbank_eng (d : Dev) (n : Nat) (g : BankSt → BankSt) : (d.modMbank n g).eng = d.eng := rfl
@[simp] theorem Dev.modMbank_nv (d : Dev) (n : Nat) (g : BankSt → BankSt) : (d.modMbank n g).nv = d.nv := rfl
@[simp] theorem Dev.modMbank_tap (d : Dev) (n : Nat) (g : BankSt → BankSt) : (d.modMbank n g).tap = d.tap := rfl
@[simp] theorem Dev.modMbank_stretch (d : Dev) (n : Nat) (g : BankSt → BankSt) : (d.modMbank n g).stretch = d.stretch := rfl
@[simp] theorem Dev.modMbank_restart (d : Dev) (n : Nat) (g : BankSt → BankSt) : (d.modMbank n g).restart = d.restart := rfl
@[simp] theorem Dev.modMbank_cycleAt (d : Dev) (n : Nat) (g : BankSt → BankSt) : (d.modMbank n g).cycleAt = d.cycleAt := rfl
@[simp] theorem Dev.modMbank_cycleWrites (d : Dev) (n : Nat) (g : BankSt → BankSt) : (d.modMbank n g).cycleWrites = d.cycleWrites := rfl
@[simp] theorem Dev.modMbank_rots (d : Dev) (n : Nat) (g : BankSt → BankSt) : (d.modMbank n g).rots = d.rots := rfl
@[simp] theorem Dev.modMbank_served (d : Dev) (n : Nat) (g : BankSt → BankSt) : (d.modMbank n g).served = d.served := rfl

@[simp] theorem Dev.modFbp_pins (d : Dev) (n : Nat) (g : FbPort → FbPort) : (d.modFbp n g).pins = d.pins := rfl
@[simp] theorem Dev.modFbp_running (d : Dev) (n : Nat) (g : FbPort → FbPort) : (d.modFbp n g).running = d.running := rfl
@[simp] theorem Dev.modFbp_now (d : Dev) (n : Nat) (g : FbPort → FbPort) : (d.modFbp n g).now = d.now := rfl
@[simp] theorem Dev.modFbp_freeCtr (d : Dev) (n : Nat) (g : FbPort → FbPort) : (d.modFbp n g).freeCtr = d.freeCtr := rfl
@[simp] theorem Dev.modFbp_regs (d : Dev) (n : Nat) (g : FbPort → FbPort) : (d.modFbp n g).regs = d.regs := rfl
@[simp] theorem Dev.modFbp_shadows (d : Dev) (n : Nat) (g : FbPort → FbPort) : (d.modFbp n g).shadows = d.shadows := rfl
@[simp] theorem Dev.modFbp_commits (d : Dev) (n : Nat) (g : FbPort → FbPort) : (d.modFbp n g).commits = d.commits := rfl
@[simp] theorem Dev.modFbp_wrHold (d : Dev) (n : Nat) (g : FbPort → FbPort) : (d.modFbp n g).wrHold = d.wrHold := rfl
@[simp] theorem Dev.modFbp_answer (d : Dev) (n : Nat) (g : FbPort → FbPort) : (d.modFbp n g).answer = d.answer := rfl
@[simp] theorem Dev.modFbp_active (d : Dev) (n : Nat) (g : FbPort → FbPort) : (d.modFbp n g).active = d.active := rfl
@[simp] theorem Dev.modFbp_deferred (d : Dev) (n : Nat) (g : FbPort → FbPort) : (d.modFbp n g).deferred = d.deferred := rfl
@[simp] theorem Dev.modFbp_clearReq (d : Dev) (n : Nat) (g : FbPort → FbPort) : (d.modFbp n g).clearReq = d.clearReq := rfl
@[simp] theorem Dev.modFbp_queue (d : Dev) (n : Nat) (g : FbPort → FbPort) : (d.modFbp n g).queue = d.queue := rfl
@[simp] theorem Dev.modFbp_startBuf (d : Dev) (n : Nat) (g : FbPort → FbPort) : (d.modFbp n g).startBuf = d.startBuf := rfl
@[simp] theorem Dev.modFbp_chronOn (d : Dev) (n : Nat) (g : FbPort → FbPort) : (d.modFbp n g).chronOn = d.chronOn := rfl
@[simp] theorem Dev.modFbp_stepsDone (d : Dev) (n : Nat) (g : FbPort → FbPort) : (d.modFbp n g).stepsDone = d.stepsDone := rfl
@[simp] theorem Dev.modFbp_axes (d : Dev) (n : Nat) (g : FbPort → FbPort) : (d.modFbp n g).axes = d.axes := rfl
@[simp] theorem Dev.modFbp_profs (d : Dev) (n : Nat) (g : FbPort → FbPort) : (d.modFbp n g).profs = d.profs := rfl
@[simp] theorem Dev.modFbp_adc (d : Dev) (n : Nat) (g : FbPort → FbPort) : (d.modFbp n g).adc = d.adc := rfl
@[simp] theorem Dev.modFbp_xckDue (d : Dev) (n : Nat) (g : FbPort → FbPort) : (d.modFbp n g).xckDue = d.xckDue := rfl
@[simp] theorem Dev.modFbp_slots (d : Dev) (n : Nat) (g : FbPort → FbPort) : (d.modFbp n g).slots = d.slots := rfl
@[simp] theorem Dev.modFbp_installs (d : Dev) (n : Nat) (g : FbPort → FbPort) : (d.modFbp n g).installs = d.installs := rfl
@[simp] theorem Dev.modFbp_lanes (d : Dev) (n : Nat) (g : FbPort → FbPort) : (d.modFbp n g).lanes = d.lanes := rfl
@[simp] theorem Dev.modFbp_banks (d : Dev) (n : Nat) (g : FbPort → FbPort) : (d.modFbp n g).banks = d.banks := rfl
@[simp] theorem Dev.modFbp_evps (d : Dev) (n : Nat) (g : FbPort → FbPort) : (d.modFbp n g).evps = d.evps := rfl
@[simp] theorem Dev.modFbp_smps (d : Dev) (n : Nat) (g : FbPort → FbPort) : (d.modFbp n g).smps = d.smps := rfl
@[simp] theorem Dev.modFbp_streams (d : Dev) (n : Nat) (g : FbPort → FbPort) : (d.modFbp n g).streams = d.streams := rfl
@[simp] theorem Dev.modFbp_net (d : Dev) (n : Nat) (g : FbPort → FbPort) : (d.modFbp n g).net = d.net := rfl
@[simp] theorem Dev.modFbp_alm (d : Dev) (n : Nat) (g : FbPort → FbPort) : (d.modFbp n g).alm = d.alm := rfl
@[simp] theorem Dev.modFbp_eng (d : Dev) (n : Nat) (g : FbPort → FbPort) : (d.modFbp n g).eng = d.eng := rfl
@[simp] theorem Dev.modFbp_nv (d : Dev) (n : Nat) (g : FbPort → FbPort) : (d.modFbp n g).nv = d.nv := rfl
@[simp] theorem Dev.modFbp_tap (d : Dev) (n : Nat) (g : FbPort → FbPort) : (d.modFbp n g).tap = d.tap := rfl
@[simp] theorem Dev.modFbp_stretch (d : Dev) (n : Nat) (g : FbPort → FbPort) : (d.modFbp n g).stretch = d.stretch := rfl
@[simp] theorem Dev.modFbp_restart (d : Dev) (n : Nat) (g : FbPort → FbPort) : (d.modFbp n g).restart = d.restart := rfl
@[simp] theorem Dev.modFbp_cycleAt (d : Dev) (n : Nat) (g : FbPort → FbPort) : (d.modFbp n g).cycleAt = d.cycleAt := rfl
@[simp] theorem Dev.modFbp_cycleWrites (d : Dev) (n : Nat) (g : FbPort → FbPort) : (d.modFbp n g).cycleWrites = d.cycleWrites := rfl
@[simp] theorem Dev.modFbp_rots (d : Dev) (n : Nat) (g : FbPort → FbPort) : (d.modFbp n g).rots = d.rots := rfl
@[simp] theorem Dev.modFbp_served (d : Dev) (n : Nat) (g : FbPort → FbPort) : (d.modFbp n g).served = d.served := rfl

@[simp] theorem Dev.modEvp_pins (d : Dev) (n : Nat) (g : EventPort → EventPort) : (d.modEvp n g).pins = d.pins := rfl
@[simp] theorem Dev.modEvp_running (d : Dev) (n : Nat) (g : EventPort → EventPort) : (d.modEvp n g).running = d.running := rfl
@[simp] theorem Dev.modEvp_now (d : Dev) (n : Nat) (g : EventPort → EventPort) : (d.modEvp n g).now = d.now := rfl
@[simp] theorem Dev.modEvp_freeCtr (d : Dev) (n : Nat) (g : EventPort → EventPort) : (d.modEvp n g).freeCtr = d.freeCtr := rfl
@[simp] theorem Dev.modEvp_regs (d : Dev) (n : Nat) (g : EventPort → EventPort) : (d.modEvp n g).regs = d.regs := rfl
@[simp] theorem Dev.modEvp_shadows (d : Dev) (n : Nat) (g : EventPort → EventPort) : (d.modEvp n g).shadows = d.shadows := rfl
@[simp] theorem Dev.modEvp_commits (d : Dev) (n : Nat) (g : EventPort → EventPort) : (d.modEvp n g).commits = d.commits := rfl
@[simp] theorem Dev.modEvp_wrHold (d : Dev) (n : Nat) (g : EventPort → EventPort) : (d.modEvp n g).wrHold = d.wrHold := rfl
@[simp] theorem Dev.modEvp_answer (d : Dev) (n : Nat) (g : EventPort → EventPort) : (d.modEvp n g).answer = d.answer := rfl
@[simp] theorem Dev.modEvp_active (d : Dev) (n : Nat) (g : EventPort → EventPort) : (d.modEvp n g).active = d.active := rfl
@[simp] theorem Dev.modEvp_deferred (d : Dev) (n : Nat) (g : EventPort → EventPort) : (d.modEvp n g).deferred = d.deferred := rfl
@[simp] theorem Dev.modEvp_clearReq (d : Dev) (n : Nat) (g : EventPort → EventPort) : (d.modEvp n g).clearReq = d.clearReq := rfl
@[simp] theorem Dev.modEvp_queue (d : Dev) (n : Nat) (g : EventPort → EventPort) : (d.modEvp n g).queue = d.queue := rfl
@[simp] theorem Dev.modEvp_startBuf (d : Dev) (n : Nat) (g : EventPort → EventPort) : (d.modEvp n g).startBuf = d.startBuf := rfl
@[simp] theorem Dev.modEvp_chronOn (d : Dev) (n : Nat) (g : EventPort → EventPort) : (d.modEvp n g).chronOn = d.chronOn := rfl
@[simp] theorem Dev.modEvp_stepsDone (d : Dev) (n : Nat) (g : EventPort → EventPort) : (d.modEvp n g).stepsDone = d.stepsDone := rfl
@[simp] theorem Dev.modEvp_axes (d : Dev) (n : Nat) (g : EventPort → EventPort) : (d.modEvp n g).axes = d.axes := rfl
@[simp] theorem Dev.modEvp_profs (d : Dev) (n : Nat) (g : EventPort → EventPort) : (d.modEvp n g).profs = d.profs := rfl
@[simp] theorem Dev.modEvp_adc (d : Dev) (n : Nat) (g : EventPort → EventPort) : (d.modEvp n g).adc = d.adc := rfl
@[simp] theorem Dev.modEvp_xckDue (d : Dev) (n : Nat) (g : EventPort → EventPort) : (d.modEvp n g).xckDue = d.xckDue := rfl
@[simp] theorem Dev.modEvp_slots (d : Dev) (n : Nat) (g : EventPort → EventPort) : (d.modEvp n g).slots = d.slots := rfl
@[simp] theorem Dev.modEvp_installs (d : Dev) (n : Nat) (g : EventPort → EventPort) : (d.modEvp n g).installs = d.installs := rfl
@[simp] theorem Dev.modEvp_lanes (d : Dev) (n : Nat) (g : EventPort → EventPort) : (d.modEvp n g).lanes = d.lanes := rfl
@[simp] theorem Dev.modEvp_banks (d : Dev) (n : Nat) (g : EventPort → EventPort) : (d.modEvp n g).banks = d.banks := rfl
@[simp] theorem Dev.modEvp_fbps (d : Dev) (n : Nat) (g : EventPort → EventPort) : (d.modEvp n g).fbps = d.fbps := rfl
@[simp] theorem Dev.modEvp_smps (d : Dev) (n : Nat) (g : EventPort → EventPort) : (d.modEvp n g).smps = d.smps := rfl
@[simp] theorem Dev.modEvp_streams (d : Dev) (n : Nat) (g : EventPort → EventPort) : (d.modEvp n g).streams = d.streams := rfl
@[simp] theorem Dev.modEvp_net (d : Dev) (n : Nat) (g : EventPort → EventPort) : (d.modEvp n g).net = d.net := rfl
@[simp] theorem Dev.modEvp_alm (d : Dev) (n : Nat) (g : EventPort → EventPort) : (d.modEvp n g).alm = d.alm := rfl
@[simp] theorem Dev.modEvp_eng (d : Dev) (n : Nat) (g : EventPort → EventPort) : (d.modEvp n g).eng = d.eng := rfl
@[simp] theorem Dev.modEvp_nv (d : Dev) (n : Nat) (g : EventPort → EventPort) : (d.modEvp n g).nv = d.nv := rfl
@[simp] theorem Dev.modEvp_tap (d : Dev) (n : Nat) (g : EventPort → EventPort) : (d.modEvp n g).tap = d.tap := rfl
@[simp] theorem Dev.modEvp_stretch (d : Dev) (n : Nat) (g : EventPort → EventPort) : (d.modEvp n g).stretch = d.stretch := rfl
@[simp] theorem Dev.modEvp_restart (d : Dev) (n : Nat) (g : EventPort → EventPort) : (d.modEvp n g).restart = d.restart := rfl
@[simp] theorem Dev.modEvp_cycleAt (d : Dev) (n : Nat) (g : EventPort → EventPort) : (d.modEvp n g).cycleAt = d.cycleAt := rfl
@[simp] theorem Dev.modEvp_cycleWrites (d : Dev) (n : Nat) (g : EventPort → EventPort) : (d.modEvp n g).cycleWrites = d.cycleWrites := rfl
@[simp] theorem Dev.modEvp_rots (d : Dev) (n : Nat) (g : EventPort → EventPort) : (d.modEvp n g).rots = d.rots := rfl
@[simp] theorem Dev.modEvp_served (d : Dev) (n : Nat) (g : EventPort → EventPort) : (d.modEvp n g).served = d.served := rfl

@[simp] theorem Dev.modSmp_pins (d : Dev) (n : Nat) (g : SerialPort → SerialPort) : (d.modSmp n g).pins = d.pins := rfl
@[simp] theorem Dev.modSmp_running (d : Dev) (n : Nat) (g : SerialPort → SerialPort) : (d.modSmp n g).running = d.running := rfl
@[simp] theorem Dev.modSmp_now (d : Dev) (n : Nat) (g : SerialPort → SerialPort) : (d.modSmp n g).now = d.now := rfl
@[simp] theorem Dev.modSmp_freeCtr (d : Dev) (n : Nat) (g : SerialPort → SerialPort) : (d.modSmp n g).freeCtr = d.freeCtr := rfl
@[simp] theorem Dev.modSmp_regs (d : Dev) (n : Nat) (g : SerialPort → SerialPort) : (d.modSmp n g).regs = d.regs := rfl
@[simp] theorem Dev.modSmp_shadows (d : Dev) (n : Nat) (g : SerialPort → SerialPort) : (d.modSmp n g).shadows = d.shadows := rfl
@[simp] theorem Dev.modSmp_commits (d : Dev) (n : Nat) (g : SerialPort → SerialPort) : (d.modSmp n g).commits = d.commits := rfl
@[simp] theorem Dev.modSmp_wrHold (d : Dev) (n : Nat) (g : SerialPort → SerialPort) : (d.modSmp n g).wrHold = d.wrHold := rfl
@[simp] theorem Dev.modSmp_answer (d : Dev) (n : Nat) (g : SerialPort → SerialPort) : (d.modSmp n g).answer = d.answer := rfl
@[simp] theorem Dev.modSmp_active (d : Dev) (n : Nat) (g : SerialPort → SerialPort) : (d.modSmp n g).active = d.active := rfl
@[simp] theorem Dev.modSmp_deferred (d : Dev) (n : Nat) (g : SerialPort → SerialPort) : (d.modSmp n g).deferred = d.deferred := rfl
@[simp] theorem Dev.modSmp_clearReq (d : Dev) (n : Nat) (g : SerialPort → SerialPort) : (d.modSmp n g).clearReq = d.clearReq := rfl
@[simp] theorem Dev.modSmp_queue (d : Dev) (n : Nat) (g : SerialPort → SerialPort) : (d.modSmp n g).queue = d.queue := rfl
@[simp] theorem Dev.modSmp_startBuf (d : Dev) (n : Nat) (g : SerialPort → SerialPort) : (d.modSmp n g).startBuf = d.startBuf := rfl
@[simp] theorem Dev.modSmp_chronOn (d : Dev) (n : Nat) (g : SerialPort → SerialPort) : (d.modSmp n g).chronOn = d.chronOn := rfl
@[simp] theorem Dev.modSmp_stepsDone (d : Dev) (n : Nat) (g : SerialPort → SerialPort) : (d.modSmp n g).stepsDone = d.stepsDone := rfl
@[simp] theorem Dev.modSmp_axes (d : Dev) (n : Nat) (g : SerialPort → SerialPort) : (d.modSmp n g).axes = d.axes := rfl
@[simp] theorem Dev.modSmp_profs (d : Dev) (n : Nat) (g : SerialPort → SerialPort) : (d.modSmp n g).profs = d.profs := rfl
@[simp] theorem Dev.modSmp_adc (d : Dev) (n : Nat) (g : SerialPort → SerialPort) : (d.modSmp n g).adc = d.adc := rfl
@[simp] theorem Dev.modSmp_xckDue (d : Dev) (n : Nat) (g : SerialPort → SerialPort) : (d.modSmp n g).xckDue = d.xckDue := rfl
@[simp] theorem Dev.modSmp_slots (d : Dev) (n : Nat) (g : SerialPort → SerialPort) : (d.modSmp n g).slots = d.slots := rfl
@[simp] theorem Dev.modSmp_installs (d : Dev) (n : Nat) (g : SerialPort → SerialPort) : (d.modSmp n g).installs = d.installs := rfl
@[simp] theorem Dev.modSmp_lanes (d : Dev) (n : Nat) (g : SerialPort → SerialPort) : (d.modSmp n g).lanes = d.lanes := rfl
@[simp] theorem Dev.modSmp_banks (d : Dev) (n : Nat) (g : SerialPort → SerialPort) : (d.modSmp n g).banks = d.banks := rfl
@[simp] theorem Dev.modSmp_fbps (d : Dev) (n : Nat) (g : SerialPort → SerialPort) : (d.modSmp n g).fbps = d.fbps := rfl
@[simp] theorem Dev.modSmp_evps (d : Dev) (n : Nat) (g : SerialPort → SerialPort) : (d.modSmp n g).evps = d.evps := rfl
@[simp] theorem Dev.modSmp_streams (d : Dev) (n : Nat) (g : SerialPort → SerialPort) : (d.modSmp n g).streams = d.streams := rfl
@[simp] theorem Dev.modSmp_net (d : Dev) (n : Nat) (g : SerialPort → SerialPort) : (d.modSmp n g).net = d.net := rfl
@[simp] theorem Dev.modSmp_alm (d : Dev) (n : Nat) (g : SerialPort → SerialPort) : (d.modSmp n g).alm = d.alm := rfl
@[simp] theorem Dev.modSmp_eng (d : Dev) (n : Nat) (g : SerialPort → SerialPort) : (d.modSmp n g).eng = d.eng := rfl
@[simp] theorem Dev.modSmp_nv (d : Dev) (n : Nat) (g : SerialPort → SerialPort) : (d.modSmp n g).nv = d.nv := rfl
@[simp] theorem Dev.modSmp_tap (d : Dev) (n : Nat) (g : SerialPort → SerialPort) : (d.modSmp n g).tap = d.tap := rfl
@[simp] theorem Dev.modSmp_stretch (d : Dev) (n : Nat) (g : SerialPort → SerialPort) : (d.modSmp n g).stretch = d.stretch := rfl
@[simp] theorem Dev.modSmp_restart (d : Dev) (n : Nat) (g : SerialPort → SerialPort) : (d.modSmp n g).restart = d.restart := rfl
@[simp] theorem Dev.modSmp_cycleAt (d : Dev) (n : Nat) (g : SerialPort → SerialPort) : (d.modSmp n g).cycleAt = d.cycleAt := rfl
@[simp] theorem Dev.modSmp_cycleWrites (d : Dev) (n : Nat) (g : SerialPort → SerialPort) : (d.modSmp n g).cycleWrites = d.cycleWrites := rfl
@[simp] theorem Dev.modSmp_rots (d : Dev) (n : Nat) (g : SerialPort → SerialPort) : (d.modSmp n g).rots = d.rots := rfl
@[simp] theorem Dev.modSmp_served (d : Dev) (n : Nat) (g : SerialPort → SerialPort) : (d.modSmp n g).served = d.served := rfl

@[simp] theorem Dev.modStream_pins (d : Dev) (n : Nat) (g : Stream → Stream) : (d.modStream n g).pins = d.pins := rfl
@[simp] theorem Dev.modStream_running (d : Dev) (n : Nat) (g : Stream → Stream) : (d.modStream n g).running = d.running := rfl
@[simp] theorem Dev.modStream_now (d : Dev) (n : Nat) (g : Stream → Stream) : (d.modStream n g).now = d.now := rfl
@[simp] theorem Dev.modStream_freeCtr (d : Dev) (n : Nat) (g : Stream → Stream) : (d.modStream n g).freeCtr = d.freeCtr := rfl
@[simp] theorem Dev.modStream_regs (d : Dev) (n : Nat) (g : Stream → Stream) : (d.modStream n g).regs = d.regs := rfl
@[simp] theorem Dev.modStream_shadows (d : Dev) (n : Nat) (g : Stream → Stream) : (d.modStream n g).shadows = d.shadows := rfl
@[simp] theorem Dev.modStream_commits (d : Dev) (n : Nat) (g : Stream → Stream) : (d.modStream n g).commits = d.commits := rfl
@[simp] theorem Dev.modStream_wrHold (d : Dev) (n : Nat) (g : Stream → Stream) : (d.modStream n g).wrHold = d.wrHold := rfl
@[simp] theorem Dev.modStream_answer (d : Dev) (n : Nat) (g : Stream → Stream) : (d.modStream n g).answer = d.answer := rfl
@[simp] theorem Dev.modStream_active (d : Dev) (n : Nat) (g : Stream → Stream) : (d.modStream n g).active = d.active := rfl
@[simp] theorem Dev.modStream_deferred (d : Dev) (n : Nat) (g : Stream → Stream) : (d.modStream n g).deferred = d.deferred := rfl
@[simp] theorem Dev.modStream_clearReq (d : Dev) (n : Nat) (g : Stream → Stream) : (d.modStream n g).clearReq = d.clearReq := rfl
@[simp] theorem Dev.modStream_queue (d : Dev) (n : Nat) (g : Stream → Stream) : (d.modStream n g).queue = d.queue := rfl
@[simp] theorem Dev.modStream_startBuf (d : Dev) (n : Nat) (g : Stream → Stream) : (d.modStream n g).startBuf = d.startBuf := rfl
@[simp] theorem Dev.modStream_chronOn (d : Dev) (n : Nat) (g : Stream → Stream) : (d.modStream n g).chronOn = d.chronOn := rfl
@[simp] theorem Dev.modStream_stepsDone (d : Dev) (n : Nat) (g : Stream → Stream) : (d.modStream n g).stepsDone = d.stepsDone := rfl
@[simp] theorem Dev.modStream_axes (d : Dev) (n : Nat) (g : Stream → Stream) : (d.modStream n g).axes = d.axes := rfl
@[simp] theorem Dev.modStream_profs (d : Dev) (n : Nat) (g : Stream → Stream) : (d.modStream n g).profs = d.profs := rfl
@[simp] theorem Dev.modStream_adc (d : Dev) (n : Nat) (g : Stream → Stream) : (d.modStream n g).adc = d.adc := rfl
@[simp] theorem Dev.modStream_xckDue (d : Dev) (n : Nat) (g : Stream → Stream) : (d.modStream n g).xckDue = d.xckDue := rfl
@[simp] theorem Dev.modStream_slots (d : Dev) (n : Nat) (g : Stream → Stream) : (d.modStream n g).slots = d.slots := rfl
@[simp] theorem Dev.modStream_installs (d : Dev) (n : Nat) (g : Stream → Stream) : (d.modStream n g).installs = d.installs := rfl
@[simp] theorem Dev.modStream_lanes (d : Dev) (n : Nat) (g : Stream → Stream) : (d.modStream n g).lanes = d.lanes := rfl
@[simp] theorem Dev.modStream_banks (d : Dev) (n : Nat) (g : Stream → Stream) : (d.modStream n g).banks = d.banks := rfl
@[simp] theorem Dev.modStream_fbps (d : Dev) (n : Nat) (g : Stream → Stream) : (d.modStream n g).fbps = d.fbps := rfl
@[simp] theorem Dev.modStream_evps (d : Dev) (n : Nat) (g : Stream → Stream) : (d.modStream n g).evps = d.evps := rfl
@[simp] theorem Dev.modStream_smps (d : Dev) (n : Nat) (g : Stream → Stream) : (d.modStream n g).smps = d.smps := rfl
@[simp] theorem Dev.modStream_net (d : Dev) (n : Nat) (g : Stream → Stream) : (d.modStream n g).net = d.net := rfl
@[simp] theorem Dev.modStream_alm (d : Dev) (n : Nat) (g : Stream → Stream) : (d.modStream n g).alm = d.alm := rfl
@[simp] theorem Dev.modStream_eng (d : Dev) (n : Nat) (g : Stream → Stream) : (d.modStream n g).eng = d.eng := rfl
@[simp] theorem Dev.modStream_nv (d : Dev) (n : Nat) (g : Stream → Stream) : (d.modStream n g).nv = d.nv := rfl
@[simp] theorem Dev.modStream_tap (d : Dev) (n : Nat) (g : Stream → Stream) : (d.modStream n g).tap = d.tap := rfl
@[simp] theorem Dev.modStream_stretch (d : Dev) (n : Nat) (g : Stream → Stream) : (d.modStream n g).stretch = d.stretch := rfl
@[simp] theorem Dev.modStream_restart (d : Dev) (n : Nat) (g : Stream → Stream) : (d.modStream n g).restart = d.restart := rfl
@[simp] theorem Dev.modStream_cycleAt (d : Dev) (n : Nat) (g : Stream → Stream) : (d.modStream n g).cycleAt = d.cycleAt := rfl
@[simp] theorem Dev.modStream_cycleWrites (d : Dev) (n : Nat) (g : Stream → Stream) : (d.modStream n g).cycleWrites = d.cycleWrites := rfl
@[simp] theorem Dev.modStream_rots (d : Dev) (n : Nat) (g : Stream → Stream) : (d.modStream n g).rots = d.rots := rfl
@[simp] theorem Dev.modStream_served (d : Dev) (n : Nat) (g : Stream → Stream) : (d.modStream n g).served = d.served := rfl

@[simp] theorem Dev.modNet_pins (d : Dev) (g : Net → Net) : (d.modNet g).pins = d.pins := rfl
@[simp] theorem Dev.modNet_running (d : Dev) (g : Net → Net) : (d.modNet g).running = d.running := rfl
@[simp] theorem Dev.modNet_now (d : Dev) (g : Net → Net) : (d.modNet g).now = d.now := rfl
@[simp] theorem Dev.modNet_freeCtr (d : Dev) (g : Net → Net) : (d.modNet g).freeCtr = d.freeCtr := rfl
@[simp] theorem Dev.modNet_regs (d : Dev) (g : Net → Net) : (d.modNet g).regs = d.regs := rfl
@[simp] theorem Dev.modNet_shadows (d : Dev) (g : Net → Net) : (d.modNet g).shadows = d.shadows := rfl
@[simp] theorem Dev.modNet_commits (d : Dev) (g : Net → Net) : (d.modNet g).commits = d.commits := rfl
@[simp] theorem Dev.modNet_wrHold (d : Dev) (g : Net → Net) : (d.modNet g).wrHold = d.wrHold := rfl
@[simp] theorem Dev.modNet_answer (d : Dev) (g : Net → Net) : (d.modNet g).answer = d.answer := rfl
@[simp] theorem Dev.modNet_active (d : Dev) (g : Net → Net) : (d.modNet g).active = d.active := rfl
@[simp] theorem Dev.modNet_deferred (d : Dev) (g : Net → Net) : (d.modNet g).deferred = d.deferred := rfl
@[simp] theorem Dev.modNet_clearReq (d : Dev) (g : Net → Net) : (d.modNet g).clearReq = d.clearReq := rfl
@[simp] theorem Dev.modNet_queue (d : Dev) (g : Net → Net) : (d.modNet g).queue = d.queue := rfl
@[simp] theorem Dev.modNet_startBuf (d : Dev) (g : Net → Net) : (d.modNet g).startBuf = d.startBuf := rfl
@[simp] theorem Dev.modNet_chronOn (d : Dev) (g : Net → Net) : (d.modNet g).chronOn = d.chronOn := rfl
@[simp] theorem Dev.modNet_stepsDone (d : Dev) (g : Net → Net) : (d.modNet g).stepsDone = d.stepsDone := rfl
@[simp] theorem Dev.modNet_axes (d : Dev) (g : Net → Net) : (d.modNet g).axes = d.axes := rfl
@[simp] theorem Dev.modNet_profs (d : Dev) (g : Net → Net) : (d.modNet g).profs = d.profs := rfl
@[simp] theorem Dev.modNet_adc (d : Dev) (g : Net → Net) : (d.modNet g).adc = d.adc := rfl
@[simp] theorem Dev.modNet_xckDue (d : Dev) (g : Net → Net) : (d.modNet g).xckDue = d.xckDue := rfl
@[simp] theorem Dev.modNet_slots (d : Dev) (g : Net → Net) : (d.modNet g).slots = d.slots := rfl
@[simp] theorem Dev.modNet_installs (d : Dev) (g : Net → Net) : (d.modNet g).installs = d.installs := rfl
@[simp] theorem Dev.modNet_lanes (d : Dev) (g : Net → Net) : (d.modNet g).lanes = d.lanes := rfl
@[simp] theorem Dev.modNet_banks (d : Dev) (g : Net → Net) : (d.modNet g).banks = d.banks := rfl
@[simp] theorem Dev.modNet_fbps (d : Dev) (g : Net → Net) : (d.modNet g).fbps = d.fbps := rfl
@[simp] theorem Dev.modNet_evps (d : Dev) (g : Net → Net) : (d.modNet g).evps = d.evps := rfl
@[simp] theorem Dev.modNet_smps (d : Dev) (g : Net → Net) : (d.modNet g).smps = d.smps := rfl
@[simp] theorem Dev.modNet_streams (d : Dev) (g : Net → Net) : (d.modNet g).streams = d.streams := rfl
@[simp] theorem Dev.modNet_alm (d : Dev) (g : Net → Net) : (d.modNet g).alm = d.alm := rfl
@[simp] theorem Dev.modNet_eng (d : Dev) (g : Net → Net) : (d.modNet g).eng = d.eng := rfl
@[simp] theorem Dev.modNet_nv (d : Dev) (g : Net → Net) : (d.modNet g).nv = d.nv := rfl
@[simp] theorem Dev.modNet_tap (d : Dev) (g : Net → Net) : (d.modNet g).tap = d.tap := rfl
@[simp] theorem Dev.modNet_stretch (d : Dev) (g : Net → Net) : (d.modNet g).stretch = d.stretch := rfl
@[simp] theorem Dev.modNet_restart (d : Dev) (g : Net → Net) : (d.modNet g).restart = d.restart := rfl
@[simp] theorem Dev.modNet_cycleAt (d : Dev) (g : Net → Net) : (d.modNet g).cycleAt = d.cycleAt := rfl
@[simp] theorem Dev.modNet_cycleWrites (d : Dev) (g : Net → Net) : (d.modNet g).cycleWrites = d.cycleWrites := rfl
@[simp] theorem Dev.modNet_rots (d : Dev) (g : Net → Net) : (d.modNet g).rots = d.rots := rfl
@[simp] theorem Dev.modNet_served (d : Dev) (g : Net → Net) : (d.modNet g).served = d.served := rfl
@[simp] theorem Dev.modNet_net (d : Dev) (g : Net → Net) : (d.modNet g).net = g d.net := rfl

@[simp] theorem Dev.modSlot_pins (d : Dev) (n k : Nat) (g : Slot → Slot) : (d.modSlot n k g).pins = d.pins := rfl
@[simp] theorem Dev.modSlot_running (d : Dev) (n k : Nat) (g : Slot → Slot) : (d.modSlot n k g).running = d.running := rfl
@[simp] theorem Dev.modSlot_now (d : Dev) (n k : Nat) (g : Slot → Slot) : (d.modSlot n k g).now = d.now := rfl
@[simp] theorem Dev.modSlot_freeCtr (d : Dev) (n k : Nat) (g : Slot → Slot) : (d.modSlot n k g).freeCtr = d.freeCtr := rfl
@[simp] theorem Dev.modSlot_regs (d : Dev) (n k : Nat) (g : Slot → Slot) : (d.modSlot n k g).regs = d.regs := rfl
@[simp] theorem Dev.modSlot_shadows (d : Dev) (n k : Nat) (g : Slot → Slot) : (d.modSlot n k g).shadows = d.shadows := rfl
@[simp] theorem Dev.modSlot_commits (d : Dev) (n k : Nat) (g : Slot → Slot) : (d.modSlot n k g).commits = d.commits := rfl
@[simp] theorem Dev.modSlot_wrHold (d : Dev) (n k : Nat) (g : Slot → Slot) : (d.modSlot n k g).wrHold = d.wrHold := rfl
@[simp] theorem Dev.modSlot_answer (d : Dev) (n k : Nat) (g : Slot → Slot) : (d.modSlot n k g).answer = d.answer := rfl
@[simp] theorem Dev.modSlot_active (d : Dev) (n k : Nat) (g : Slot → Slot) : (d.modSlot n k g).active = d.active := rfl
@[simp] theorem Dev.modSlot_deferred (d : Dev) (n k : Nat) (g : Slot → Slot) : (d.modSlot n k g).deferred = d.deferred := rfl
@[simp] theorem Dev.modSlot_clearReq (d : Dev) (n k : Nat) (g : Slot → Slot) : (d.modSlot n k g).clearReq = d.clearReq := rfl
@[simp] theorem Dev.modSlot_queue (d : Dev) (n k : Nat) (g : Slot → Slot) : (d.modSlot n k g).queue = d.queue := rfl
@[simp] theorem Dev.modSlot_startBuf (d : Dev) (n k : Nat) (g : Slot → Slot) : (d.modSlot n k g).startBuf = d.startBuf := rfl
@[simp] theorem Dev.modSlot_chronOn (d : Dev) (n k : Nat) (g : Slot → Slot) : (d.modSlot n k g).chronOn = d.chronOn := rfl
@[simp] theorem Dev.modSlot_stepsDone (d : Dev) (n k : Nat) (g : Slot → Slot) : (d.modSlot n k g).stepsDone = d.stepsDone := rfl
@[simp] theorem Dev.modSlot_axes (d : Dev) (n k : Nat) (g : Slot → Slot) : (d.modSlot n k g).axes = d.axes := rfl
@[simp] theorem Dev.modSlot_profs (d : Dev) (n k : Nat) (g : Slot → Slot) : (d.modSlot n k g).profs = d.profs := rfl
@[simp] theorem Dev.modSlot_adc (d : Dev) (n k : Nat) (g : Slot → Slot) : (d.modSlot n k g).adc = d.adc := rfl
@[simp] theorem Dev.modSlot_xckDue (d : Dev) (n k : Nat) (g : Slot → Slot) : (d.modSlot n k g).xckDue = d.xckDue := rfl
@[simp] theorem Dev.modSlot_installs (d : Dev) (n k : Nat) (g : Slot → Slot) : (d.modSlot n k g).installs = d.installs := rfl
@[simp] theorem Dev.modSlot_lanes (d : Dev) (n k : Nat) (g : Slot → Slot) : (d.modSlot n k g).lanes = d.lanes := rfl
@[simp] theorem Dev.modSlot_banks (d : Dev) (n k : Nat) (g : Slot → Slot) : (d.modSlot n k g).banks = d.banks := rfl
@[simp] theorem Dev.modSlot_fbps (d : Dev) (n k : Nat) (g : Slot → Slot) : (d.modSlot n k g).fbps = d.fbps := rfl
@[simp] theorem Dev.modSlot_evps (d : Dev) (n k : Nat) (g : Slot → Slot) : (d.modSlot n k g).evps = d.evps := rfl
@[simp] theorem Dev.modSlot_smps (d : Dev) (n k : Nat) (g : Slot → Slot) : (d.modSlot n k g).smps = d.smps := rfl
@[simp] theorem Dev.modSlot_streams (d : Dev) (n k : Nat) (g : Slot → Slot) : (d.modSlot n k g).streams = d.streams := rfl
@[simp] theorem Dev.modSlot_net (d : Dev) (n k : Nat) (g : Slot → Slot) : (d.modSlot n k g).net = d.net := rfl
@[simp] theorem Dev.modSlot_alm (d : Dev) (n k : Nat) (g : Slot → Slot) : (d.modSlot n k g).alm = d.alm := rfl
@[simp] theorem Dev.modSlot_eng (d : Dev) (n k : Nat) (g : Slot → Slot) : (d.modSlot n k g).eng = d.eng := rfl
@[simp] theorem Dev.modSlot_nv (d : Dev) (n k : Nat) (g : Slot → Slot) : (d.modSlot n k g).nv = d.nv := rfl
@[simp] theorem Dev.modSlot_tap (d : Dev) (n k : Nat) (g : Slot → Slot) : (d.modSlot n k g).tap = d.tap := rfl
@[simp] theorem Dev.modSlot_stretch (d : Dev) (n k : Nat) (g : Slot → Slot) : (d.modSlot n k g).stretch = d.stretch := rfl
@[simp] theorem Dev.modSlot_restart (d : Dev) (n k : Nat) (g : Slot → Slot) : (d.modSlot n k g).restart = d.restart := rfl
@[simp] theorem Dev.modSlot_cycleAt (d : Dev) (n k : Nat) (g : Slot → Slot) : (d.modSlot n k g).cycleAt = d.cycleAt := rfl
@[simp] theorem Dev.modSlot_cycleWrites (d : Dev) (n k : Nat) (g : Slot → Slot) : (d.modSlot n k g).cycleWrites = d.cycleWrites := rfl
@[simp] theorem Dev.modSlot_rots (d : Dev) (n k : Nat) (g : Slot → Slot) : (d.modSlot n k g).rots = d.rots := rfl
@[simp] theorem Dev.modSlot_served (d : Dev) (n k : Nat) (g : Slot → Slot) : (d.modSlot n k g).served = d.served := rfl
@[simp] theorem Dev.setInstall_pins (d : Dev) (n : Nat) (i : Option Install) : (d.setInstall n i).pins = d.pins := rfl
@[simp] theorem Dev.setInstall_running (d : Dev) (n : Nat) (i : Option Install) : (d.setInstall n i).running = d.running := rfl
@[simp] theorem Dev.setInstall_now (d : Dev) (n : Nat) (i : Option Install) : (d.setInstall n i).now = d.now := rfl
@[simp] theorem Dev.setInstall_freeCtr (d : Dev) (n : Nat) (i : Option Install) : (d.setInstall n i).freeCtr = d.freeCtr := rfl
@[simp] theorem Dev.setInstall_regs (d : Dev) (n : Nat) (i : Option Install) : (d.setInstall n i).regs = d.regs := rfl
@[simp] theorem Dev.setInstall_shadows (d : Dev) (n : Nat) (i : Option Install) : (d.setInstall n i).shadows = d.shadows := rfl
@[simp] theorem Dev.setInstall_commits (d : Dev) (n : Nat) (i : Option Install) : (d.setInstall n i).commits = d.commits := rfl
@[simp] theorem Dev.setInstall_wrHold (d : Dev) (n : Nat) (i : Option Install) : (d.setInstall n i).wrHold = d.wrHold := rfl
@[simp] theorem Dev.setInstall_answer (d : Dev) (n : Nat) (i : Option Install) : (d.setInstall n i).answer = d.answer := rfl
@[simp] theorem Dev.setInstall_active (d : Dev) (n : Nat) (i : Option Install) : (d.setInstall n i).active = d.active := rfl
@[simp] theorem Dev.setInstall_deferred (d : Dev) (n : Nat) (i : Option Install) : (d.setInstall n i).deferred = d.deferred := rfl
@[simp] theorem Dev.setInstall_clearReq (d : Dev) (n : Nat) (i : Option Install) : (d.setInstall n i).clearReq = d.clearReq := rfl
@[simp] theorem Dev.setInstall_queue (d : Dev) (n : Nat) (i : Option Install) : (d.setInstall n i).queue = d.queue := rfl
@[simp] theorem Dev.setInstall_startBuf (d : Dev) (n : Nat) (i : Option Install) : (d.setInstall n i).startBuf = d.startBuf := rfl
@[simp] theorem Dev.setInstall_chronOn (d : Dev) (n : Nat) (i : Option Install) : (d.setInstall n i).chronOn = d.chronOn := rfl
@[simp] theorem Dev.setInstall_stepsDone (d : Dev) (n : Nat) (i : Option Install) : (d.setInstall n i).stepsDone = d.stepsDone := rfl
@[simp] theorem Dev.setInstall_axes (d : Dev) (n : Nat) (i : Option Install) : (d.setInstall n i).axes = d.axes := rfl
@[simp] theorem Dev.setInstall_profs (d : Dev) (n : Nat) (i : Option Install) : (d.setInstall n i).profs = d.profs := rfl
@[simp] theorem Dev.setInstall_adc (d : Dev) (n : Nat) (i : Option Install) : (d.setInstall n i).adc = d.adc := rfl
@[simp] theorem Dev.setInstall_xckDue (d : Dev) (n : Nat) (i : Option Install) : (d.setInstall n i).xckDue = d.xckDue := rfl
@[simp] theorem Dev.setInstall_slots (d : Dev) (n : Nat) (i : Option Install) : (d.setInstall n i).slots = d.slots := rfl
@[simp] theorem Dev.setInstall_lanes (d : Dev) (n : Nat) (i : Option Install) : (d.setInstall n i).lanes = d.lanes := rfl
@[simp] theorem Dev.setInstall_banks (d : Dev) (n : Nat) (i : Option Install) : (d.setInstall n i).banks = d.banks := rfl
@[simp] theorem Dev.setInstall_fbps (d : Dev) (n : Nat) (i : Option Install) : (d.setInstall n i).fbps = d.fbps := rfl
@[simp] theorem Dev.setInstall_evps (d : Dev) (n : Nat) (i : Option Install) : (d.setInstall n i).evps = d.evps := rfl
@[simp] theorem Dev.setInstall_smps (d : Dev) (n : Nat) (i : Option Install) : (d.setInstall n i).smps = d.smps := rfl
@[simp] theorem Dev.setInstall_streams (d : Dev) (n : Nat) (i : Option Install) : (d.setInstall n i).streams = d.streams := rfl
@[simp] theorem Dev.setInstall_net (d : Dev) (n : Nat) (i : Option Install) : (d.setInstall n i).net = d.net := rfl
@[simp] theorem Dev.setInstall_alm (d : Dev) (n : Nat) (i : Option Install) : (d.setInstall n i).alm = d.alm := rfl
@[simp] theorem Dev.setInstall_eng (d : Dev) (n : Nat) (i : Option Install) : (d.setInstall n i).eng = d.eng := rfl
@[simp] theorem Dev.setInstall_nv (d : Dev) (n : Nat) (i : Option Install) : (d.setInstall n i).nv = d.nv := rfl
@[simp] theorem Dev.setInstall_tap (d : Dev) (n : Nat) (i : Option Install) : (d.setInstall n i).tap = d.tap := rfl
@[simp] theorem Dev.setInstall_stretch (d : Dev) (n : Nat) (i : Option Install) : (d.setInstall n i).stretch = d.stretch := rfl
@[simp] theorem Dev.setInstall_restart (d : Dev) (n : Nat) (i : Option Install) : (d.setInstall n i).restart = d.restart := rfl
@[simp] theorem Dev.setInstall_cycleAt (d : Dev) (n : Nat) (i : Option Install) : (d.setInstall n i).cycleAt = d.cycleAt := rfl
@[simp] theorem Dev.setInstall_cycleWrites (d : Dev) (n : Nat) (i : Option Install) : (d.setInstall n i).cycleWrites = d.cycleWrites := rfl
@[simp] theorem Dev.setInstall_rots (d : Dev) (n : Nat) (i : Option Install) : (d.setInstall n i).rots = d.rots := rfl
@[simp] theorem Dev.setInstall_served (d : Dev) (n : Nat) (i : Option Install) : (d.setInstall n i).served = d.served := rfl

/-! ### Sparse tables -/

@[simp] theorem tabGet_tabSet_same {κ ν : Type} [DecidableEq κ] (l : Tab κ ν) (k : κ) (v : ν) : tabGet (tabSet l k v) k = some v := by
  induction l with
  | nil => simp [tabSet, tabGet]
  | cons p l ih =>
    obtain ⟨k', v'⟩ := p
    by_cases h : k' = k <;> simp [tabSet, tabGet, h, ih]

theorem tabGet_tabSet_ne {κ ν : Type} [DecidableEq κ] (l : Tab κ ν) (k q : κ) (v : ν) (h : k ≠ q) : tabGet (tabSet l k v) q = tabGet l q := by
  induction l with
  | nil => simp [tabSet, tabGet, h]
  | cons p l ih =>
    obtain ⟨k', v'⟩ := p
    by_cases hk : k' = k
    · subst hk; simp [tabSet, tabGet, h]
    · simp only [tabSet, hk, if_false, tabGet, ih]

@[simp] theorem tabGet_tabDel_same {κ ν : Type} [DecidableEq κ] (l : Tab κ ν) (k : κ) : tabGet (tabDel l k) k = none := by
  induction l with
  | nil => rfl
  | cons p l ih =>
    obtain ⟨k', v'⟩ := p
    by_cases h : k' = k <;> simp [tabDel, tabGet, h, ih]

/-! ### A unit after a change -/

/-- The unit that was changed. -/
theorem Dev.modAx_ax_eq (d : Dev) (i : Nat) (g : Axis → Axis) (h : i < 24) : (d.modAx i g).ax i = g (d.ax i) := by simp [Dev.modAx, Dev.ax, h]
/-- Another unit is as before. -/
theorem Dev.modAx_ax_ne (d : Dev) (i j : Nat) (g : Axis → Axis) (h : i ≠ j) : (d.modAx i g).ax j = d.ax j := by
  unfold Dev.modAx Dev.ax
  dsimp only
  split <;> simp [tabGet_tabSet_ne, h]
/-- The unit that was changed. -/
theorem Dev.modProf_prof_eq (d : Dev) (i : Nat) (g : Profile → Profile) (h : i < 24) : (d.modProf i g).prof i = g (d.prof i) := by simp [Dev.modProf, Dev.prof, h]
/-- Another unit is as before. -/
theorem Dev.modProf_prof_ne (d : Dev) (i j : Nat) (g : Profile → Profile) (h : i ≠ j) : (d.modProf i g).prof j = d.prof j := by
  unfold Dev.modProf Dev.prof
  dsimp only
  split <;> simp [tabGet_tabSet_ne, h]
/-- The unit that was changed. -/
theorem Dev.modBank_bank_eq (d : Dev) (i : Nat) (g : AdcBank → AdcBank) (h : i < 6) : (d.modBank i g).bank i = g (d.bank i) := by simp [Dev.modBank, Dev.bank, h]
/-- Another unit is as before. -/
theorem Dev.modBank_bank_ne (d : Dev) (i j : Nat) (g : AdcBank → AdcBank) (h : i ≠ j) : (d.modBank i g).bank j = d.bank j := by
  unfold Dev.modBank Dev.bank
  dsimp only
  split <;> simp [tabGet_tabSet_ne, h]
/-- The unit that was changed. -/
theorem Dev.modRot_rot_eq (d : Dev) (i : Nat) (g : Rotation → Rotation) (h : i < 6) : (d.modRot i g).rot i = g (d.rot i) := by simp [Dev.modRot, Dev.rot, h]
/-- Another unit is as before. -/
theorem Dev.modRot_rot_ne (d : Dev) (i j : Nat) (g : Rotation → Rotation) (h : i ≠ j) : (d.modRot i g).rot j = d.rot j := by
  unfold Dev.modRot Dev.rot
  dsimp only
  split <;> simp [tabGet_tabSet_ne, h]
/-- The unit that was changed. -/
theorem Dev.modLane_lane_eq (d : Dev) (i : Nat) (g : Lane → Lane) (h : i < 8) : (d.modLane i g).lane i = g (d.lane i) := by simp [Dev.modLane, Dev.lane, h]
/-- Another unit is as before. -/
theorem Dev.modLane_lane_ne (d : Dev) (i j : Nat) (g : Lane → Lane) (h : i ≠ j) : (d.modLane i g).lane j = d.lane j := by
  unfold Dev.modLane Dev.lane
  dsimp only
  split <;> simp [tabGet_tabSet_ne, h]
/-- The unit that was changed. -/
theorem Dev.modMbank_mbank_eq (d : Dev) (i : Nat) (g : BankSt → BankSt) (h : i < 32) : (d.modMbank i g).mbank i = g (d.mbank i) := by simp [Dev.modMbank, Dev.mbank, h]
/-- Another unit is as before. -/
theorem Dev.modMbank_mbank_ne (d : Dev) (i j : Nat) (g : BankSt → BankSt) (h : i ≠ j) : (d.modMbank i g).mbank j = d.mbank j := by
  unfold Dev.modMbank Dev.mbank
  dsimp only
  split <;> simp [tabGet_tabSet_ne, h]
/-- The unit that was changed. -/
theorem Dev.modFbp_fbp_eq (d : Dev) (i : Nat) (g : FbPort → FbPort) (h : i < 24) : (d.modFbp i g).fbp i = g (d.fbp i) := by simp [Dev.modFbp, Dev.fbp, h]
/-- Another unit is as before. -/
theorem Dev.modFbp_fbp_ne (d : Dev) (i j : Nat) (g : FbPort → FbPort) (h : i ≠ j) : (d.modFbp i g).fbp j = d.fbp j := by
  unfold Dev.modFbp Dev.fbp
  dsimp only
  split <;> simp [tabGet_tabSet_ne, h]
/-- The unit that was changed. -/
theorem Dev.modEvp_evp_eq (d : Dev) (i : Nat) (g : EventPort → EventPort) (h : i < 12) : (d.modEvp i g).evp i = g (d.evp i) := by simp [Dev.modEvp, Dev.evp, h]
/-- Another unit is as before. -/
theorem Dev.modEvp_evp_ne (d : Dev) (i j : Nat) (g : EventPort → EventPort) (h : i ≠ j) : (d.modEvp i g).evp j = d.evp j := by
  unfold Dev.modEvp Dev.evp
  dsimp only
  split <;> simp [tabGet_tabSet_ne, h]
/-- The unit that was changed. -/
theorem Dev.modSmp_smpOf_eq (d : Dev) (i : Nat) (g : SerialPort → SerialPort) (h : i < 2) : (d.modSmp i g).smpOf i = g (d.smpOf i) := by simp [Dev.modSmp, Dev.smpOf, h]
/-- Another unit is as before. -/
theorem Dev.modSmp_smpOf_ne (d : Dev) (i j : Nat) (g : SerialPort → SerialPort) (h : i ≠ j) : (d.modSmp i g).smpOf j = d.smpOf j := by
  unfold Dev.modSmp Dev.smpOf
  dsimp only
  split <;> simp [tabGet_tabSet_ne, h]
/-- The unit that was changed. -/
theorem Dev.modStream_stream_eq (d : Dev) (i : Nat) (g : Stream → Stream) (h : i < 48) : (d.modStream i g).stream i = g (d.stream i) := by simp [Dev.modStream, Dev.stream, h]
/-- Another unit is as before. -/
theorem Dev.modStream_stream_ne (d : Dev) (i j : Nat) (g : Stream → Stream) (h : i ≠ j) : (d.modStream i g).stream j = d.stream j := by
  unfold Dev.modStream Dev.stream
  dsimp only
  split <;> simp [tabGet_tabSet_ne, h]
/-- The slot that was changed. -/
theorem Dev.modSlot_slot_eq (d : Dev) (n k : Nat) (g : Slot → Slot) (hn : n < 24) (hk : k < 4) : (d.modSlot n k g).slot n k = g (d.slot n k) := by
  simp [Dev.modSlot, Dev.slot, hn, hk]
/-- Another slot is as before. -/
theorem Dev.modSlot_slot_ne (d : Dev) (n k n' k' : Nat) (g : Slot → Slot) (h : (n, k) ≠ (n', k')) : (d.modSlot n k g).slot n' k' = d.slot n' k' := by
  unfold Dev.modSlot Dev.slot
  dsimp only
  split
  · rw [tabGet_tabSet_ne _ _ _ _ h]
  · rfl
/-- The install request that was set. -/
theorem Dev.setInstall_install_eq (d : Dev) (n : Nat) (i : Option Install) (h : n < 24) : (d.setInstall n i).install n = i := by
  cases i <;> simp [Dev.setInstall, Dev.install, h]

end Sys2Proof.Machine
end

