-- ==== Sys2Proof/Laws/Registers.lean ====
section
/-! SUPPORT. Register fields: a field read after a write of itself, of another field, and after a change of a unit. -/
namespace Sys2Proof.Machine

/-! ### A field after a write -/

/-- A field reads as the low bits that were written (R14). -/
theorem Dev.rd_wr_same (d : Dev) (f : Fld) (v : Nat) : (d.wr f v).rd f = v % 2 ^ f.w := by simp [Dev.rd, Dev.wr]

/-- Another field reads as before. -/
theorem Dev.rd_wr_ne (d : Dev) (f g : Fld) (v : Nat) (h : f ≠ g) : (d.wr f v).rd g = d.rd g := by simp [Dev.rd, Dev.wr, tabGet_tabSet_ne _ _ _ _ h]

/-- A field after a write, in one line. -/
theorem Dev.rd_wr (d : Dev) (f g : Fld) (v : Nat) : (d.wr f v).rd g = if f = g then v % 2 ^ g.w else d.rd g := by
  by_cases h : f = g
  · subst h; simp [Dev.rd_wr_same]
  · simp [h, Dev.rd_wr_ne]

/-- What is read depends on the register file alone. -/
theorem Dev.rd_congr (d e : Dev) (f : Fld) (h : d.regs = e.regs) : d.rd f = e.rd f := by simp [Dev.rd, h]

@[simp] theorem Dev.rd_modAx (d : Dev) (n : Nat) (g : Axis → Axis) (f : Fld) : (d.modAx n g).rd f = d.rd f := rfl
@[simp] theorem Dev.rd_modProf (d : Dev) (n : Nat) (g : Profile → Profile) (f : Fld) : (d.modProf n g).rd f = d.rd f := rfl
@[simp] theorem Dev.rd_modBank (d : Dev) (n : Nat) (g : AdcBank → AdcBank) (f : Fld) : (d.modBank n g).rd f = d.rd f := rfl
@[simp] theorem Dev.rd_modRot (d : Dev) (n : Nat) (g : Rotation → Rotation) (f : Fld) : (d.modRot n g).rd f = d.rd f := rfl
@[simp] theorem Dev.rd_modLane (d : Dev) (n : Nat) (g : Lane → Lane) (f : Fld) : (d.modLane n g).rd f = d.rd f := rfl
@[simp] theorem Dev.rd_modMbank (d : Dev) (n : Nat) (g : BankSt → BankSt) (f : Fld) : (d.modMbank n g).rd f = d.rd f := rfl
@[simp] theorem Dev.rd_modFbp (d : Dev) (n : Nat) (g : FbPort → FbPort) (f : Fld) : (d.modFbp n g).rd f = d.rd f := rfl
@[simp] theorem Dev.rd_modEvp (d : Dev) (n : Nat) (g : EventPort → EventPort) (f : Fld) : (d.modEvp n g).rd f = d.rd f := rfl
@[simp] theorem Dev.rd_modSmp (d : Dev) (n : Nat) (g : SerialPort → SerialPort) (f : Fld) : (d.modSmp n g).rd f = d.rd f := rfl
@[simp] theorem Dev.rd_modStream (d : Dev) (n : Nat) (g : Stream → Stream) (f : Fld) : (d.modStream n g).rd f = d.rd f := rfl
@[simp] theorem Dev.rd_modNet (d : Dev) (g : Net → Net) (f : Fld) : (d.modNet g).rd f = d.rd f := rfl
@[simp] theorem Dev.rd_modSlot (d : Dev) (n s : Nat) (g : Slot → Slot) (f : Fld) : (d.modSlot n s g).rd f = d.rd f := rfl
@[simp] theorem Dev.rd_setInstall (d : Dev) (n : Nat) (i : Option Install) (f : Fld) : (d.setInstall n i).rd f = d.rd f := rfl
@[simp] theorem Dev.rd_at (d : Dev) (t : Nat) (f : Fld) : (d.at_ t).rd f = d.rd f := rfl
@[simp] theorem Dev.rd_dropHigh (d : Dev) (r : Req) (f : Fld) : (d.dropHigh r).rd f = d.rd f := rfl
@[simp] theorem Dev.rd_answered (d : Dev) (x : Nat) (l : List Nat) (f : Fld) : (d.answered x l).rd f = d.rd f := rfl
@[simp] theorem Dev.rd_keepAll (d e : Dev) (f : Fld) : (d.keepAll e).rd f = e.rd f := rfl
@[simp] theorem Dev.rd_keepPins (d e : Dev) (f : Fld) : (d.keepPins e).rd f = e.rd f := rfl
@[simp] theorem Dev.rd_keepNv (d e : Dev) (f : Fld) : (d.keepNv e).rd f = e.rd f := rfl

/-! ### A field after an event of a page -/

/-- An event writes PAGE_EVENT and PAGE_STICKY of its page and nothing else (R61). -/
theorem Dev.rd_ev_ne (d : Dev) (p : Page) (i : Nat) (f : Fld) (h1 : f ≠ pageEvent p) (h2 : f ≠ pageSticky p) : (d.ev p i).rd f = d.rd f := by
  unfold Dev.ev
  split <;> simp [Dev.evOnly, Dev.sticky, Dev.rd_wr_ne _ _ _ _ h1.symm, Dev.rd_wr_ne _ _ _ _ h2.symm]

/-- A sticky bit writes PAGE_STICKY of its page and nothing else. -/
theorem Dev.rd_sticky_ne (d : Dev) (p : Page) (i : Nat) (f : Fld) (h : f ≠ pageSticky p) : (d.sticky p i).rd f = d.rd f := by
  simp [Dev.sticky, Dev.rd_wr_ne _ _ _ _ h.symm]

/-- An entry handed to the chronograph writes no field but those of the chronograph page (R551). -/
theorem Dev.rd_note_ne (d : Dev) (t level src inst code data : Nat) (f : Fld) (h : f.pg ≠ .chron) :
    (d.note t level src inst code data).rd f = d.rd f := by
  have hq : chronQueueMax ≠ f := fun e => h (by subst e; rfl)
  have hl : chronLost ≠ f := fun e => h (by subst e; rfl)
  have he : f ≠ pageEvent .chron := fun e => h (by subst e; rfl)
  have hs : f ≠ pageSticky .chron := fun e => h (by subst e; rfl)
  unfold Dev.note Dev.deliver
  split
  · split
    · dsimp only
      split
      · rw [Dev.rd_wr_ne _ _ _ _ hq]; rfl
      · rfl
    · rw [Dev.rd_ev_ne _ _ _ _ he hs]
      unfold Dev.inc
      split
      · rw [Dev.rd_wr_ne _ _ _ _ hl]; rfl
      · rfl
  · split <;> rfl

/-- A field counted up. -/
theorem Dev.rd_inc_ne (d : Dev) (f g : Fld) (h : f ≠ g) : (d.inc f).rd g = d.rd g := by
  unfold Dev.inc; split <;> simp [Dev.rd_wr_ne _ _ _ _ h]

end Sys2Proof.Machine
end

