-- ==== Sys2Proof/Laws/Faults.lean ====
section
/-! SUPPORT. What the operations of the axis state machine and the raising of a fault leave alone (R295, R538), and that a
raised pair is active. -/
namespace Sys2Proof.Machine

/-- The part of the block that no operation of the axis state machine and no record changes: all but the registers of the
pages of `Page.faultSide`, the axes and their generators, and the entries that wait for the chronograph. -/
def Dev.offAxis (d : Dev) : Dev := { d with regs := d.regs.filter (fun p => !p.1.pg.faultSide), axes := [], profs := [], queue := [], lostPend := 0, startBuf := [], bufOver := 0 }

/-- The part of the block that raising a fault does not change. -/
def Dev.offFault (d : Dev) : Dev := { d.offAxis with active := [], deferred := [], evtTick := [] }

/-- A list of operations that each keep a view keeps it. -/
theorem Dev.each_keeps {α : Type} (g : Dev → α) (f : Nat → Dev → Dev) (hf : ∀ n d, g (f n d) = g d) (l : List Nat) (d : Dev) :
    g (d.each l f) = g d := by
  unfold Dev.each
  induction l generalizing d with
  | nil => rfl
  | cons n l ih => exact (ih _).trans (hf n d)

theorem Dev.when_keeps {α : Type} (g : Dev → α) (f : Dev → Dev) (hf : ∀ d, g (f d) = g d) (b : Bool) (d : Dev) : g (d.when_ b f) = g d := by
  unfold Dev.when_
  split
  · exact hf d
  · rfl

/-! ### The plain operations -/

theorem filter_tabSet {κ ν : Type} [DecidableEq κ] (p : κ → Bool) (l : Tab κ ν) (k : κ) (v : ν) (h : p k = false) :
    (tabSet l k v).filter (fun x => p x.1) = l.filter (fun x => p x.1) := by
  induction l with
  | nil => simp [tabSet, h]
  | cons q l ih =>
    obtain ⟨k', v'⟩ := q
    unfold tabSet
    split
    · next e => subst e; simp [h]
    · simp only [List.filter_cons, ih]

theorem tabGet_filter {κ ν : Type} [DecidableEq κ] (p : κ → Bool) (l : Tab κ ν) (k : κ) (h : p k = true) :
    tabGet (l.filter (fun x => p x.1)) k = tabGet l k := by
  induction l with
  | nil => rfl
  | cons q l ih =>
    obtain ⟨k', v'⟩ := q
    simp only [List.filter_cons]
    split
    · simp only [tabGet, ih]
    · next hp =>
      have hk : k' ≠ k := fun e => hp (by simpa [e] using h)
      simp only [tabGet, hk, if_false, ih]

theorem Dev.offAxis_wr (d : Dev) (f : Fld) (v : Nat) (h : f.pg.faultSide = true) : (d.wr f v).offAxis = d.offAxis := by
  unfold Dev.offAxis Dev.wr
  rw [filter_tabSet (fun f => !f.pg.faultSide) d.regs f _ (by simp [h])]

/-- A register of a page that a fault does not reach is part of what is left alone. -/
theorem Dev.rd_of_offAxis {d e : Dev} (h : d.offAxis = e.offAxis) (f : Fld) (hf : f.pg.faultSide = false) : d.rd f = e.rd f := by
  have hr : d.offAxis.regs = e.offAxis.regs := by rw [h]
  have g : ∀ x : Dev, tabGet x.offAxis.regs f = tabGet x.regs f := fun x =>
    tabGet_filter (fun f : Fld => !f.pg.faultSide) x.regs f (by simp [hf])
  unfold Dev.rd
  rw [← g d, ← g e, hr]

@[simp] theorem Dev.offAxis_modAx (d : Dev) (n : Nat) (g : Axis → Axis) : (d.modAx n g).offAxis = d.offAxis := rfl
@[simp] theorem Dev.offAxis_modProf (d : Dev) (n : Nat) (g : Profile → Profile) : (d.modProf n g).offAxis = d.offAxis := rfl

theorem Dev.offAxis_inc (d : Dev) (f : Fld) (h : f.pg.faultSide = true) : (d.inc f).offAxis = d.offAxis := by
  unfold Dev.inc
  split
  · exact Dev.offAxis_wr _ _ _ h
  · rfl

theorem Dev.offAxis_ev (d : Dev) (p : Page) (i : Nat) (h : p.faultSide = true) : (d.ev p i).offAxis = d.offAxis := by
  have h1 : (pageEvent p).pg.faultSide = true := h
  have h2 : (pageSticky p).pg.faultSide = true := h
  unfold Dev.ev
  split <;> simp [Dev.evOnly, Dev.sticky, Dev.offAxis_wr _ _ _ h1, Dev.offAxis_wr _ _ _ h2]

@[simp] theorem Dev.offAxis_note (d : Dev) (t level src inst code data : Nat) : (d.note t level src inst code data).offAxis = d.offAxis := by
  unfold Dev.note Dev.deliver
  split
  · split
    · dsimp only
      split
      · exact Dev.offAxis_wr _ _ _ rfl
      · rfl
    · rw [Dev.offAxis_ev _ _ _ rfl, Dev.offAxis_inc _ _ rfl]
      rfl
  · split <;> rfl

/-! ### The pages of the fields that they write -/

@[simp] theorem motExcRun_side (n : Nat) : (motExcRun n).pg.faultSide = true := id rfl
@[simp] theorem prfMoving_side (n : Nat) : (prfMoving n).pg.faultSide = true := id rfl
@[simp] theorem prfPhase_side (n : Nat) : (prfPhase n).pg.faultSide = true := id rfl
@[simp] theorem prfTgtAct_side (n : Nat) : (prfTgtAct n).pg.faultSide = true := id rfl
@[simp] theorem prfEphState_side (n : Nat) : (prfEphState n).pg.faultSide = true := id rfl
@[simp] theorem axbState_side (n : Nat) : (axbState n).pg.faultSide = true := id rfl
@[simp] theorem axbStateTime_side (n : Nat) : (axbStateTime n).pg.faultSide = true := id rfl
@[simp] theorem drvTestEn_side (n : Nat) : (drvTestEn n).pg.faultSide = true := id rfl
@[simp] theorem axbFallback_side (n : Nat) : (axbFallback n).pg.faultSide = true := id rfl
@[simp] theorem obsPhase_side (n : Nat) : (obsPhase n).pg.faultSide = true := id rfl
@[simp] theorem obsPurpose_side (n : Nat) : (obsPurpose n).pg.faultSide = true := id rfl
@[simp] theorem devReady_side : devReady.pg.faultSide = true := id rfl
@[simp] theorem fltLastEntry_side : fltLastEntry.pg.faultSide = true := id rfl
@[simp] theorem fltLastInstance_side : fltLastInstance.pg.faultSide = true := id rfl
@[simp] theorem fltLastCode_side : fltLastCode.pg.faultSide = true := id rfl
@[simp] theorem fltLastData_side : fltLastData.pg.faultSide = true := id rfl
@[simp] theorem fltLastTime_side : fltLastTime.pg.faultSide = true := id rfl
@[simp] theorem fltRaised_side : fltRaised.pg.faultSide = true := id rfl
@[simp] theorem fltRepeat_side : fltRepeat.pg.faultSide = true := id rfl
@[simp] theorem fltClrResult_side : fltClrResult.pg.faultSide = true := id rfl
@[simp] theorem fltClrCleared_side : fltClrCleared.pg.faultSide = true := id rfl
@[simp] theorem Page.axb_side (n : Nat) : (Page.axb n).faultSide = true := id rfl
@[simp] theorem Page.drv_side (n : Nat) : (Page.drv n).faultSide = true := id rfl
@[simp] theorem Page.obs_side (n : Nat) : (Page.obs n).faultSide = true := id rfl
@[simp] theorem Page.mot_side (n : Nat) : (Page.mot n).faultSide = true := id rfl
@[simp] theorem Page.prf_side (n : Nat) : (Page.prf n).faultSide = true := id rfl
@[simp] theorem Page.dev_side : Page.dev.faultSide = true := id rfl
@[simp] theorem Page.chron_side : Page.chron.faultSide = true := id rfl
@[simp] theorem Page.flt_side : Page.flt.faultSide = true := id rfl

/-! ### The axis state machine -/

@[simp] theorem Dev.offAxis_setPhase (d : Dev) (n p t : Nat) : (d.setPhase n p t).offAxis = d.offAxis :=
  Dev.offAxis_wr d (obsPhase n) p rfl
@[simp] theorem Dev.offAxis_bridgeOff (d : Dev) (n t : Nat) : (d.bridgeOff n t).offAxis = d.offAxis := rfl
@[simp] theorem Dev.offAxis_shortNow (d : Dev) (n t : Nat) : (d.shortNow n t).offAxis = d.offAxis := rfl

@[simp] theorem Dev.offAxis_endExcitation (d : Dev) (n : Nat) : (d.endExcitation n).offAxis = d.offAxis := by
  unfold Dev.endExcitation
  dsimp only
  split <;> simp [Dev.offAxis_ev, Dev.offAxis_wr, Dev.offAxis_modAx]

@[simp] theorem Dev.offAxis_leaveRun (d : Dev) (n : Nat) : (d.leaveRun n).offAxis = d.offAxis := by
  unfold Dev.leaveRun
  dsimp only
  split <;> simp [Dev.offAxis_ev, Dev.offAxis_wr, Dev.offAxis_modProf]

@[simp] theorem Dev.offAxis_setState (d : Dev) (n new cause src t : Nat) : (d.setState n new cause src t).offAxis = d.offAxis := by
  unfold Dev.setState
  dsimp only
  rw [Dev.offAxis_note, Dev.when_keeps Dev.offAxis _ (by simp), Dev.when_keeps Dev.offAxis _ (by simp [Dev.offAxis_wr]),
    Dev.when_keeps Dev.offAxis _ (by simp), Dev.when_keeps Dev.offAxis _ (by simp [Dev.offAxis_wr]),
    Dev.when_keeps Dev.offAxis _ (by simp [Dev.offAxis_ev])]
  simp [Dev.offAxis_ev, Dev.offAxis_wr]

@[simp] theorem Dev.offAxis_toFaultOff (d : Dev) (n cause src t : Nat) : (d.toFaultOff n cause src t).offAxis = d.offAxis := by simp [Dev.toFaultOff]

@[simp] theorem Dev.offAxis_enterBrake (d : Dev) (n purpose cause src t : Nat) (now f : Bool) :
    (d.enterBrake n purpose cause src t now f).offAxis = d.offAxis := by
  unfold Dev.enterBrake
  dsimp only
  split <;> simp [Dev.offAxis_wr]

@[simp] theorem Dev.offAxis_enterStop (d : Dev) (n cause src t : Nat) (a b : Bool) : (d.enterStop n cause src t a b).offAxis = d.offAxis := by
  simp [Dev.enterStop]

@[simp] theorem Dev.offAxis_react (d : Dev) (n r t : Nat) : (d.react n r t).offAxis = d.offAxis := by
  unfold Dev.react
  repeat' (first | split | dsimp only)
  all_goals simp [Dev.offAxis_wr]

@[simp] theorem Dev.offAxis_reactSet (d : Dev) (set r t : Nat) : (d.reactSet set r t).offAxis = d.offAxis :=
  Dev.each_keeps Dev.offAxis _ (fun _ _ => Dev.offAxis_react _ _ _ _) _ _

@[simp] theorem Dev.offAxis_syncReady (d : Dev) (t : Nat) : (d.syncReady t).offAxis = d.offAxis := by
  unfold Dev.syncReady Dev.setReady
  repeat' split
  all_goals simp [Dev.offAxis_wr, Dev.offAxis_ev]

@[simp] theorem Dev.offAxis_syncFaultN (d e : Dev) : (d.syncFaultN e).offAxis = d.offAxis := by
  unfold Dev.syncFaultN
  split
  · exact Dev.offAxis_ev _ _ _ rfl
  · rfl

@[simp] theorem Dev.offAxis_noteFault (d : Dev) (row : FaultRow) (inst src data t : Nat) : (d.noteFault row inst src data t).offAxis = d.offAxis := by
  simp [Dev.noteFault, Dev.offAxis_wr, Dev.offAxis_inc]

/-- The active pairs are part of what an operation of the axis state machine leaves alone. -/
theorem Dev.active_of_offAxis {d e : Dev} (h : d.offAxis = e.offAxis) : d.active = e.active := by
  show d.offAxis.active = e.offAxis.active
  rw [h]

/-! ### Raising a fault -/

theorem Dev.offFault_of_offAxis {d e : Dev} (h : d.offAxis = e.offAxis) : d.offFault = e.offFault := by unfold Dev.offFault; rw [h]

@[simp] theorem Dev.offFault_activate (d : Dev) (row : FaultRow) (inst t : Nat) : (d.activate row inst t).offFault = d.offFault := by
  have he : ∀ (x : Dev) (i : Nat), (x.ev .flt i).offFault = x.offFault := fun _ _ => Dev.offFault_of_offAxis (Dev.offAxis_ev _ _ _ rfl)
  have hq : ∀ (x : Dev) (s r : Nat), (x.reactSet s r t).offFault = x.offFault := fun _ _ _ => Dev.offFault_of_offAxis (Dev.offAxis_reactSet _ _ _ _)
  unfold Dev.activate
  dsimp only
  generalize hr : (if row.kind = 3 then 0 else d.rd (fltReactReact row.entry)) = r
  generalize hs : (if r = 0 then 0 else _) = st
  by_cases h3 : 3 ≤ r
  · rw [if_pos h3, hq, if_neg (by omega), he]; rfl
  · rw [if_neg h3]
    by_cases h0 : r = 0
    · rw [if_pos h0, if_pos h0, he]; rfl
    · rw [if_neg h0, if_neg h0]
      exact he _ _

/-- Raising a fault changes the register file, the axes, the faults and the chronograph, and nothing else. -/
@[simp] theorem Dev.offFault_raise (d : Dev) (code inst src data t : Nat) : (d.raise code inst src data t).offFault = d.offFault := by
  unfold Dev.raise
  dsimp only
  rw [Dev.offFault_of_offAxis (Dev.offAxis_syncFaultN _ _), Dev.offFault_of_offAxis (Dev.offAxis_syncReady _ _)]
  repeat' split
  · exact Dev.offFault_of_offAxis (Dev.offAxis_inc _ _ rfl)
  · rw [Dev.offFault_of_offAxis (Dev.offAxis_noteFault _ _ _ _ _ _), Dev.offFault_of_offAxis (Dev.offAxis_ev _ _ _ rfl)]; rfl
  · rw [Dev.offFault_of_offAxis (Dev.offAxis_inc _ _ rfl)]; rfl
  · rw [Dev.offFault_of_offAxis (Dev.offAxis_noteFault _ _ _ _ _ _), Dev.offFault_activate]

theorem Dev.active_activate (d : Dev) (row : FaultRow) (inst t : Nat) :
    ∃ x, x.entry = row.entry ∧ x.inst = inst ∧ (d.activate row inst t).active = d.active ++ [x] := by
  unfold Dev.activate
  dsimp only
  generalize hr : (if row.kind = 3 then 0 else d.rd (fltReactReact row.entry)) = r
  generalize hs : (if r = 0 then 0 else _) = st
  refine ⟨{ entry := row.entry, inst := inst, react := r, stopped := st, raisedAt := t }, rfl, rfl, ?_⟩
  by_cases h3 : 3 ≤ r
  · rw [if_pos h3, Dev.active_of_offAxis (Dev.offAxis_reactSet _ _ _ _), if_neg (by omega), Dev.active_of_offAxis (Dev.offAxis_ev _ _ _ rfl)]
  · rw [if_neg h3]
    by_cases h0 : r = 0
    · rw [if_pos h0, if_pos h0, Dev.active_of_offAxis (Dev.offAxis_ev _ _ _ rfl)]
    · rw [if_neg h0, if_neg h0]
      exact Dev.active_of_offAxis (Dev.offAxis_ev _ _ _ rfl)

/-- A pair that is raised is active, unless its entry is a mere event (R533). -/
theorem Dev.raise_active (d : Dev) (code inst src data t : Nat) (h : (faultRow code).kind ≠ 0) :
    (d.raise code inst src data t).isActive code inst = true := by
  unfold Dev.isActive Dev.raise
  dsimp only
  rw [Dev.active_of_offAxis (Dev.offAxis_syncFaultN _ _), Dev.active_of_offAxis (Dev.offAxis_syncReady _ _), if_neg h]
  split
  · next ha =>
    rw [Dev.active_of_offAxis (Dev.offAxis_inc _ _ rfl)]
    simp only [Dev.isActive, List.any_eq_true, Bool.and_eq_true, beq_iff_eq] at ha ⊢
    obtain ⟨x, hx, h1, h2⟩ := ha
    exact ⟨{ x with raisedAt := t }, List.mem_map.mpr ⟨x, hx, by simp [h1, h2]⟩, h1, h2⟩
  · rw [Dev.active_of_offAxis (Dev.offAxis_noteFault _ _ _ _ _ _)]
    obtain ⟨x, h1, h2, h3⟩ := Dev.active_activate d (faultRow code) inst t
    simp [h3, h1, h2]

/-- A pair that was active stays active when another is raised. -/
theorem Dev.raise_keeps_active (d : Dev) (code inst src data t c i : Nat) (h : d.isActive c i = true) :
    (d.raise code inst src data t).isActive c i = true := by
  unfold Dev.isActive Dev.raise
  dsimp only
  rw [Dev.active_of_offAxis (Dev.offAxis_syncFaultN _ _), Dev.active_of_offAxis (Dev.offAxis_syncReady _ _)]
  simp only [Dev.isActive, List.any_eq_true, Bool.and_eq_true, beq_iff_eq] at h ⊢
  obtain ⟨x, hx, h1, h2⟩ := h
  repeat' split
  · exact ⟨x, by rw [Dev.active_of_offAxis (Dev.offAxis_inc _ _ rfl)]; exact hx, h1, h2⟩
  · refine ⟨x, ?_, h1, h2⟩
    rw [Dev.active_of_offAxis (Dev.offAxis_noteFault _ _ _ _ _ _), Dev.active_of_offAxis (Dev.offAxis_ev _ _ _ rfl)]
    exact hx
  · rw [Dev.active_of_offAxis (Dev.offAxis_inc _ _ rfl)]
    refine ⟨_, List.mem_map.mpr ⟨x, hx, rfl⟩, ?_, ?_⟩ <;> split <;> assumption
  · refine ⟨x, ?_, h1, h2⟩
    rw [Dev.active_of_offAxis (Dev.offAxis_noteFault _ _ _ _ _ _)]
    obtain ⟨y, _, _, h3⟩ := Dev.active_activate d (faultRow code) inst t
    rw [h3]
    exact List.mem_append_left _ hx

end Sys2Proof.Machine
end

