-- ==== Sys2Proof/Laws/Memory.lean ====
section
/-! SUPPORT. The memory banks: a byte read after a store, and that every memory operation keeps the canonical form. -/
namespace Sys2Proof.Machine

/-! ### The canonical form -/

theorem Mem.wfFrom_mono (m : Mem) (lo lo' : Nat) (h : lo' ≤ lo) (hm : Mem.wfFrom lo m = true) : Mem.wfFrom lo' m = true := by
  cases m with
  | nil => rfl
  | cons p m =>
    obtain ⟨k, v⟩ := p
    simp only [Mem.wfFrom, Bool.and_eq_true, decide_eq_true_eq] at hm ⊢
    exact ⟨⟨⟨by omega, hm.1.1.2⟩, hm.1.2⟩, hm.2⟩

/-- An address below the bound of a canonical list is not listed. -/
theorem Mem.read_below (m : Mem) (lo a : Nat) (hm : Mem.wfFrom lo m = true) (h : a < lo) : Mem.read m a = memDefault := by
  induction m generalizing lo with
  | nil => rfl
  | cons p m ih =>
    obtain ⟨k, v⟩ := p
    simp only [Mem.wfFrom, Bool.and_eq_true, decide_eq_true_eq] at hm
    have hk : k ≠ a := by omega
    simp only [Mem.read, hk, if_false]
    exact ih (k + 1) hm.2 (by omega)

theorem Mem.wfFrom_write (m : Mem) (lo a : Nat) (b : Byte) (hm : Mem.wfFrom lo m = true) (h1 : lo ≤ a) (h2 : a < memSize) :
    Mem.wfFrom lo (m.write a b) = true := by
  induction m generalizing lo with
  | nil =>
    unfold Mem.write
    split
    · rfl
    · simp [Mem.wfFrom, *]
  | cons p m ih =>
    obtain ⟨k, v⟩ := p
    simp only [Mem.wfFrom, Bool.and_eq_true, decide_eq_true_eq] at hm
    unfold Mem.write
    split
    · split
      · simp [Mem.wfFrom, hm]
      · simp only [Mem.wfFrom, Bool.and_eq_true, decide_eq_true_eq]
        exact ⟨⟨⟨h1, h2⟩, by assumption⟩, ⟨⟨by omega, hm.1.1.2⟩, hm.1.2⟩, hm.2⟩
    · split
      · split
        · exact Mem.wfFrom_mono _ (k + 1) _ (by omega) hm.2
        · simp only [Mem.wfFrom, Bool.and_eq_true, decide_eq_true_eq]
          exact ⟨⟨⟨h1, h2⟩, by assumption⟩, Mem.wfFrom_mono _ _ _ (by omega) hm.2⟩
      · simp only [Mem.wfFrom, Bool.and_eq_true, decide_eq_true_eq]
        exact ⟨hm.1, ih (k + 1) hm.2 (by omega)⟩

theorem Mem.read_write_same (m : Mem) (lo a : Nat) (b : Byte) (hm : Mem.wfFrom lo m = true) : (m.write a b).read a = b := by
  induction m generalizing lo with
  | nil =>
    unfold Mem.write
    split
    · next h => simp [Mem.read, h]
    · simp [Mem.read]
  | cons p m ih =>
    obtain ⟨k, v⟩ := p
    simp only [Mem.wfFrom, Bool.and_eq_true, decide_eq_true_eq] at hm
    unfold Mem.write
    split
    · split
      · next hb =>
        have hk : k ≠ a := by omega
        simp only [Mem.read, hk, if_false, hb]
        exact Mem.read_below m (k + 1) a hm.2 (by omega)
      · simp [Mem.read]
    · split
      · next h =>
        split
        · next hb => rw [hb]; exact Mem.read_below m (k + 1) a hm.2 (by omega)
        · simp [Mem.read]
      · have hk : k ≠ a := by omega
        simp only [Mem.read, hk, if_false]
        exact ih (k + 1) hm.2

theorem Mem.read_write_ne (m : Mem) (a x : Nat) (b : Byte) (h : x ≠ a) : (m.write a b).read x = m.read x := by
  have h' : a ≠ x := fun e => h e.symm
  induction m with
  | nil =>
    unfold Mem.write
    split <;> simp [Mem.read, h']
  | cons p m ih =>
    obtain ⟨k, v⟩ := p
    unfold Mem.write
    split
    · split <;> simp [Mem.read, h']
    · split
      · next hk =>
        subst hk
        split <;> simp [Mem.read, h']
      · simp only [Mem.read, ih]

/-- A stored byte reads back (R53). -/
theorem Mem.read_put_same (m : Mem) (a : Nat) (b : Byte) (hm : Memory.wf m = true) (h : a < memSize) : (m.put a b).read a = b := by
  simp only [Mem.put, h, if_true]
  exact Mem.read_write_same m 0 a b hm

/-- Every other byte reads as before. -/
theorem Mem.read_put_ne (m : Mem) (a x : Nat) (b : Byte) (h : x ≠ a) : (m.put a b).read x = m.read x := by
  unfold Mem.put
  split
  · exact Mem.read_write_ne m a x b h
  · rfl

/-- The bytes outside a stored number read as before. -/
theorem Mem.read_putNum_ne (n : Nat) (m : Mem) (a v x : Nat) (h : x < a ∨ a + n ≤ x) : (m.putNum a v n).read x = m.read x := by
  induction n generalizing m a v with
  | zero => rfl
  | succ n ih =>
    simp only [Mem.putNum]
    rw [ih _ _ _ (by omega), Mem.read_put_ne _ _ _ _ (by omega)]

theorem Mem.wf_put (m : Mem) (a : Nat) (b : Byte) (hm : Memory.wf m = true) : Memory.wf (m.put a b) = true := by
  unfold Mem.put
  split
  · exact Mem.wfFrom_write m 0 a b hm (Nat.zero_le a) (by assumption)
  · exact hm

theorem Mem.wf_putNum (n : Nat) (m : Mem) (a v : Nat) (hm : Memory.wf m = true) : Memory.wf (m.putNum a v n) = true := by
  induction n generalizing m a v with
  | zero => exact hm
  | succ n ih => exact ih _ _ _ (Mem.wf_put _ _ _ hm)

theorem Mem.wf_putWord (m : Mem) (a v : Nat) (hm : Memory.wf m = true) : Memory.wf (m.putWord a v) = true := Mem.wf_putNum _ _ _ _ hm

theorem Mem.wf_putWords (ws : List Nat) (m : Mem) (a : Nat) (hm : Memory.wf m = true) : Memory.wf (m.putWords a ws) = true := by
  induction ws generalizing m a with
  | nil => exact hm
  | cons w ws ih => exact ih _ _ (Mem.wf_putWord _ _ _ hm)

theorem Mem.wfFrom_filter (p : Host.Cell → Bool) (m : Mem) (lo : Nat) (hm : Mem.wfFrom lo m = true) : Mem.wfFrom lo (m.filter p) = true := by
  induction m generalizing lo with
  | nil => rfl
  | cons q m ih =>
    obtain ⟨k, v⟩ := q
    simp only [Mem.wfFrom, Bool.and_eq_true, decide_eq_true_eq] at hm
    simp only [List.filter_cons]
    split
    · simp only [Mem.wfFrom, Bool.and_eq_true, decide_eq_true_eq]
      exact ⟨hm.1, ih _ hm.2⟩
    · exact ih lo (Mem.wfFrom_mono _ (k + 1) _ (by omega) hm.2)

theorem Mem.wf_filter (p : Host.Cell → Bool) (m : Mem) (hm : Memory.wf m = true) : Memory.wf (m.filter p) = true := Mem.wfFrom_filter p m 0 hm

theorem Mem.wf_clear (m : Mem) (lo hi : Nat) (hm : Memory.wf m = true) : Memory.wf (m.clear lo hi) = true := Mem.wf_filter _ m hm

/-! ### The bank accesses -/

theorem Dev.bulkWrite_wf (d : Dev) (mem : Mem) (m a v t : Nat) (hm : Memory.wf mem = true) : Memory.wf (d.bulkWrite mem m a v t).2.2 = true := by
  unfold Dev.bulkWrite
  dsimp only
  split
  · exact hm
  · split
    · exact hm
    · exact Mem.wf_putWord _ _ _ hm

theorem Dev.bankWrite_wf (d : Dev) (mem : Mem) (m a v t : Nat) (hm : Memory.wf mem = true) : Memory.wf (d.bankWrite mem m a v t).2.2 = true :=
  Dev.bulkWrite_wf _ _ _ _ _ _ hm

theorem Dev.bankPart_wf (d : Dev) (mem : Mem) (m a lo n v t : Nat) (hm : Memory.wf mem = true) :
    Memory.wf (d.bankPart mem m a lo n v t).2.2 = true := by
  unfold Dev.bankPart
  dsimp only
  split
  · exact hm
  · split
    · exact hm
    · split
      · exact hm
      · exact Mem.wf_putNum _ _ _ _ hm

theorem Dev.bankStore_wf (d : Dev) (mem : Mem) (m a n v t : Nat) (hm : Memory.wf mem = true) : Memory.wf (d.bankStore mem m a n v t).2.2 = true := by
  unfold Dev.bankStore
  dsimp only
  split
  · exact Dev.bankWrite_wf _ _ _ _ _ _ hm
  · split
    · exact Dev.bankPart_wf _ _ _ _ _ _ _ _ hm
    · exact Dev.bankPart_wf _ _ _ _ _ _ _ _ (Dev.bankPart_wf _ _ _ _ _ _ _ _ hm)

theorem Dev.writeBuf_wf (ws : List Nat) (d : Dev) (mem : Mem) (m t a : Nat) (hm : Memory.wf mem = true) :
    Memory.wf (d.writeBuf mem m t a ws).2 = true := by
  induction ws generalizing d mem a with
  | nil => exact hm
  | cons w ws ih => exact ih _ _ _ (Dev.bulkWrite_wf _ _ _ _ _ _ hm)

theorem Dev.standBuf_wf (ws : List Nat) (d : Dev) (mem : Mem) (a : Nat) (hm : Memory.wf mem = true) : Memory.wf (d.standBuf mem a ws).2 = true := by
  induction ws generalizing d mem a with
  | nil => exact hm
  | cons w ws ih => exact ih _ _ _ (Mem.wf_putWord _ _ _ hm)

theorem Dev.keepBuf_wf (d : Dev) (mem : Mem) (x : Transfer) (ws : List Nat) (t : Nat) (hm : Memory.wf mem = true) :
    Memory.wf (d.keepBuf mem x ws t).2 = true := by
  unfold Dev.keepBuf
  split
  · exact Dev.writeBuf_wf _ _ _ _ _ _ hm
  · exact Dev.standBuf_wf _ _ _ _ hm

/-- A winner of a round keeps the form. -/
theorem Dev.serveWant_wf (d : Dev) (mem : Mem) (w : Want) (c t : Nat) (hm : Memory.wf mem = true) : Memory.wf (d.serveWant mem w c t).2.2 = true := by
  unfold Dev.serveWant
  split
  · exact hm
  · dsimp only
    split
    · exact hm
    · split
      · split
        · exact hm
        · split <;> exact hm
      · split
        · exact Mem.wf_putWord _ _ _ hm
        · split
          · exact hm
          · exact Mem.wf_putNum _ _ _ _ hm

theorem Dev.serveList_wf (l : List Want) (d : Dev) (mem : Mem) (ws : List Want) (c t : Nat) (hm : Memory.wf mem = true) :
    Memory.wf (d.serveList mem ws c t l).2.2 = true := by
  induction l generalizing d mem ws with
  | nil => exact hm
  | cons w l ih => exact ih _ _ _ (Dev.serveWant_wf _ _ _ _ _ hm)

/-- Rounds of arbitration keep the form. -/
theorem Dev.arbitrate_wf (k : Nat) (d : Dev) (mem : Mem) (ws : List Want) (hm : Memory.wf mem = true) :
    Memory.wf (d.arbitrate mem ws k).2.2 = true := by
  induction k generalizing d mem ws with
  | zero => exact hm
  | succ k ih =>
    unfold Dev.arbitrate
    split
    · exact hm
    · exact ih _ _ _ (Dev.serveList_wf _ _ _ _ _ _ hm)

theorem effBankAccess_wf (xs : List PortAccess) (t : Nat) (mem : Mem) (d : Dev) (hm : Memory.wf mem = true) :
    Memory.wf (effBankAccess xs t mem d).2 = true := Dev.arbitrate_wf _ _ _ _ hm

/-! ### The units that write the banks -/

theorem Dev.logAppend_wf (d : Dev) (mem : Mem) (c i r start t : Nat) (hm : Memory.wf mem = true) :
    Memory.wf (d.logAppend mem c i r start t).2 = true := by
  unfold Dev.logAppend
  split
  · exact hm
  · dsimp only
    split
    · exact Dev.bankWrite_wf _ _ _ _ _ _ hm
    · exact Dev.bankWrite_wf _ _ _ _ _ _ (Dev.bankWrite_wf _ _ _ _ _ _ hm)

theorem Dev.logAll_wf (l : List (Nat × Nat)) (d : Dev) (mem : Mem) (c i t : Nat) (hm : Memory.wf mem = true) :
    Memory.wf (d.logAll mem c i t l).2 = true := by
  induction l generalizing d mem with
  | nil => exact hm
  | cons r l ih => exact ih _ _ (Dev.logAppend_wf _ _ _ _ _ _ _ hm)

theorem Dev.seqEntry_wf (d : Dev) (mem : Mem) (c e : Nat) (v : Conv) (x : Sample) (t : Nat) (hm : Memory.wf mem = true) :
    Memory.wf (d.seqEntry mem c e v x t).2 = true := by
  unfold Dev.seqEntry
  exact Dev.logAppend_wf _ _ _ _ _ _ _ hm

theorem Dev.seqEntries_wf (l : List (Conv × Sample)) (d : Dev) (mem : Mem) (c t : Nat) (hm : Memory.wf mem = true) :
    Memory.wf (d.seqEntries mem c t l).2 = true := by
  induction l generalizing d mem with
  | nil => exact hm
  | cons p l ih =>
    unfold Dev.seqEntries
    dsimp only
    split
    · exact ih _ _ (Dev.seqEntry_wf _ _ _ _ _ _ _ hm)
    · exact ih _ _ hm

theorem Stream.exportPut_wf (ws : List Nat) (x : Stream) (mem : Mem) (i : Nat) (hm : Memory.wf mem = true) :
    Memory.wf (x.exportPut mem i ws) = true := by
  induction ws generalizing mem i with
  | nil => exact hm
  | cons w ws ih => exact ih _ _ (Mem.wf_putWord _ _ _ hm)

theorem Dev.exportTo_wf (d : Dev) (mem : Mem) (ws : List Nat) (s : Nat) (hm : Memory.wf mem = true) : Memory.wf (d.exportTo mem ws s).2 = true := by
  unfold Dev.exportTo
  dsimp only
  split
  · exact hm
  · split
    · exact hm
    · exact Stream.exportPut_wf _ _ _ _ hm

theorem Dev.exportEntry_wf (l : List Nat) (d : Dev) (mem : Mem) (ws : List Nat) (hm : Memory.wf mem = true) :
    Memory.wf (d.exportEntry mem ws l).2 = true := by
  induction l generalizing d mem with
  | nil => exact hm
  | cons s l ih => exact ih _ _ (Dev.exportTo_wf _ _ _ _ hm)

theorem Dev.writeEntry_wf (d : Dev) (mem : Mem) (e : ChronEntry) (t : Nat) (hm : Memory.wf mem = true) :
    Memory.wf (d.writeEntry mem e t).2 = true := by
  unfold Dev.writeEntry
  dsimp only
  exact Dev.exportEntry_wf _ _ _ _ (Dev.writeBuf_wf _ _ _ _ _ _ hm)

theorem Dev.writeEntries_wf (l : List ChronEntry) (d : Dev) (mem : Mem) (t : Nat) (hm : Memory.wf mem = true) :
    Memory.wf (d.writeEntries mem t l).2 = true := by
  induction l generalizing d mem with
  | nil => exact hm
  | cons p l ih =>
    unfold Dev.writeEntries
    dsimp only
    exact ih _ _ (Dev.writeEntry_wf _ _ _ _ hm)

theorem Dev.captureRun_wf (d : Dev) (mem : Mem) (n point : Nat) (inp resp : Int) (t : Nat) (hm : Memory.wf mem = true) :
    Memory.wf (d.captureRun mem n point inp resp t).2 = true := by
  unfold Dev.captureRun
  dsimp only
  split
  · exact hm
  · split
    · exact Dev.bankWrite_wf _ _ _ _ _ _ hm
    · exact Dev.bankWrite_wf _ _ _ _ _ _ (Dev.bankWrite_wf _ _ _ _ _ _ (Dev.bankWrite_wf _ _ _ _ _ _ (Dev.bankWrite_wf _ _ _ _ _ _ hm)))

theorem Dev.commitStore_wf (d : Dev) (mem : Mem) (n slot t : Nat) (x : OlStore) (hm : Memory.wf mem = true) :
    Memory.wf (d.commitStore mem n slot t x).2 = true := by
  cases x with
  | bank a v => exact Dev.bankWrite_wf _ _ _ _ _ _ hm
  | _ => exact hm

theorem Dev.commitStores_wf (l : List OlStore) (d : Dev) (mem : Mem) (n slot t : Nat) (hm : Memory.wf mem = true) :
    Memory.wf (d.commitStores mem n slot t l).2 = true := by
  induction l generalizing d mem with
  | nil => exact hm
  | cons p l ih => exact ih _ _ (Dev.commitStore_wf _ _ _ _ _ _ hm)

theorem Dev.swFinish_wf (d : Dev) (q bits : Nat) (rx : List Nat) (t : Nat) (mem : Mem) (x : Transfer) (hm : Memory.wf mem = true) :
    Memory.wf (d.swFinish q bits rx t mem x).2 = true := by
  unfold Dev.swFinish
  dsimp only
  split <;> split <;> first | exact hm | exact Dev.keepBuf_wf _ _ _ _ _ hm

/-! ### Frames and dispatches -/

/-- A dispatch keeps the form when its action does. -/
theorem Dev.receive_wf (d : Dev) (h : DispHdr) (chan : Nat) (ws : List Nat) (t : Nat) (b : Bool) (mem : Mem) (run : Run) (hm : Memory.wf mem = true)
    (hr : ∀ d, Memory.wf (run d mem).2.2 = true) : Memory.wf (d.receive h chan ws t b mem run).2 = true := by
  have he : ∀ d, Memory.wf (Dev.execute d h chan t mem run).2 = true := by
    intro d
    unfold Dev.execute
    dsimp only
    split <;> exact hr _
  unfold Dev.receive
  dsimp only
  split
  · exact hm
  · split
    · exact hm
    · split
      · split
        · exact hm
        · exact hr _
      · split
        · split
          · split <;> exact hm
          · split
            · exact he _
            · exact hm
        · split
          · exact hm
          · split
            · exact hm
            · exact he _

theorem HostRun.close_wf (x : HostRun) (opcode units part : Nat) (short : Bool) (status : Nat) :
    (x.close opcode units part short status).2 = x.mem := rfl

theorem HostRun.res_mem (x : HostRun) (r : Nat) : (x.res r).mem = x.mem := by unfold HostRun.res; split <;> rfl

/-- The units of a write frame keep the form when each does. -/
theorem HostRun.writes_wf (size stop : Nat) (f : Nat → Nat → HostRun → HostRun)
    (hf : ∀ a v x, Memory.wf x.mem = true → Memory.wf (f a v x).mem = true) (l : List Nat) (a : Nat) (x : HostRun)
    (hx : Memory.wf x.mem = true) : Memory.wf (x.writes size stop f a l).mem = true := by
  induction l generalizing a x with
  | nil => exact hx
  | cons v l ih =>
    unfold HostRun.writes
    dsimp only
    split
    · exact ih _ _ hx
    · exact ih _ _ (hf _ _ _ hx)

/-- The units of a read frame leave the banks alone when each does. -/
theorem HostRun.reads_mem (stop begun : Nat) (late : List Nat) (f : Nat → HostRun → Nat × HostRun) (hf : ∀ a x, (f a x).2.mem = x.mem)
    (k : Nat) (a i : Nat) (x : HostRun) : (x.reads stop begun late f a i k).mem = x.mem := by
  induction k generalizing a i x with
  | zero => rfl
  | succ k ih =>
    unfold HostRun.reads
    rw [ih]
    split
    · rfl
    · dsimp only
      split
      · exact (HostRun.res_mem _ _).trans (hf _ _)
      · exact hf _ _

theorem HostRun.bankUnit_wf (x : HostRun) (size t a v : Nat) (hx : Memory.wf x.mem = true) : Memory.wf (x.bankUnit size t a v).mem = true := by
  unfold HostRun.bankUnit
  split
  · rw [HostRun.res_mem]; exact hx
  · rw [HostRun.res_mem]; exact Dev.bankStore_wf _ _ _ _ _ _ _ hx

theorem HostRun.writeFrame_wf (x : HostRun) (opcode size stop addr : Nat) (units : List Nat) (part status : Nat)
    (f : Nat → Nat → HostRun → HostRun) (hf : ∀ a v x, Memory.wf x.mem = true → Memory.wf (f a v x).mem = true)
    (hx : Memory.wf x.mem = true) : Memory.wf (x.writeFrame opcode size stop addr units part status f).2 = true := by
  unfold HostRun.writeFrame
  dsimp only
  rw [HostRun.close_wf]
  split <;> exact HostRun.writes_wf _ _ _ hf _ _ _ hx

theorem HostRun.readFrame_mem (x : HostRun) (opcode stop addr clocks : Nat) (late : List Nat) (status : Nat)
    (f : Nat → HostRun → Nat × HostRun) (hf : ∀ a x, (f a x).2.mem = x.mem) : (x.readFrame opcode stop addr clocks late status f).2 = x.mem := by
  unfold HostRun.readFrame
  dsimp only
  rw [HostRun.close_wf]
  exact HostRun.reads_mem _ _ _ _ hf _ _ _ _

/-- A host frame keeps the form when its units do. -/
theorem Dev.hostFrame_wf (d : Dev) (mem : Mem) (opcode addrBits : Nat) (f : HostRun → Nat → Dev × Mem) (hm : Memory.wf mem = true)
    (hf : ∀ x s, Memory.wf x.mem = true → Memory.wf (f x s).2 = true) : Memory.wf (d.hostFrame mem opcode addrBits f).2 = true := by
  unfold Dev.hostFrame
  split
  · exact hm
  · split
    · exact hm
    · exact hf _ _ hm

theorem Dev.bankWriteFrame_wf (d : Dev) (mem : Mem) (opcode size addrBits addr : Nat) (units : List Nat) (part t : Nat)
    (hm : Memory.wf mem = true) : Memory.wf (d.bankWriteFrame mem opcode size addrBits addr units part t).2 = true :=
  Dev.hostFrame_wf _ _ _ _ _ hm (fun _ _ hx => HostRun.writeFrame_wf _ _ _ _ _ _ _ _ _ (fun _ _ _ h => HostRun.bankUnit_wf _ _ _ _ _ h) hx)

end Sys2Proof.Machine
end

