-- ==== Sys2Proof/Machine/Package.lean ====
section
/-! DEFINITION. The balls of the package (R579 to R582): which signal or supply each of the 41 × 41 positions carries. -/
namespace Sys2Proof.Machine

/-- What a ball carries. -/
inductive Ball
  /-- Phase p (0 U, 1 V, 2 W) of axis n. -/
  | phase (n p : Nat)
  /-- VBUSc. -/
  | vbus (c : Nat)
  /-- PGNDc. -/
  | pgnd (c : Nat)
  /-- A signal of the control die, by its name. -/
  | signal (name : String)
  | vgd | vdda | vddio | vddl | vddsm | vddc | vss
  /-- Not connected: without copper (R580). -/
  | open_
deriving DecidableEq, Repr

/-- The ring of a ball (R579). -/
def ballRing (r c : Nat) : Nat := min (min r c) (min (42 - r) (42 - c))

/-- The quadrant of a ball off the cross (R579). -/
def ballQuadrant (r c : Nat) : Nat := if r ≤ 20 then (if c ≤ 20 then 0 else 1) else if 22 ≤ c then 2 else 3

/-- The ball of Q0 that lies where a ball of quadrant q lies once the package is turned: quadrants run clockwise. -/
def turnToQ0 : Nat → Nat × Nat → Nat × Nat
  | 0, b => b
  | q + 1, (r, c) => turnToQ0 q (42 - c, r)

/-- The position, from 1, of a ball in its ring of its quadrant (R579). -/
def placeInRing (r c : Nat) : Nat :=
  let b := turnToQ0 (ballQuadrant r c) (r, c)
  let k := ballRing r c
  if b.2 = k then 21 - b.1 else 21 - k + (b.2 - k)

/-- Positions of a quadrant's ring (R579). -/
def ringPlaces (k : Nat) : Nat := 41 - 2 * k

/-- The position of a ball in its quadrant's sequence over the rings from `first` on (R579). -/
def placeFrom (first r c : Nat) : Nat :=
  ((List.range (ballRing r c - first)).map (fun i => ringPlaces (first + i))).foldl (· + ·) 0 + placeInRing r c

/-- Names that begin alike. -/
def named (head : String) (tails : List String) : List String := tails.map (head ++ ·)

/-- The two pins of a pair, the positive one first. -/
def pair (name : String) : List String := [name ++ "+", name ++ "-"]

/-- The pins of feedback port n. -/
def fbPins (n : Nat) : List String := ["A", "B", "Z"].flatMap (fun x => pair ("FB" ++ toString n ++ "_" ++ x))

/-- The pins of external stage n. -/
def stagePins (n : Nat) : List String :=
  let x := "X" ++ toString n ++ "_"
  named x ["UH", "UL", "VH", "VL", "WH", "WL"] ++ ["IU", "IV", "IW", "ILK"].flatMap (fun y => pair (x ++ y))
    ++ named x ["VU", "VV", "VW", "VBUS", "FLT_N"]

/-- The control-die signals of quadrant q, in order (R581). -/
def quadrantSignals (q : Nat) : List String :=
  let four := fun (f : Nat → List String) (n : Nat) => (List.range 4).flatMap (fun i => f (n + i))
  match q with
  | 0 => four fbPins 0 ++ four fbPins 16 ++ four stagePins 16
  | 1 => four fbPins 4 ++ four fbPins 20 ++ four stagePins 20
  | 2 => four fbPins 8 ++ (List.range 12).flatMap (fun k => named ("EV" ++ toString k) ["P", "N"])
  | _ =>
    four fbPins 12 ++ (List.range 4).flatMap (fun m => ["TX", "RX"].flatMap (fun x => pair ("LK" ++ toString m ++ "_" ++ x)))
      ++ (List.range 2).flatMap (fun q => named ("SM" ++ toString q ++ "_")
        (["SCK"] ++ (List.range 8).map (fun i => "DQ" ++ toString i) ++ ["DQS", "CS0"]))
      ++ ["HS_SCK", "HS_SEL_N", "HS_SDI", "HS_SDO", "HS_IRQ_N", "MEMBUSY", "DEN0", "DEN1", "DEN2", "DEN3", "DENX", "RESET_N", "READY", "FAULT_N",
          "XTAL_IN", "XTAL_OUT"]
      ++ (List.range 32).map (fun i => "GPIO" ++ toString i) ++ ["TCK", "TMS", "TDI", "TDO", "TRST_N"]

/-- Rings 1 to 4 of quadrant c: power die c (R580). -/
def powerBall (c r col : Nat) : Ball :=
  let k := ballRing r col
  let i := placeFrom 1 r col
  let j := placeInRing r col
  if k ≤ 2 then (if i ≤ 72 then .phase (4 * c + (i - 1) / 18) ((i - 1) / 6 % 3) else .vgd)
  else if k = 3 ∧ j ≤ 24 then .vbus c
  else if k = 3 ∧ j ≤ 28 then .vgd
  else .pgnd c

/-- Rings 10 to 21 (R582). -/
def supplyBall (r c : Nat) : Ball :=
  let k := ballRing r c
  let cross := r == 21 || c == 21
  let j := placeInRing r c
  if 15 ≤ k ∧ (r + c) % 2 = 0 then .vddc
  else if cross then .vss
  else if k = 10 ∧ j ≤ 8 then .vdda
  else if k = 10 ∧ j ≤ 18 then .vddio
  else if k = 11 ∧ j ≤ 4 then .vddl
  else if k = 11 ∧ j ≤ 12 ∧ ballQuadrant r c = 3 then .vddsm
  else .vss

/-- Ball r:c (R579 to R582). -/
def ballAt (r c : Nat) : Ball :=
  let k := ballRing r c
  let q := ballQuadrant r c
  let cross := r == 21 || c == 21
  if k ≤ 4 then (if cross then .open_ else powerBall q r c)
  else if k ≤ 9 then
    if cross then .vss
    else
      match (quadrantSignals q)[placeFrom 5 r c - 1]? with
      | some s => .signal s
      | none => .vss
  else supplyBall r c

end Sys2Proof.Machine
end

