-- ==== Sys2Proof/WellFormed.lean ====
section
/-! DEFINITION. Well-formed commands: every operand lies in the range that its register, frame or unit gives it. Operands
of a Fin type are in range as they are. -/
namespace Sys2Proof

open Sys2Proof.Machine

/-- A value of k bits. -/
def okBits (k x : Nat) : Bool := decide (x < 2 ^ k)

/-- The size of an access (R58). -/
def okSize (n : Nat) : Bool := n == 1 || n == 2 || n == 4

/-- A requester: a network requester has one of the four links and a Llyntal address (R13, R448). -/
def okReq : Req → Bool
  | .net m a => decide (m < 4) && okBits 24 a
  | _ => true

/-- A reading of one of the 138 physical rows of 256 bits (R509). -/
def okRow (x : RowRead) : Bool := decide (x.1 < otpRows) && okBits 256 x.2.1 && okBits 256 x.2.2.1 && okBits 256 x.2.2.2

/-- The contents of ID and TRIM. -/
def okNames (x : OtpNames) : Bool := okBits 32 x.part && okBits 64 x.serial && decide (x.fullScale.length ≤ 16)

/-- Two words. -/
def okPair (x : Nat × Nat) : Bool := okBits 32 x.1 && okBits 32 x.2

/-- A word of program memory in error (R387). -/
def okErr (x : Nat × Bool) : Bool := okBits 16 x.1

/-- A slot image (R485). -/
def okImage (x : SlotImage) : Bool := x.words.all (okBits 32)

/-- The header of a dispatch (R448, R467, R468). -/
def okHdr (h : DispHdr) : Bool := okBits 18 h.src && okBits 18 h.dst && okBits 16 h.seq && okBits 8 h.ttl && okBits 32 h.fcs && decide (h.len ≤ 4096)

/-- A pennant (R452). -/
def okPennant (p : PennantIn) : Bool :=
  p.frame.all (okBits 32) && p.back.all (okBits 32) && okBits 67 p.ta && okBits 67 p.tr && okBits 32 p.fcs && okBits 32 p.fcsBack

/-- A slice (R460). -/
def okSlice (x : Slice) : Bool := okBits 16 x.outOff && okBits 16 x.outLen && okBits 16 x.inOff && okBits 16 x.inLen

/-- A command is well formed. -/
def Instr.wellFormed : Instr → Bool
  | .supplyMonitorAssert => true
  | .resetNFall => true
  | .resetNRelease => true
  | .clockGood => true
  | .otpLoad t weak x => okBits 64 t && weak.all okRow && okNames x
  | .parameterStoreLoad t => okBits 64 t
  | .selfCalibration t fine _ _ => okBits 64 t && okBits 24 fine
  | .bankInitialisation t fails => okBits 64 t && fails.all okPair
  | .meridianChecks t _ lanes _ _ => okBits 64 t && okBits 8 lanes
  | .almanacImageVerified t boot other => okBits 64 t && okImage boot && okImage other
  | .tickBoundary oc => okBits 24 oc
  | .holdoverEntry t => okBits 64 t
  | .steerLimit t => okBits 64 t
  | .registerWrite t r a bytes v => okBits 64 t && okReq r && okBits 32 a && okSize bytes && okBits 32 v
  | .pageCommit t r page v => okBits 64 t && okReq r && okBits 12 page && okBits 32 v
  | .pageExpertKey t r page v => okBits 64 t && okReq r && okBits 12 page && okBits 32 v
  | .expertAreaTimeout t r page => okBits 64 t && okReq r && okBits 12 page
  | .devCommitHold t r _ => okBits 64 t && okReq r
  | .tickSlew t r v => okBits 64 t && okReq r && okBits 32 v
  | .arm t r _ => okBits 64 t && okReq r
  | .disarm t r _ => okBits 64 t && okReq r
  | .start t r _ => okBits 64 t && okReq r
  | .stop t r _ => okBits 64 t && okReq r
  | .stopHold t r _ => okBits 64 t && okReq r
  | .brake t r _ => okBits 64 t && okReq r
  | .coast t r _ => okBits 64 t && okReq r
  | .service t r _ => okBits 64 t && okReq r
  | .returnAxis t r _ => okBits 64 t && okReq r
  | .brakeStartAtValley t _ => okBits 64 t
  | .moveAbs t r _ => okBits 64 t && okReq r
  | .moveRel t r _ => okBits 64 t && okReq r
  | .halt t r _ => okBits 64 t && okReq r
  | .ephStart t r _ => okBits 64 t && okReq r
  | .ephContinue t r _ => okBits 64 t && okReq r
  | .ephResume t r _ => okBits 64 t && okReq r
  | .ephAbort t r _ => okBits 64 t && okReq r
  | .focIntReset t r _ => okBits 64 t && okReq r
  | .motIntReset t r _ => okBits 64 t && okReq r
  | .excitationStart t r _ v => okBits 64 t && okReq r && okBits 32 v
  | .excitationEnd t _ _ => okBits 64 t
  | .setPos t r _ => okBits 64 t && okReq r
  | .referenceSetArm t r _ => okBits 64 t && okReq r
  | .fbEdge t _ _ _ => okBits 64 t
  | .illegalLimit t _ => okBits 64 t
  | .refMismatchLimit t _ => okBits 64 t
  | .wireDisagreement t _ _ => okBits 64 t
  | .hallInvalid t _ => okBits 64 t
  | .sserFrameStart t _ => okBits 64 t
  | .sserFrameEnd t _ frame => okBits 64 t && okBits 64 frame
  | .sserErrLimit t _ => okBits 64 t
  | .estimatorStill t _ => okBits 64 t
  | .latchCapture t _ _ _ => okBits 64 t
  | .dutyLoad t _ => okBits 64 t
  | .currentWindowEnd t _ codes => okBits 64 t && codes.all (okBits 14)
  | .staleLimit t _ => okBits 64 t
  | .sumErrorLimit t _ => okBits 64 t
  | .offsetMeasurementStart t _ => okBits 64 t
  | .offsetMeasurementEnd t _ => okBits 64 t
  | .overcurrentTrip t _ _ _ since => okBits 64 t && okBits 66 since
  | .xfltAssert t _ => okBits 64 t
  | .brakeRegulation t _ _ => okBits 64 t
  | .brakeReclose t _ _ => okBits 64 t
  | .bootstrapLow t _ _ => okBits 64 t
  | .bootstrapPrecharged t _ => okBits 64 t
  | .enableFall t _ => okBits 64 t
  | .vgdOutOfRange t _ => okBits 64 t
  | .busOutOfRange t _ => okBits 64 t
  | .dieOverTemperature t _ => okBits 64 t
  | .vbusStaleLimit t _ => okBits 64 t
  | .injGo t r _ mask => okBits 64 t && okReq r && okBits 32 mask
  | .injectionComplete t _ _ code => okBits 64 t && okBits 14 code
  | .seqGo t r _ => okBits 64 t && okReq r
  | .sequencePassEnd t _ codes => okBits 64 t && codes.all (okBits 14)
  | .supervisionScan t _ => okBits 64 t
  | .supervisionScanEnd t _ codes temps => okBits 64 t && codes.all (okBits 14) && temps.all (okBits 32)
  | .supervisionScanLate t _ => okBits 64 t
  | .crossCheckEvaluate t _ codesE codesO => okBits 64 t && codesE.all (okBits 14) && codesO.all (okBits 14)
  | .xckClear t r _ => okBits 64 t && okReq r
  | .fgcal t r _ => okBits 64 t && okReq r
  | .fgcalEnd t _ _ => okBits 64 t
  | .backgroundCalibrationEnd t _ _ => okBits 64 t
  | .sliceRetry t _ _ _ => okBits 64 t
  | .restoreEnd t _ _ => okBits 64 t
  | .curProgramStart t _ errs => okBits 64 t && errs.all okErr
  | .globalLaneStart t _ errs => okBits 64 t && errs.all okErr
  | .programEnd t _ stalls => okBits 64 t && okBits 32 stalls
  | .curDeadline t _ => okBits 64 t
  | .globalLaneDeadline t _ => okBits 64 t
  | .overrunLimit t _ _ => okBits 64 t
  | .trackingError t _ => okBits 64 t
  | .followingError t _ => okBits 64 t
  | .feedbackFreeze t _ => okBits 64 t
  | .observerFallback t _ => okBits 64 t
  | .overspeed t _ => okBits 64 t
  | .stopEnd t _ => okBits 64 t
  | .stopTimeout t _ => okBits 64 t
  | .catchMeasureEnd t _ => okBits 64 t
  | .alignEnd t _ => okBits 64 t
  | .polarityEnd t _ => okBits 64 t
  | .blendStart t _ => okBits 64 t
  | .handTimeout t _ => okBits 64 t
  | .blendEnd t _ => okBits 64 t
  | .lossOfLock t _ => okBits 64 t
  | .retriesClear t _ => okBits 64 t
  | .brakeEnd t _ => okBits 64 t
  | .stillBrakeEnd t _ => okBits 64 t
  | .brakeHoldEnd t _ => okBits 64 t
  | .brakeTimeout t _ => okBits 64 t
  | .curveStale t _ => okBits 64 t
  | .crvNetVal t r _ v => okBits 64 t && okReq r && okBits 32 v
  | .retStart t r _ => okBits 64 t && okReq r
  | .retAbort t r _ => okBits 64 t && okReq r
  | .reticlePredictedFire t _ => okBits 64 t
  | .netSample t r _ ts => okBits 64 t && okReq r && okBits 64 ts
  | .netSourceStale t _ => okBits 64 t
  | .emuEdge t _ => okBits 64 t
  | .latchInputEdge t _ _ _ => okBits 64 t
  | .pwidthEdge t _ _ _ => okBits 64 t
  | .gpioEdge t _ _ => okBits 64 t
  | .gpioSet t r mask => okBits 64 t && okReq r && okBits 32 mask
  | .gpioClr t r mask => okBits 64 t && okReq r && okBits 32 mask
  | .installCustom t r _ _ _ => okBits 64 t && okReq r
  | .installStock t r _ _ stock => okBits 64 t && okReq r && okBits 16 stock
  | .remove t r _ _ => okBits 64 t && okReq r
  | .installJudged t _ => okBits 64 t
  | .prgSwap t r _ mask => okBits 64 t && okReq r && okBits 32 mask
  | .pbWrite t r _ _ v => okBits 64 t && okReq r && okBits 32 v
  | .admissionEvaluation t _ => okBits 64 t
  | .scrubRead t _ a _ => okBits 64 t && okBits 32 a
  | .cluClear t r _ => okBits 64 t && okReq r
  | .glnClear t r _ => okBits 64 t && okReq r
  | .bankAccess t accs => okBits 64 t && accs.all (fun x => okBits 4 x.m && okBits 32 x.a && okBits 3 x.n && okBits 32 x.v && okBits 32 x.wait)
  | .bnkHandover t r _ _ _ readers => okBits 64 t && okReq r && okBits 16 readers
  | .handoverApply t _ => okBits 64 t
  | .bnkHoTimeout t _ => okBits 64 t
  | .bnkPwr t r _ v => okBits 64 t && okReq r && okBits 32 v
  | .bankPowerDone t _ => okBits 64 t
  | .sweepBlock t _ _ _ => okBits 64 t
  | .smpSwGo t r _ => okBits 64 t && okReq r
  | .swTransferEnd t _ rx => okBits 64 t && rx.all (okBits 32)
  | .watchRelease t _ bits rx => okBits 64 t && okBits 32 bits && rx.all (okBits 32)
  | .windowLineFetch t a k _ line _ => okBits 64 t && okBits 32 a && okBits 32 k && line.all (okBits 32)
  | .streamOpen t r => okBits 64 t && okReq r
  | .streamClose t r => okBits 64 t && okReq r
  | .streamRetry t r => okBits 64 t && okReq r
  | .pagerPageRead t _ _ ws => okBits 64 t && ws.all (okBits 32)
  | .ringWrite t r v => okBits 64 t && okReq r && okBits 32 v
  | .exportFlush t _ => okBits 64 t
  | .exportWrite t _ => okBits 64 t
  | .linkTrain t _ => okBits 64 t
  | .linkUp t _ _ => okBits 64 t
  | .linkDown t _ errs => okBits 64 t && okBits 32 errs
  | .pennantSend t => okBits 64 t
  | .pennant t p => okBits 64 t && okPennant p
  | .pennantMiss t => okBits 64 t
  | .stationRejoin t => okBits 64 t
  | .enumerate t r => okBits 64 t && okReq r
  | .enumerationPennant t p k => okBits 64 t && okPennant p && okBits 32 k
  | .unfold t r => okBits 64 t && okReq r
  | .leave t r => okBits 64 t && okReq r
  | .ringFold t => okBits 64 t
  | .ringUnfold t => okBits 64 t
  | .stationLeft t stn => okBits 64 t && okBits 10 stn
  | .joinStart t => okBits 64 t
  | .joinTimeout t => okBits 64 t
  | .registerAccessRead t h ws => okBits 64 t && okHdr h && ws.all (okBits 32)
  | .registerAccessWrite t h ws => okBits 64 t && okHdr h && ws.all (okBits 32)
  | .parameterStoreDispatch t h ws => okBits 64 t && okHdr h && ws.all (okBits 32)
  | .axisCommandQueue t h ws => okBits 64 t && okHdr h && ws.all (okBits 32)
  | .timedDispatchApply t => okBits 64 t
  | .chronographFetch t h ws => okBits 64 t && okHdr h && ws.all (okBits 32)
  | .join t h serial stn => okBits 64 t && okHdr h && okBits 64 serial && okBits 10 stn
  | .grant t h serial stn sl cg _ => okBits 64 t && okHdr h && okBits 64 serial && okBits 10 stn && okSlice sl && okBits 32 cg
  | .slice t h sl cycle => okBits 64 t && okHdr h && okSlice sl && okBits 32 cycle
  | .notice t h addr _ => okBits 64 t && okHdr h && okBits 24 addr
  | .serviceDirectory t h ws served => okBits 64 t && okHdr h && ws.all (okBits 32) && served.all okPair
  | .almanacService t h chan ws => okBits 64 t && okHdr h && okBits 8 chan && ws.all (okBits 32)
  | .almanacAnswer t src chan result ws => okBits 64 t && okBits 24 src && okBits 8 chan && okBits 8 result && ws.all (okBits 32)
  | .dispatchOtherChannel t h chan ws => okBits 64 t && okHdr h && okBits 8 chan && ws.all (okBits 32)
  | .dispatchForward t h _ chan result ws _ => okBits 64 t && okHdr h && okBits 8 chan && okBits 8 result && ws.all (okBits 32)
  | .acknowledge t h chan result ws => okBits 64 t && okHdr h && okBits 8 chan && okBits 8 result && ws.all (okBits 32)
  | .dispatchRetransmit t dst chan => okBits 64 t && okBits 24 dst && okBits 8 chan
  | .dispatchTimeout t dst chan => okBits 64 t && okBits 24 dst && okBits 8 chan
  | .contextExpiry t src chan => okBits 64 t && okBits 24 src && okBits 8 chan
  | .announceDecision t => okBits 64 t
  | .announcedPeriodApply t => okBits 64 t
  | .faultClear t r _ _ => okBits 64 t && okReq r
  | .clearAll t r => okBits 64 t && okReq r
  | .conditionEnd t _ _ => okBits 64 t
  | .reactionTableWrite t r _ v => okBits 64 t && okReq r && okBits 32 v
  | .chronWrite t => okBits 64 t
  | .almanacRecord t r v => okBits 64 t && okReq r && okBits 32 v
  | .packageTempRead t v => okBits 64 t && okBits 32 v
  | .clockDeparture t _ _ => okBits 64 t
  | .recheck t r v => okBits 64 t && okReq r && okBits 32 v
  | .recheckEnd t _ _ _ _ => okBits 64 t
  | .almVerify t r v => okBits 64 t && okReq r && okBits 32 v
  | .almSwitch t r v => okBits 64 t && okReq r && okBits 32 v
  | .almRestart t r => okBits 64 t && okReq r
  | .almStop t r => okBits 64 t && okReq r
  | .almStart t r => okBits 64 t && okReq r
  | .almanacVerifyEnd t img => okBits 64 t && okImage img
  | .almHeartbeat t r v => okBits 64 t && okReq r && okBits 32 v
  | .almQuiet t r v => okBits 64 t && okReq r && okBits 32 v
  | .almQuietTimeout t => okBits 64 t
  | .almWatchdog t => okBits 64 t
  | .almCoreException t => okBits 64 t
  | .status t bits => okBits 64 t && okBits 32 bits
  | .pageWrite t ab a us part => okBits 64 t && okBits 6 ab && okBits 32 a && us.all (okBits 32) && okBits 5 part
  | .pageRead t ab a clocks late => okBits 64 t && okBits 6 ab && okBits 32 a && okBits 32 clocks && late.all (okBits 32)
  | .bankWrite32 t ab a us part => okBits 64 t && okBits 6 ab && okBits 32 a && us.all (okBits 32) && okBits 5 part
  | .bankWrite16 t ab a us part => okBits 64 t && okBits 6 ab && okBits 32 a && us.all (okBits 32) && okBits 5 part
  | .bankWrite8 t ab a us part => okBits 64 t && okBits 6 ab && okBits 32 a && us.all (okBits 32) && okBits 5 part
  | .bankRead32 t ab a clocks late => okBits 64 t && okBits 6 ab && okBits 32 a && okBits 32 clocks && late.all (okBits 32)
  | .extRead t ab a clocks late _ => okBits 64 t && okBits 6 ab && okBits 32 a && okBits 32 clocks && late.all (okBits 32)
  | .hostOpcodeUnknown t opcode => okBits 64 t && okBits 8 opcode
  | .program t r _ => okBits 64 t && okReq r
  | .reburn t r _ => okBits 64 t && okReq r
  | .lock t r _ => okBits 64 t && okReq r
  | .check t r => okBits 64 t && okReq r
  | .otpRawGo t r weak => okBits 64 t && okReq r && weak.all okRow
  | .otpCommandEnd t weak => okBits 64 t && weak.all okRow
  | .store t r _ => okBits 64 t && okReq r
  | .storeCopyEnd t => okBits 64 t
  | .storeVerifyEnd t _ => okBits 64 t
  | .vokFall t => okBits 64 t
  | .supplyMonitorRelease => true
  | .vgdInRange t _ => okBits 64 t
  | .enableRise t _ => okBits 64 t
  | .xfltDeassert t _ => okBits 64 t
  | .clockReturn t _ => okBits 64 t
  | .vddsmFall t => okBits 64 t
  | .vddsmRise t => okBits 64 t
  | .vokRise t => okBits 64 t
  | .registerRead t r a bytes => okBits 64 t && okReq r && okBits 32 a && okSize bytes
  | .pennantReturn t p => okBits 64 t && okPennant p
  | .reticlePulseEnd t _ => okBits 64 t
  | .testAccessPort t _ => okBits 64 t

end Sys2Proof
end

