-- ==== Sys2Proof/Tests/Slice0.lean ====
section
/-! SUPPORT. The tests of the model: commands that the well-formedness check refuses, single steps with the results that the
spec states, and for each statement states and operands that meet its hypotheses, clause by clause. -/
namespace Sys2Proof.Tests
set_option Elab.async false

open Sys2Proof Sys2Proof.Machine

/-- A running block after start-up, with register fields and parts of it set. -/
def w (fs : List (Fld × Nat)) (f : Dev → Dev := id) : State :=
  { State.reset with dev := f { ({} : Dev) with running := true, stepsDone := 7, regs := fs } }

/-- The block after a step, or the block of the reset state. -/
def after (s : State) : Dev := match step s with | .next s' => s'.dev | _ => State.reset.dev

/-- The block after a command. -/
def run (s : State) (c : Instr) : Dev := after { s with pending := [c] }

/-- A header with the FCS of a good frame on a channel with a payload. -/
def sealed (h : DispHdr) (chan : Nat) (ws : List Nat) (ack : Bool := false) : DispHdr := { h with fcs := fcsOf (h.frame ack chan 0 ws) false }

/-- A header of a good dispatch from address 5 on link 0, on a channel with a payload. -/
def hd (dst chan : Nat) (ws : List Nat) (sync : Bool := true) (seq : Nat := 0) : DispHdr :=
  sealed { link := 0, src := 5, dst := dst, seq := seq, sync := sync, len := 4 * ws.length } chan ws

/-- A pennant on link 0: good, marked or damaged on both passes. -/
def pn (q : Fin 3) (frame : List Nat) : PennantIn :=
  let fcs := fcsOf frame (q == 1) ^^^ (if q = 2 then 1 else 0)
  { link := 0, fcs := fcs, frame := frame, ta := 0, tr := 0, fcsBack := fcs, back := frame }

/-! ### Ill-formed commands -/

theorem test_time_of_65_bits_is_ill_formed : (Instr.holdoverEntry (2 ^ 64)).wellFormed = false := by decide
theorem test_link_4_of_a_requester_is_ill_formed : (Instr.arm 0 (.net 4 0) 0).wellFormed = false := by decide
theorem test_address_of_a_requester_is_ill_formed : (Instr.arm 0 (.net 0 (2 ^ 24)) 0).wellFormed = false := by decide
theorem test_access_of_3_bytes_is_ill_formed : (Instr.registerWrite 0 .mer 0x10000000 3 0).wellFormed = false := by decide
theorem test_word_of_33_bits_is_ill_formed : (Instr.registerWrite 0 .mer 0x10000000 4 (2 ^ 32)).wellFormed = false := by decide
theorem test_page_of_13_bits_is_ill_formed : (Instr.pageCommit 0 .mer 4096 1).wellFormed = false := by decide
theorem test_row_138_is_ill_formed :
    (Instr.otpRawGo 0 .mer [(138, 0, 0, 0)]).wellFormed = false := by decide
theorem test_code_of_15_bits_is_ill_formed : (Instr.injectionComplete 0 0 0 (2 ^ 14)).wellFormed = false := by decide
theorem test_header_with_long_payload_is_ill_formed : (Instr.acknowledge 0 { hd 0 0 [] with len := 4097 } 0 0 []).wellFormed = false := by decide +kernel
theorem test_header_with_wide_destination_is_ill_formed : (Instr.acknowledge 0 (hd (2 ^ 18) 0 []) 0 0 []).wellFormed = false := by decide +kernel
theorem test_header_with_wide_fcs_is_ill_formed : (Instr.acknowledge 0 { hd 0 0 [] with fcs := 2 ^ 32 } 0 0 []).wellFormed = false := by decide +kernel
theorem test_pennant_with_wide_word_is_ill_formed : (Instr.pennant 0 (pn 0 [2 ^ 32])).wellFormed = false := by decide +kernel
theorem test_slice_offset_of_17_bits_is_ill_formed :
    (Instr.slice 0 (hd 0 4 []) { outOff := 2 ^ 16 } 0).wellFormed = false := by decide +kernel
theorem test_image_with_wide_word_is_ill_formed :
    (Instr.almanacVerifyEnd 0 { words := [2 ^ 32], readErr := false }).wellFormed = false := by decide
theorem test_names_with_wide_part_are_ill_formed :
    (Instr.otpLoad 0 [] { part := 2 ^ 32, serial := 0, fullScale := [] }).wellFormed = false := by decide
theorem test_failed_row_with_wide_bank_is_ill_formed : (Instr.bankInitialisation 0 [(2 ^ 32, 0)]).wellFormed = false := by decide
theorem test_window_code_of_15_bits_is_ill_formed : (Instr.currentWindowEnd 0 0 [0, 2 ^ 14]).wellFormed = false := by decide
theorem test_crossing_after_time_is_ill_formed : (Instr.overcurrentTrip 0 0 1 false (2 ^ 66)).wellFormed = false := by decide
theorem test_access_of_master_16_is_ill_formed :
    (Instr.bankAccess 0 [{ m := 16, write := false, a := 0, n := 4, v := 0, wait := 0, upset := none }]).wellFormed = false := by decide
theorem test_host_page_of_7_bits_is_ill_formed : (Instr.pageWrite 0 64 0 [] 0).wellFormed = false := by decide
theorem test_program_word_is_ill_formed : (Instr.curProgramStart 0 0 [(2 ^ 16, true)]).wellFormed = false := by decide
theorem test_opcode_of_9_bits_is_ill_formed : (Instr.hostOpcodeUnknown 0 256).wellFormed = false := by decide
theorem test_a_command_is_well_formed : (Instr.registerWrite 0 (.net 3 0x3FF) 0x10000010 4 0xFFFFFFFF).wellFormed = true := by decide
theorem test_no_row_of_the_table_gives_bits : decodeTableWord 32 0 = none ∧ State.reset.withFetchWord 32 0 = State.reset := by decide +kernel

/-! ### Known answers and the pins -/

/-- FIPS 180-4 digest of the four bytes "abcd" (computed outside Lean; the spec names SHA-256 in R498). -/
theorem test_sha256_of_one_word : (sha256 [0x64636261]).map swapBytes =
    [0x88d4266f, 0xd4e6338d, 0x13b845fc, 0xf289579d, 0x209c8978, 0x23b9217d, 0xa3e16193, 0x6f031589] := by decide +kernel
/-- Phase W of axis 6 is the balls 02:31 to 02:36 (R580's worked example). -/
theorem test_balls_of_phase_w_of_axis_6 : ((List.range 6).all (fun i => ballAt 2 (31 + i) == .phase 6 2)) = true ∧
    ballAt 2 30 ≠ .phase 6 2 ∧ ballAt 2 37 ≠ .phase 6 2 := by decide +kernel
theorem test_ball_of_the_centre : ballAt 21 21 = .vddc := by decide
/-- Balls of each supply, as the table of R582 counts them. -/
def supplyBalls (b : Ball) : Nat :=
  (((List.range 1681).map (fun i => (i / 41 + 1, i % 41 + 1))).filter
    (fun x => !(5 ≤ ballRing x.1 x.2 && ballRing x.1 x.2 ≤ 9) && ballAt x.1 x.2 == b)).length
theorem test_balls_of_the_supplies : [.vdda, .vddio, .vddl, .vddsm, .vddc, .open_].map supplyBalls = [32, 40, 16, 8, 85, 16] := by
  decide +kernel
theorem test_interrupts_of_the_processors : (w [(pageEvent .dev, 1), (pageEventEn .dev, 1)]).dev.merIrq = true ∧
    (w [(pageEvent .dev, 1), (pageEventEn .dev, 1)]).dev.almIrq = false ∧
    (w [(pageEvent .dev, 1), (pageEventEn .dev, 1), (almIrqEn, 1)]).dev.almIrq = true := by decide +kernel
theorem test_pull_of_a_pin : (w [(gpioPullEn, 3), (gpioPullUp, 1)]).dev.gpioPull 0 = some true ∧
    (w [(gpioPullEn, 3), (gpioPullUp, 1)]).dev.gpioPull 1 = some false ∧ (w []).dev.gpioPull 2 = none := by decide +kernel
theorem test_extest_acts_in_reset_only :
    (w [] (fun d => { d with tap := { d.tap with ir := 0 }, pins := { d.pins with resetN := true } })).dev.tapPins = 0 ∧
    (w [] (fun d => { d with tap := { d.tap with ir := 0 }, pins := { d.pins with resetN := false } })).dev.tapPins = 1 := by decide +kernel
theorem test_select_of_a_serial_port : (w []).dev.cs0Low 0 = false ∧
    (w [] (fun d => d.modSmp 0 (fun p => { p with cur := some (.page 3) }))).dev.cs0Low 0 = true := by decide +kernel

/-! ### What the statements assume can be met: the machine, registers, start-up and ticks -/

theorem test_idle_queue_is_met : State.reset.pending = [] := by decide +kernel
theorem test_invariant_is_met : State.reset.Inv ∧ (w []).Inv := by
  unfold State.Inv
  decide +kernel
theorem test_step_answers_next : (match step { w [] with pending := [.xckClear 0 .mer 0] } with | .next _ => true | _ => false) = true := by
  decide +kernel
theorem test_time_and_queue_cases : (Instr.tickBoundary 0).resets = false ∧
    (match exec (.tickBoundary 0) (w []) with | .next _ => true | _ => false) = true := by decide +kernel
theorem test_held_in_reset_cases : State.reset.dev.running = false ∧ (Instr.arm 0 .mer 0).resets = false ∧
    (Instr.arm 0 .mer 0).movesPins = false ∧ (match exec (.arm 0 .mer 0) State.reset with | .next _ => true | _ => false) = true := by
  decide +kernel
theorem test_command_frames_cases : (Instr.arm 0 .mer 0).movesPins = false ∧ (Instr.arm 0 .mer 0).resets = false ∧
    (Instr.arm 0 .mer 0).reachesStore = false ∧ (Instr.arm 0 .mer 0).writesBanks = false := by decide
theorem test_register_cases : axbState 0 ≠ axbMode 0 ∧ ({} : Dev).regs = [] := by decide +kernel
theorem test_memory_cases : Memory.wf [] = true ∧ memSize - 4 + 4 ≤ memSize ∧ memSize ≤ memSize ∧ memSize - 1 < memSize ∧
    memSize - 1 ≠ 0 := by decide +kernel
theorem test_memory_word_at_the_top : ((Mem.putWord [] (memSize - 4) 0x87654321).word (memSize - 4) = 0x87654321) ∧
    (Mem.putWord [] (memSize - 4) 0x87654321).read (memSize - 1) = 0x87 := by decide +kernel
theorem test_row_gate_cases :
    (let c := Instr.gpioSet 0 .host 1; let s := w [] (fun d => { d with stepsDone := 1 });
      c.writes.isSome = true ∧ s.ready 0 ∧ s.dev.reaches .host = false) ∧
    (let s := w [] (fun d => { d with cycleAt := 0, cycleWrites := [(9, pageIndex .dev, 0x060)] });
      (Instr.devCommitHold 0 .alm true).writes = some (0, .alm, .dev, 0x060) ∧ s.dev.reaches .alm = true ∧
      s.dev.overruled .alm .dev 0x060 (s.when_ 0) = true ∧ 0x060 < 0x400) ∧
    (let s := w []; (Instr.reactionTableWrite 0 .mer 5 1).writes.isSome = true ∧ s.dev.expertOpen .mer .flt = false ∧ s.dev.reaches .mer = true) := by
  unfold State.ready
  decide +kernel
theorem test_reset_cases : devReady ≠ netState := by decide
theorem test_resets_the_block_cases : (State.reset.dev.running = false) ∧ (w []).dev.eng.cmd ≠ 1 ∧ (w []).dev.eng.cmd ≠ 3 := by decide +kernel
theorem test_release_cases : State.reset.dev.running = false ∧ State.reset.dev.pins.supplies = false ∧
    (let p : Pins := { supplies := true, resetN := true, clockGood := true }; (p.supplies && p.resetN && p.clockGood) = true) ∧
    (let p : Pins := { State.reset.dev.pins with supplies := true }; (p.supplies && p.resetN && p.clockGood) = false) := by decide +kernel
theorem test_start_up_cases : (w [] (fun d => { d with stepsDone := 0 })).ready 0 ∧
    (w [] (fun d => { d with stepsDone := 4 })).ready 0 ∧
    ((w [] (fun d => { d with stepsDone := 4 })).dev.neverReady || true || false) = true ∧
    (w [] (fun d => { d with stepsDone := 4 })).dev.neverReady = false ∧ (w []).dev.stepsDone ≠ 0 ∧ (w []).dev.stepsDone ≠ 1 ∧
    (w []).dev.stepsDone ≠ 2 ∧ (w []).dev.stepsDone ≠ 3 ∧ (w []).dev.stepsDone ≠ 4 := by
  unfold State.ready
  decide +kernel

/-- A container of four bytes, signed with the key 2 over P-256 (made outside Lean, with the nonce 3). -/
def image : SlotImage :=
  { words := [0xb7a31c05, 0x1, 0x4, 0x0, 0x0, 0x0, 0x0, 0x0,
    0xb36823f1, 0xf85f5dfc, 0xa8e97ba1, 0xfe61c205, 0xaa0abc50, 0x17558587, 0xadbf2df0, 0x536edf6d,
    0xd1e4cb5e, 0x440a33a6, 0x95eff7c8, 0x65f14b1d, 0x21b7c6e6, 0x85a9adef, 0x1b6641fb, 0x6cfde7c6,
    0x72bb938f, 0x2b7c966d, 0xf0427966, 0xee161ec0, 0xa47d180a, 0x618df5cc, 0xf683e54c, 0xb9cd8ffe,
    0x187bf27c, 0x7e4f038d, 0x338528a, 0xc31ab504, 0xe26989c0, 0x351bf277, 0xfc480ba6, 0x78996647,
    0x10557707, 0x40d08edb, 0xc69a3d29, 0xdb30749f, 0xe6ad7dba, 0x2982e93c, 0x9db7049e, 0xd1737822,
    0x12345678]
    readErr := false }
/-- The hash of its public key. -/
def keyHash : List Nat := [0x13eb7ad0, 0x52b14048, 0x4a2de142, 0xb43ace06, 0x20d0cb93, 0x5abdc3eb, 0x2f82cdae, 0xd8c3e051]

set_option maxRecDepth 100000 in
theorem test_signed_image_verifies : ({ keys := keyHash } : Dev).verifyCause image = 0 := by decide +kernel
theorem test_almanac_starts_cases : (let s := w [(otpValid, 8)] (fun d => { d with stepsDone := 6, keys := keyHash });
      s.ready 0 ∧ s.dev.stepsDone = 6 ∧ s.dev.keyValid = true) ∧ (w []).dev.stepsDone ≠ 6 ∧ (w []).dev.keyValid = false := by
  unfold State.ready
  decide +kernel
theorem test_tick_boundary_case : (w []).ready (w []).dev.nextTick := by
  unfold State.ready
  decide +kernel
theorem test_time_events_cases :
    (let s := w [(timeState, 2)] (fun d => { d with noTime := 256, errRun := 16 });
      s.ready 0 ∧ s.dev.rd timeState = 2 ∧ s.dev.rd timeHoldLimit ≤ s.dev.noTime ∧ s.dev.rd netState ≠ 5 ∧ 16 ≤ s.dev.errRun) ∧
    ¬ ((w []).dev.rd timeState = 2) ∧ (1 ≤ 200 ∧ 200 ≤ 200) ∧ (256 % 256 = 0) ∧ 200 < 201 % 256 ∧
    (w []).opens .mer .time 0x078 0 := by
  unfold State.ready State.opens
  decide +kernel
theorem test_page_header_cases : (w []).ready 0 ∧ pageAt 0x280 = some (.evp 0) ∧ pageAt 0x10B = none ∧ 0x10B < 4096 ∧ (w []).dev.rdHold = [] ∧
    (w []).opens .host (.evp 0) 0x010 0 ∧ (w []).dev.reaches .host = true ∧ 0xFFFFFFFF < 2 ^ 32 := by
  unfold State.ready State.opens
  decide +kernel
theorem test_commit_cases : bitAt 1 0 = true ∧ (w []).dev.rd (pageCommit .time) = 0 ∧ bitAt 0 0 = false ∧
    (w [(pageCommit .time, 1)]).dev.rd (pageCommit .time) ≠ 0 ∧ pageAt 1 = some .time ∧ (w []).dev.reaches .mer = true ∧
    (w []).dev.reaches .alm = true ∧ 0 ≤ 2 ^ 64 - 1 ∧ 2 ^ 64 - 1 < 2 ^ 64 := by decide +kernel
theorem test_expert_cases : (w []).dev.expertOpen .mer .time = false ∧
    (let s := w [(timeTickCount, 65536)] (fun d => { d with expert := [(.mer, .time, 0)] });
      s.dev.expertOpen .mer .time = true ∧ s.dev.expert = [(.mer, .time, 0)] ∧ 0 + 65536 ≤ s.dev.rd timeTickCount) ∧
    (w [(timeTickCount, 65535)] (fun d => { d with expert := [(.mer, .time, 0)] })).dev.rd timeTickCount < 0 + 65536 := by decide +kernel
theorem test_commit_hold_case : (w []).ready (2 ^ 64 - 1) ∧ (w []).opens .mer .dev 0x060 (2 ^ 64 - 1) := by
  unfold State.ready State.opens
  decide +kernel

/-! ### Axes, profiles, feedback -/

/-- A command written at time 0. -/
def cmd0 (code : Nat) : PendingCmd := { code := code, at_ := 0, src := 0 }

theorem test_axis_command_cases : (Instr.arm 0 .mer 23, 1) ∈ [(Instr.arm 0 .mer 23, 1)] ∧ ((w []).dev.ax 23).cmd = none ∧
    ((w [] (fun d => { d with axes := [(23, { cmd := some (cmd0 1) })] })).dev.ax 23).cmd ≠ none := by decide +kernel
theorem test_arming_is_judged_cases :
    (let d := (w [(devReady, 1)] (fun d => { d with axes := [(0, { cmd := some (cmd0 1) })] })).dev;
      (d.ax 0).cmd = some (cmd0 1) ∧ 99 < (cmd0 1).at_ + 100 ∧ (cmd0 1).at_ + 100 ≤ 100 ∧ d.rd devReady = 1 ∧ d.st 0 = 0 ∧
      bitAt (d.rd merRecheck) (0 / 4) = false) ∧
    (w [] (fun d => { d with axes := [(0, { cmd := some (cmd0 1) })] })).dev.rd devReady = 0 ∧
    (w [(axbState 0, 1)]).dev.st 0 ≠ 0 ∧ (w [(axbState 0, 1)]).dev.st 0 = 1 ∧ (w []).dev.st 0 ≠ 1 ∧ (cmd0 2).code = 2 := by decide +kernel
theorem test_profile_command_cases : ((w []).dev.prof 0).cmd = none ∧
    ((w [] (fun d => { d with profs := [(0, { cmd := some (cmd0 1) })] })).dev.prof 0).cmd ≠ none := by decide +kernel
theorem test_brake_and_excitation_cases :
    (let s := w [(axbState 0, 4)] (fun d => { d with axes := [(0, { brakeWait := true })] });
      s.dev.st 0 = 4 ∧ (s.dev.ax 0).brakeWait = true ∧ (s.dev.ax 0).drvUse.alternate = false) ∧ ¬ ((w []).dev.st 0 = 4) ∧
    (w [(axbState 0, 2)]).dev.st 0 = 2 ∧ bitsAt 4 1 2 ≠ 3 ∧ bitsAt 4 4 1 = 0 ∧ (w []).dev.rd (motExcRun 0) = 0 ∧ bitsAt 6 1 2 = 3 ∧
    (bitsAt 16 4 1 = 1 ∧ (w []).dev.rd (motExcT 0) = 0) ∧ (w [(motExcRun 0, 1)]).dev.rd (motExcRun 0) = 1 := by decide +kernel
theorem test_position_set_cases : (w []).dev.portBusy 0 = false ∧ (w [(axbState 0, 1)]).dev.portBusy 0 = true := by decide +kernel
theorem test_quadrature_cases :
    (let s := w [(fbMode 0, 1), (fbPos 0, 2 ^ 47 - 2)];
      2 ≤ s.dev.stepsDone ∧ s.dev.rd (fbMode 0) = 1 ∧ s.dev.rd (fbWire 0) = 0 ∧ s.dev.rd (fbZUsed 0) = 0 ∧
      -(2 ^ 47) < s.dev.rdS (fbPos 0) ∧ s.dev.rdS (fbPos 0) < 2 ^ 47 - 1 ∧ s.dev.fbLo 0 < s.dev.rdS (fbPos 0) ∧
      s.dev.rdS (fbPos 0) < s.dev.fbHi 0 ∧ (quadPhase 0 + 4 - quadPhase (s.dev.rd (fbLines 0))) % 4 = 0 ∧
      (quadPhase 1 + 4 - quadPhase (s.dev.rd (fbLines 0))) % 4 = 1 ∧ (quadPhase 2 + 4 - quadPhase (s.dev.rd (fbLines 0))) % 4 = 3 ∧
      (quadPhase 3 + 4 - quadPhase (s.dev.rd (fbLines 0))) % 4 = 2 ∧ s.dev.rd (fbIllegalCount 0) < 2 ^ (fbIllegalCount 0).w - 1) ∧
    (w [] (fun d => { d with stepsDone := 1 })).dev.stepsDone < 2 := by decide +kernel
theorem test_feedback_fault_cases :
    (w []).dev.rd (fbIllegalLimit 0) < ((w [] (fun d => { d with fbps := [(0, { illegal := [1, 2, 3, 4, 5] })] })).dev.fbp 0).illegal.length ∧
    ¬ (w []).dev.rd (fbIllegalLimit 0) < ((w [] (fun d => { d with fbps := [(0, { illegal := [1, 2, 3, 4] })] })).dev.fbp 0).illegal.length ∧
    (let s := w [(fbToothRefMiss 0, 2)]; s.dev.rd (fbToothRefLimit 0) ≤ s.dev.rd (fbToothRefMiss 0)) ∧
    (let s := w [(fbToothRefMiss 0, 1)]; ¬ s.dev.rd (fbToothRefLimit 0) ≤ s.dev.rd (fbToothRefMiss 0)) ∧
    (let s := w [(fbMode 0, 2), (fbLines 0, 7)]; s.dev.rd (fbMode 0) = 2 ∧ s.dev.rd (fbLines 0) = 7 ∧ s.dev.rd (fbWire 0) = 0) ∧
    ¬ ((w []).dev.rd (fbMode 0) = 2) ∧ 0 ∈ (w []).dev.naming 0 := by decide +kernel
theorem test_wire_check_cases : (w [(fbMode 0, 1)]).dev.checkedPairs 0 &&& 1 ≠ 0 ∧ 1 &&& (w [(fbMode 0, 1)]).dev.checkedPairs 0 ≠ 0 ∧
    4 &&& (w [(fbMode 0, 1)]).dev.checkedPairs 0 = 0 := by decide +kernel
theorem test_serial_frame_cases :
    (let s := w [(fbMode 0, 4), (fbLines 0, 1)]; s.dev.rd (fbMode 0) = 4 ∧ bitAt (s.dev.rd (fbLines 0)) 0 = true) ∧
    bitAt ((w [(fbMode 0, 4)]).dev.rd (fbLines 0)) 0 = false ∧ (w []).dev.rd (fbMode 0) ≠ 4 ∧ ((w []).dev.fbp 0).frameAt = none ∧
    (let s := w [(fbMode 0, 4), (fbCrcWidth 0, 6), (fbCrcPoly 0, 3), (fbSserLen 0, 26)] (fun d => { d with fbps := [(0, { frameAt := some 0, errRun := 3 })] });
      (s.dev.fbp 0).frameAt ≠ none ∧ s.dev.frameOk 0 (1 % 2 ^ s.dev.rd (fbSserLen 0)) = false ∧ (s.dev.fbp 0).absA = none ∧
      bitAt (s.dev.rd (fbWire 0)) 0 = false ∧ s.dev.frameOk 0 (0 % 2 ^ s.dev.rd (fbSserLen 0)) = true ∧
      s.dev.rd (fbSserErrLimit 0) ≤ (s.dev.fbp 0).errRun ∧ s.dev.rd (fbSserErrs 0) + 1 < 2 ^ (fbSserErrs 0).w) ∧
    ¬ (w []).dev.rd (fbSserErrLimit 0) ≤ ((w []).dev.fbp 0).errRun := by decide +kernel
theorem test_still_and_latch_cases :
    (let s := w [(fbStill 0, 0)] (fun d => { d with fbps := [(0, { lastQ := some 0 })] });
      s.dev.rd (fbMode 0) ≠ 4 ∧ (s.dev.fbp 0).lastQ = some 0 ∧ s.dev.rd (fbStill 0) = 0 ∧
      0 + 20 * s.dev.rd (fbTStill 0) ≤ 4 * s.when_ 10000000) ∧ ((w []).dev.fbp 0).lastQ = none ∧
    (let s := w [(fbLatchSrc 0, 1), (fbMode 0, 3), (fbLatchArm 0, 1)];
      s.dev.rd (fbLatchSrc 0) = 1 ∧ s.dev.rd (fbMode 0) = 3 ∧ s.dev.rd (fbLatchArm 0) = 1 ∧ s.dev.rd (fbLatchCont 0) = 0 ∧
      (s.dev.fbp 0).refSet = none ∧ bitAt (s.dev.rd (fbWire 0)) 0 = false) ∧ (w []).dev.rd (fbLatchSrc 0) = 0 ∧
    bitAt ((w [(fbWire 0, 4)]).dev.rd (fbWire 0)) 2 = true ∧
    (w [(fbLatchSrc 0, 1)]).dev.rd (fbLatchArm 0) = 0 := by decide +kernel

/-! ### Drive stages, currents, converters, lanes -/

/-- A window of channel 0. -/
def win0 : Win := { start := 0, stop := 80, chans := [0], phase := 0, neg := 0 }

theorem test_duty_cases :
    (let s := w [(drvDtComp 0, 0)] (fun d => { d with axes := [(0, { newVec := some [2 ^ 30, 0, 1] })] });
      s.ready 0 ∧ s.dev.rd (drvTestEn 0) = 0 ∧ (s.dev.drvSet 0).dtComp = false ∧ (s.dev.ax 0).newVec = some [((2 ^ 30 : Nat) : Int), (0 : Nat), (1 : Nat)]) ∧
    (let s := w [] (fun d => { d with axes := [(0, { planOpen := true, planLost := true, wins := [win0], plan := 1 })] });
      (s.dev.ax 0).planOpen = true ∧ (s.dev.ax 0).wins = [win0] ∧ (s.dev.ax 0).plan ≠ planPassive ∧ (s.dev.ax 0).planLost = true ∧
      s.dev.winTime 0 win0.stop ≤ 4 * s.when_ 100 ∧ (4 * s.when_ 99 : Int) < s.dev.winTime 0 win0.stop ∧ s.dev.rd (adcLogEn 0) = 0) ∧
    ((w []).dev.ax 0).planOpen = false := by
  unfold State.ready
  decide +kernel
theorem test_current_limit_cases :
    (let s := w [(curOfsEn 0, 1), (devReady, 1)] (fun d => { d with axes := [(0, { staleRun := 4, sumRun := 8, ofsTick := some [none, none, none, none] })] });
      (s.dev.ax 0).planStaleLim ≤ (s.dev.ax 0).staleRun ∧ (s.dev.ax 0).planSumN ≤ (s.dev.ax 0).sumRun ∧
      (s.dev.ax 0).ofsTick = some [none, none, none, none] ∧ s.dev.rd (curOfsEn 0) ≠ 0 ∧ s.dev.rd devReady ≠ 0 ∧ s.dev.rd (curOfsBusy 0) = 0 ∧
      s.dev.offsetDue 0 = true) ∧
    (let s := w [] (fun d => { d with axes := [(0, { staleRun := 3, sumRun := 7 })] });
      (s.dev.ax 0).staleRun < (s.dev.ax 0).planStaleLim ∧ (s.dev.ax 0).sumRun < (s.dev.ax 0).planSumN) ∧
    ((w []).dev.ax 0).ofsTick = none ∧
    (let s := w [(curOfsBusy 0, 1), (curFsU 0, 6553600), (curFsV 0, 6553600), (curFsW 0, 6553600), (curFsLink 0, 6553600)] (fun d =>
          { d with axes := [(0, { ofsCount := 4096, ofsNum := [1, 1, 1, 1], ofsSum := [131072, 0, -131072, 1] })] });
      s.dev.rd (curOfsBusy 0) ≠ 0 ∧ s.dev.rd (curOfsN 0) ≤ (s.dev.ax 0).ofsCount ∧
      (∀ x, x < 4 → ((s.dev.ax 0).ofsNum.getD x 0) ≠ 0 ∧
        50 * (divRound ((s.dev.ax 0).ofsSum.getD x 0) ((s.dev.ax 0).ofsNum.getD x 0)).natAbs ≤
          ([s.dev.rdS (curFsU 0), s.dev.rdS (curFsV 0), s.dev.rdS (curFsW 0), s.dev.rdS (curFsLink 0)].getD x 0).natAbs)) ∧
    (w []).dev.rd (curOfsBusy 0) = 0 := by decide +kernel
theorem test_trip_cases : 6 ≤ (w []).dev.stepsDone ∧ (w [] (fun d => { d with stepsDone := 5 })).dev.stepsDone < 6 ∧
    (w [(axbState 0, 1)]).dev.drives 0 = true ∧ (w []).dev.drives 0 = false ∧ bitList 3 1 = [0] ∧
    ((w []).dev.at_ 0).crossingActs 0 0 ((w []).when_ 0) 0 = true ∧
    (let s := w [] (fun d => { d with pins := { den := 15, vgd := 15 }, axes := [(0, { bridge := 2, drvUse := { blank := 80 } })] });
      (s.dev.at_ 99).crossingActs 0 0 (s.when_ 99) 0 = false ∧ (s.dev.at_ 100).crossingActs 0 0 (s.when_ 100) 0 = true) ∧
    bitAt (w [] (fun d => { d with pins := { vgd := 1 } })).dev.pins.vgd 0 = true ∧ bitAt (w []).dev.pins.vgd 0 = false := by decide +kernel
theorem test_brake_regulation_cases :
    (let s := w [] (fun d => { d with pins := { den := 15, vgd := 15 }, axes := [(0, { bridge := 2 }), (1, { bridge := 4, regOpen := true })] });
      (s.dev.at_ 0).bridge 0 = 2 ∧ s.dev.busAbove 0 = false ∧ (s.dev.ax 1).regOpen = true ∧ (s.dev.ax 1).bridge = 4 ∧ (s.dev.at_ 0).bridge 1 = 4 ∧
      s.dev.rd (drvBrakeReg 0) < 2 ^ (drvBrakeReg 0).w - 1) ∧
    ¬ (((w []).dev.at_ 0).bridge 0 = 2 ∨ ((w []).dev.at_ 0).bridge 0 = 3) ∧ (w [(pwdVbus 0, 2 ^ 31 - 1)]).dev.busAbove 0 = true ∧
    ((w []).dev.ax 0).regOpen = false := by decide +kernel
theorem test_stage_hold_cases : 0 ∈ enableAxes 0 ∧ (w [(axbState 0, 1)]).dev.drives 0 = true ∧
    (enableAxes 0).any (w [(axbState 0, 1)]).dev.drives = true ∧ (w []).dev.held 0 = true ∧ 6 ≤ (w []).dev.stepsDone ∧
    (w []).dev.rd (drvTrip 0) = 0 ∧ (w [(axbState 16, 7)]).dev.st 16 = 7 ∧ (w []).dev.st 16 ≠ 7 ∧
    (w [] (fun d => { d with stepsDone := 5 })).dev.bridge 16 ≠ 1 := by decide +kernel
theorem test_bus_and_temperature_cases :
    (let s := w [(axbState 12, 1), (axbState 16, 1)] (fun d => { d with adc := [(3, { busOut := 2, hot := [0, 0, 0, 0, 2] })], axes := [(16, { busOut := 2, busStale := 4 })], pkgHot := 1 });
      3 < 4 ∧ 2 ≤ (s.dev.bank 3).busOut ∧ (enableAxes 3).any s.dev.drives = true ∧ 2 ≤ (s.dev.ax (12 + 4)).busOut ∧ s.dev.drives (12 + 4) = true ∧
      4 < 5 ∧ 2 ≤ (s.dev.bank 3).hot.getD 4 0 ∧ 4 ≤ (s.dev.ax 16).busStale ∧ 1 ≤ s.dev.pkgHot ∧ s.dev.rdS fltPkgTrip < signedOf 16 0x7D01) ∧
    ((w []).dev.bank 3).busOut < 2 ∧ ((w []).dev.ax (12 + 4)).busOut < 2 ∧ (∀ j, j < 5 → ((w []).dev.bank 0).hot.getD j 0 < 2) ∧
    ((w []).dev.ax 0).busStale < 4 ∧ signedOf 16 0x7D00 ≤ (w []).dev.rdS fltPkgTrip := by decide +kernel
/-- A conversion of slice 1 that ends 50 ns after time 0. -/
def conv0 (job : Job) : Conv := { job := job, start := 0, held := 60, stop := 200, slice := 1 }
/-- A bank whose rotation stands and has made some conversions. -/
def made (c : Nat) (l : List Conv) (d : Dev) : Dev := { d with rots := [(c, { given := l })] }
theorem test_injection_and_pass_cases :
    (let s := w [(adcInjCfgTrig 0 7, 1), (adcSeqTrig 0, 1), (adcSeqLen 0, 1)];
      Memory.wf s.mem = true ∧ s.dev.rd (adcInjCfgTrig 0 7) = 1 ∧ bitAt 128 7 = true ∧ tabGet (s.dev.bank 0).inj 7 = none ∧
      s.dev.rd (adcSeqTrig 0) = 1 ∧ s.dev.rd (adcSeqLen 0) ≠ 0 ∧ (s.dev.bank 0).pass = none ∧ s.dev.reaches .mer = true) ∧
    (let s := w [] (made 0 [conv0 (.inject 7)]);
      ((s.dev.at_ 50).convs 0 (· == .inject 7)).head? = some (conv0 (.inject 7)) ∧ (conv0 (.inject 7)).stop ≤ 4 * s.when_ 50 ∧
      s.dev.rd (adcLogEn 0) = 0 ∧ ∀ v ∈ (s.dev.at_ 49).convs 0 (· == .inject 7), 4 * s.when_ 49 < v.stop) ∧
    (let s := w [(adcSeqTrig 0, 1), (adcSeqLen 0, 1)] (fun d => made 0 [conv0 (.entry 0)] { d with adc := [(0, { pass := some 1 })] });
      (s.dev.bank 0).pass ≠ none ∧ (s.dev.bank 0).pass = some 1 ∧ tabGet (s.dev.bank 0).entries 0 = none ∧
      (s.dev.at_ 50).passConvs 0 1 = [conv0 (.entry 0)] ∧ (conv0 (.entry 0)).stop ≤ 4 * s.when_ 50 ∧ (conv0 (.entry 0)).filt.1 = 0 ∧
      (conv0 (.entry 0)).was = none ∧ s.dev.rd (adcWcEn 0 0) = 0) ∧
    (w []).dev.rd (adcSeqLen 0) = 0 ∧ (w [(adcSeqTrig 0, 0)]).dev.rd (adcSeqTrig 0) ≠ 1 := by decide +kernel
theorem test_scan_and_cross_check_cases :
    (let s := w [] (fun d => { d with stepsDone := 2, tickStart := 40000 });
      s.dev.stepsDone = 2 ∧ s.dev.activeSlices 0 = [] ∧ (s.dev.bank 0).scan = none ∧ (s.dev.bank 0).scanLast = none ∧
      s.when_ 40000 = s.dev.tickStart ∧ s.ready 40000) ∧
    (let s := w [] (fun d => { d with adc := [(0, { scanLast := some 0 })], tickStart := 100000 });
      2 ≤ s.dev.stepsDone ∧ (s.dev.bank 0).scan = none ∧ (s.dev.bank 0).scanLast = some 0 ∧ 0 + 100000 ≤ s.when_ 100000 ∧
      s.when_ 100000 = s.dev.tickStart ∧ s.when_ 100001 ≠ s.dev.tickStart) ∧
    (let s := w [] (fun d => made 3 ((List.range 7).map (fun i => conv0 (.scan i))) { d with adc := [(3, { scan := some 0 })] });
      (s.dev.bank 3).scan ≠ none ∧ 3 < 4 ∧ ((s.dev.at_ 50).convs 3 Job.ofScan).length = 7 ∧
      (∀ v ∈ (s.dev.at_ 50).convs 3 Job.ofScan, v.stop ≤ 4 * s.when_ 50) ∧ s.dev.rd (adcLogEn 3) = 0 ∧
      (s.dev.bank 3).scan = some 0 ∧ 0 + 1000000 ≤ s.when_ 1000000 ∧ (s.dev.bank 3).scanLate = false) ∧
    bitAt (w []).dev.xckDue 0 = false := by
  unfold State.ready
  decide +kernel
/-- Banks 0 and 1 with the eight conversions of a cross-check that is due. -/
def crossed : State :=
  w [] (fun d => { d with xckDue := 1, rots := (List.range 2).map (fun c => (c, { given := (List.range 8).map (fun i => conv0 (.cross i)) })) })
theorem test_cross_check_due_cases :
    bitAt crossed.dev.xckDue 0 = true ∧
    (let le := samplesOf ((crossed.dev.at_ 50).convs 0 Job.ofCross) [400, 0, 0, 0, 0, 0, 0, 0];
      let lo := samplesOf ((crossed.dev.at_ 50).convs 1 Job.ofCross) [];
      8 ≤ le.length ∧ 8 ≤ lo.length ∧ (∀ x ∈ le ++ lo, x.1.stop ≤ 4 * crossed.when_ 50) ∧
      4 * crossed.dev.rd (xckXchkTol 0) < (crossed.dev.meanOf 0 le 0 - crossed.dev.meanOf 1 lo 0).natAbs ∧
      (crossed.dev.meanOf 0 le 4 - crossed.dev.meanOf 1 lo 4).natAbs ≤ 4 * crossed.dev.rd (xckXchkTol 0) ∧
      (crossed.dev.meanOf 0 lo 0 - crossed.dev.meanOf 1 lo 0).natAbs ≤ 4 * crossed.dev.rd (xckXchkTol 0) ∧
      crossed.dev.rd (adcLogEn 0) = 0 ∧ crossed.dev.rd (adcLogEn 1) = 0) := by decide +kernel
/-- A calibration that passed. -/
def good : Coef := ⟨1, 2 ^ 30, 2⟩
theorem test_calibration_cases : good.pass = true ∧
    (let s := w [(adcFgcalBusy 0, 1), (adcActive 0, 15), (adcSpare 0, 4), (adcBgEn 0, 1)];
      s.dev.rd (adcFgcalBusy 0) ≠ 0 ∧ s.dev.rd (adcRetired 0) = 0 ∧ (∀ k, k < 5 → ([good, good, good, good, good].getD k ⟨0, 0, 0⟩).pass = true) ∧
      bitAt (s.dev.rd (adcActive 0)) 3 = true ∧ ((s.dev.at_ 0).rot 0).steps.all (fun x => x.2 == 0) = true ∧
      ((s.dev.at_ 0).rot 0).runs.all (fun v => v.2.job != .step || decide (v.2.stop ≤ 4 * s.when_ 0)) = true ∧ s.dev.rd (adcMode 0) = 0 ∧ s.dev.rd (adcSpare 0) < 5 ∧ s.dev.rd (adcBgEn 0) ≠ 0 ∧ 6 ≤ s.dev.stepsDone) ∧
    (let s := w [(adcFgcalBusy 0, 1), (adcActive 0, 15)] (fun d => { d with rots := [(0, { steps := [(3, 0), (2, 1)] })] });
      (tabGet ((s.dev.at_ 0).rot 0).steps 3).isSome = true ∧ ((s.dev.at_ 0).rot 0).steps.any (fun x => x.2 != 0) = true) ∧
    (w []).dev.rd (adcFgcalBusy 0) = 0 ∧ (w [(adcMode 0, 1)]).dev.rd (adcMode 0) ≠ 0 ∧ (w [] (fun d => { d with stepsDone := 5 })).dev.stepsDone < 6 ∧
    (let s := w [(adcRetired 0, 16), (adcBgEn 0, 1), (adcMode 0, 3)];
      bitAt (s.dev.rd (adcRetired 0)) 4 = true ∧ s.dev.rd (adcBgEn 0) ≠ 0 ∧ (s.dev.bank 0).retryAt.getD 4 0 ≤ s.when_ 0 ∧ s.dev.rd (adcMode 0) < 4) ∧
    bitAt ((w []).dev.rd (adcRetired 0)) 4 = false ∧ (w [(adcMode 0, 5)]).dev.rd (adcMode 0) = 5 ∧ (w []).dev.rd (adcMode 0) ≠ 5 := by decide +kernel
theorem test_lane_cases : (∀ n k, ((w []).dev.slot n k).id ≠ 0x8000) ∧
    (let s := w [(axbState 0, 2)] (fun d => { d with lanes := [(0, { queue := [(0, 0)] })], axes := [(0, { ovrRun := [3, 0, 0, 0], curRun := 1 })] });
      (s.dev.lane 0).queue = (0, 0) :: [] ∧ (s.dev.lane 0).started = none ∧ 4 * s.when_ 0 < s.dev.deadline 0 0 ∧ (s.dev.ax 0).curRun ≠ 2 ∧
      s.dev.runsPrograms 0 = true ∧ (s.dev.slot 0 0).id ≠ 0 ∧ (s.dev.ax 0).curKeep = none ∧ s.dev.rd (supOvrLimit 0) ≤ (s.dev.ax 0).ovrRun.getD 0 0) ∧
    ((w []).dev.lane 0).queue = [] ∧
    (let s := w [] (fun d => { d with lanes := [(0, { queue := [(0, 0)], started := some 0 })] });
      (s.dev.lane 0).started = some 0 ∧ 4 * s.when_ 0 ≤ s.dev.deadline 0 0 ∧ s.dev.deadline 0 0 < 4 * s.when_ (2 ^ 20)) ∧
    ((w []).dev.ax 0).curRun = 2 ∧ (w []).dev.runsPrograms 0 = false ∧ ((w []).dev.ax 0).ovrRun.getD 3 0 < (w []).dev.rd (supOvrLimit 0) := by
  refine ⟨fun n k => ?_, by decide +kernel⟩
  show (if k < 3 then k + 1 else 0) ≠ 0x8000
  split <;> omega

/-! ### Supervision, observer, brake, curve -/

theorem test_axis_supervision_cases :
    (let s := w [(supFeRun 0, 4), (supFeLimit 0, 1), (axbState 0, 5)] (fun d => { d with axes := [(0, { trackRun := 16, frzComm := 50, speedRun := 2, stopRun := 25 })] });
      s.dev.rd (focErrN 0) ≤ (s.dev.ax 0).trackRun ∧ s.dev.rd (supFeTime 0) ≤ s.dev.rd (supFeRun 0) ∧ s.dev.rd (supFeLimit 0) ≠ 0 ∧
      s.dev.rd (supFrzT 0) ≤ (s.dev.ax 0).frzComm ∧ 2 ≤ (s.dev.ax 0).speedRun ∧ s.dev.st 0 = 5 ∧ s.dev.angleSrc 0 ≠ 1 ∧ s.dev.angleSrc 0 ≠ 2 ∧
      s.dev.rd (supStopHold 0) ≤ (s.dev.ax 0).stopRun ∧ (s.dev.ax 0).toFault = false ∧ (s.dev.ax 0).toFrozen = false ∧
      (s.dev.ax 0).stopAt + s.dev.rd (supStopTmax 0) * 1000000 ≤ s.when_ 2000000000 ∧
      s.when_ 1999999999 < (s.dev.ax 0).stopAt + s.dev.rd (supStopTmax 0) * 1000000) ∧
    (let s := w [(supFeRun 0, 3)] (fun d => { d with axes := [(0, { trackRun := 15, frzComm := 49, frzPos := 49, speedRun := 1 })] });
      (s.dev.ax 0).trackRun < s.dev.rd (focErrN 0) ∧ s.dev.rd (supFeRun 0) < s.dev.rd (supFeTime 0) ∧ (s.dev.ax 0).frzComm < s.dev.rd (supFrzT 0) ∧
      (s.dev.ax 0).frzPos < s.dev.rd (supFrzT 0) ∧ (s.dev.ax 0).speedRun < 2 ∧ s.dev.st 0 ≠ 5) := by decide +kernel
theorem test_observer_early_phase_cases :
    (let s := w [(obsPhase 0, 2), (obsPhase 1, 4), (obsPhase 2, 3)] (fun d => { d with axes := [(1, { polRise := [(100, 1), (95, 1)] }), (2, { agreeRun := 8, handAt := some 0 })] });
      s.dev.phase 0 = 2 ∧ (s.dev.ax 0).phaseAt + ms (s.dev.rd (obsAlignT 0)) ≤ s.when_ 100000000 ∧ s.dev.phase 1 = 4 ∧
      (s.dev.ax 1).phaseAt + ms 4 ≤ s.when_ 4000000 ∧ (s.dev.ax 1).polRise = [(100, 1), (95, 1)] ∧ 0 < 100 + 95 ∧
      s.dev.phase 2 = 3 ∧ 8 ≤ (s.dev.ax 2).agreeRun ∧ (s.dev.ax 2).handAt = some 0 ∧
      0 + ms (s.dev.rd (obsHandTmax 2)) ≤ s.when_ (2 ^ 40)) ∧ max 100 95 ≤ 20 * (max 100 95 - min 100 95) ∧
    (let s := w [(obsPhase 1, 4)] (fun d => { d with axes := [(1, { polRise := [] })] }); s.dev.phase 1 = 4 ∧ (s.dev.ax 1).polRise = []) ∧
    (w []).dev.phase 0 ≠ 2 ∧ (w []).dev.phase 0 ≠ 3 ∧ (w []).dev.phase 0 ≠ 4 ∧ (w []).dev.phase 0 ≠ 5 ∧ (w []).dev.phase 0 ≠ 6 ∧
    ((w []).dev.ax 0).agreeRun < 8 := by decide +kernel
theorem test_observer_track_cases :
    (let s := w [(obsPhase 0, 6), (obsBlend 0, 2 ^ 30)]; s.dev.phase 0 = 6 ∧ 2 ^ 30 ≤ s.dev.rd (obsBlend 0)) ∧
    (let s := w [(obsPhase 0, 7), (axbState 0, 2), (obsRetries 0, 3)] (fun d => { d with axes := [(0, { lossRun := 8, trackTicks := 25000 })] });
      s.dev.phase 0 = 7 ∧ s.dev.moves 0 = true ∧ s.dev.rd (obsLossN 0) ≤ (s.dev.ax 0).lossRun ∧ s.dev.rd (obsCatchRetry 0) ≤ s.dev.rd (obsRetries 0) ∧
      s.dev.rd (obsRetryClr 0) ≤ (s.dev.ax 0).trackTicks ∧ s.dev.st 0 = 2) ∧
    (let s := w [(obsRetries 0, 2)]; s.dev.rd (obsRetries 0) < s.dev.rd (obsCatchRetry 0) ∧ s.dev.phase 0 ≠ 7 ∧ s.dev.st 0 ≠ 3 ∧ s.dev.phase 0 ≠ 1) ∧
    (let s := w [(obsPhase 0, 1), (axbState 0, 3), (drvBusFf 0, 0), (drvVbusNom 0, 100)] (fun d => { d with axes := [(0, { samples := [(0, 0, 0, 97), (1, 0, 0, 97), (2, 0, 0, 97), (3, 0, 0, 97)] })] });
      s.dev.st 0 = 3 ∧ s.dev.phase 0 = 1 ∧ (s.dev.ax 0).nextState = none ∧ s.dev.measured 0 (s.when_ 2000000) = true ∧
      (97 * s.dev.vBus 0 : Int) ≤ 100 * (catchOf (s.dev.ax 0).samples).span) ∧
    (let s := w [(obsPhase 0, 1), (axbState 0, 3), (drvBusFf 0, 0), (drvVbusNom 0, 100)] (fun d => { d with axes := [(0, { samples := [(0, 0, 0, 96), (1, 0, 0, 96), (2, 0, 0, 96), (3, 0, 0, 96)] })] });
      100 * (catchOf (s.dev.ax 0).samples).span < (97 * s.dev.vBus 0 : Int) ∧
      ((catchOf (s.dev.ax 0).samples).w.natAbs : Int) < s.dev.rdS (obsCatchVmin 0)) := by decide +kernel
/-- A fault of the commutation port alone at time 0, with a snapshot that the fallback can start from. -/
def fall0 : Fallback := { at_ := 0, comm := true, wE := 0x00C80000 }
theorem test_fallback_cases :
    (let s := w [(axbState 0, 2), (focRs 0, 1), (focLd 0, 1), (focLq 0, 1), (focPsi 0, 1), (obsG2 0, 1), (obsPllKp 0, 1)] (fun d =>
          { d with axes := [(0, { fallDue := some fall0 })], tickStart := 1, nextTick := 40001 });
      (s.dev.ax 0).fallDue = some fall0 ∧ fall0.at_ < s.dev.tickStart ∧ s.dev.moves 0 = true ∧ s.dev.canFallBack 0 fall0 = true ∧ fall0.own < 2 ∧
      s.dev.mode 0 < 3) ∧
    (let s := w [] (fun d => { d with axes := [(0, { fallDue := some fall0 })], nextTick := 40000 });
      s.dev.tickStart ≤ fall0.at_ ∧ s.when_ 39999 < s.dev.nextTick ∧ s.dev.nextTick ≤ s.when_ 40000) ∧
    ((w []).dev.ax 0).fallDue = none := by decide +kernel
theorem test_brake_end_and_curve_cases :
    (let s := w [(axbState 0, 4), (obsPurpose 0, 3), (fbStill 0, 1)];
      s.dev.st 0 = 4 ∧ (s.dev.ax 0).brakeWait = false ∧ (s.dev.ax 0).nextState = none ∧ (s.dev.ax 0).brakeDone = none ∧ s.dev.brakeStill 0 = true ∧
      s.dev.rd (obsPurpose 0) = 3 ∧ (s.dev.ax 0).phaseAt + ms (s.dev.rd (obsBrakeTmax 0)) ≤ s.when_ (2 ^ 40)) ∧
    (w []).dev.rd (obsPurpose 0) = 0 ∧ (w []).dev.st 0 ≠ 4 ∧
    (let s := w [(axbState 0, 4), (obsPurpose 0, 1)]; s.dev.rd (obsPurpose 0) = 1 ∧ (s.dev.ax 0).phaseAt + ms (s.dev.rd (obsStillBrkT 0)) ≤ s.when_ (2 ^ 40)) ∧
    (let s := w [(axbState 0, 4), (obsPurpose 0, 3)] (fun d => { d with axes := [(0, { brakeDone := some 0 })] });
      (s.dev.ax 0).brakeDone = some 0 ∧ 0 + ms (s.dev.rd (obsBrakeHold 0)) ≤ s.when_ (2 ^ 40)) ∧
    (let s := w [(axbMode 0, 0), (crvSrc 0, 1)] (fun d => { d with profs := [(0, { staleRun := 250 })] });
      s.dev.mode 0 = 0 ∧ s.dev.rd (crvStale 0) = 0 ∧ s.dev.rd (crvStaleT 0) ≤ (s.dev.prof 0).staleRun ∧ s.dev.rd (crvSrc 0) = 1) ∧
    ((w [] (fun d => { d with axes := [(0, { nextState := some (1, 0, 0) })] })).dev.ax 0).nextState ≠ none ∧
    (w []).opens .mer (.crv 0) 0x064 0 ∧ (w []).dev.mode 0 ≠ 0 ∧ (w [(crvSrc 0, 0)]).dev.rd (crvSrc 0) ≠ 1 := by
  unfold State.opens
  decide +kernel

/-! ### Event ports, pins, programs, memory, streams -/

theorem evp_streams (fs : List (Fld × Nat)) (e : EventPort) (h : e.stream = none) (j : Nat) :
    ((w fs (fun d => { d with evps := [(0, e)] })).dev.evp j).stream = none := by
  show ((tabGet [(0, e)] j).getD {}).stream = none
  unfold tabGet
  split
  · exact h
  · rfl

/-- A list entry at count 16 for the direction up. -/
def ret0 : RetEntry := { pos := 16, width := 0, mask := 1, dir := 0, odd := false, last := true, event := true, tag := 3 }

theorem test_event_port_cases : (∀ n, ((w []).dev.prof n).stream = none) ∧ (∀ j, ((w []).dev.evp j).stream = none) ∧
    ((w []).dev.evp 0).cmd = none ∧ (w []).dev.reaches .mer = true ∧
    ((w [] (fun d => { d with evps := [(0, { cmd := some (cmd0 1) })] })).dev.evp 0).cmd ≠ none ∧ (w []).dev.rd (evpRetState 0) ≠ retPlaying ∧
    (w []).dev.ownsList 0 = false ∧ (w [(evpSrcStale 0, 1)]).dev.rd (evpSrcStale 0) ≠ 0 ∧ (w []).dev.rd (evpRetSrc 0) = 0 ∧
    (w []).dev.rd (evpMode 0) ≠ 2 ∧ ((w []).dev.evp 0).emuRuns = [] ∧ (w []).dev.rd (evpMode 0) ≠ 4 ∧ (w []).dev.rd (evpMode 0) ≠ 5 :=
  ⟨fun _ => rfl, fun _ => rfl, by decide +kernel⟩
theorem test_no_consumer_case (fs : List (Fld × Nat)) (e : EventPort) (h : e.stream = none) :
    (w fs (fun d => { d with evps := [(0, e)] })).dev.noConsumer := by
  unfold Dev.noConsumer
  exact ⟨fun _ => rfl, fun j => evp_streams fs e h j⟩
theorem test_network_sample_case : (w []).opens .mer (.evp 0) 0x0A0 0 ∧ (w [(timeState, 2)]).dev.rd timeState = 2 ∧ (w []).dev.rd timeState ≠ 2 := by
  unfold State.opens
  decide +kernel
theorem test_predicted_fire_case :
    (let s := w [(evpMode 0, 1), (evpRetList 0, 1), (evpRetSrc 0, 1), (evpRetState 0, 2), (timeState, 2)] (fun d =>
          { d with evps := [(0, { buf := [ret0], sample := some (0, 16, 0) })] });
      s.dev.ownsList 0 = true ∧ s.dev.rd (evpRetSrc 0) ≠ 0 ∧ s.dev.rd (evpRetState 0) = retPlaying ∧ (s.dev.evp 0).buf = [ret0] ∧ 0 ∈ bitList 12 ret0.mask ∧
      s.dev.rd (evpMode 0) = 1 ∧ (s.dev.predicted 0 ret0).isSome = true ∧ (s.dev.evp 0).headAt ≤ (s.dev.predicted 0 ret0).getD 0 ∧
      (s.dev.evp 0).freshAt ≤ (s.dev.predicted 0 ret0).getD 0 ∧
      (s.dev.predicted 0 ret0).getD 0 < 4 * s.when_ ((s.dev.predicted 0 ret0).getD 0 / 4) + 4) ∧
    (w [] (fun d => { d with evps := [(0, { buf := [ret0] })] })).dev.predicted 0 ret0 = none ∧ ret0.event = true ∧ ret0.last = true := by
  decide +kernel
/-- Two steps downwards that are due at time 0. -/
def emu0 : EmuRun := { up := false, total := 2, left := 2, at_ := 0, span := 0 }
theorem test_event_port_edge_cases :
    (let s := w [(evpMode 0, 2), (evpRetSrc 0, 1)] (fun d => { d with evps := [(0, { noSample := 2, emuRuns := [emu0] })] });
      s.dev.rd (evpSrcStale 0) = 0 ∧ s.dev.rd (evpRetSrc 0) ≠ 0 ∧ s.dev.rd (evpNetHold 0) ≤ (s.dev.evp 0).noSample ∧ s.dev.rd (evpMode 0) = 2 ∧
      (s.dev.evp 0).emuRuns = [emu0] ∧ emu0.due (4 * s.when_ 0) ≠ 0 ∧ s.dev.emuSpaced 0 (4 * s.when_ 0) = true) ∧
    (w [(evpMode 0, 1)] (fun d => { d with evps := [(0, { emuRuns := [emu0] })] })).dev.rd (evpMode 0) ≠ 2 ∧
    ({ emu0 with at_ := 4 } : EmuRun).due 0 = 0 ∧
    (w [(evpMode 0, 2)] (fun d => { d with evps := [(0, { emuRuns := [emu0], emuAt := some 0 })] })).dev.emuSpaced 0 0 = false ∧
    (let s := w [(evpMode 0, 4), (evpLatArm 0, 1)];
      s.dev.rd (evpMode 0) = 4 ∧ bitAt (s.dev.rd (evpLatEdge 0)) 0 = true ∧ s.dev.rd (evpLatWinEn 0) = 0 ∧ s.dev.rd (evpLatArm 0) = 1 ∧
      s.dev.rd (evpLatCont 0) = 0) ∧
    (let s := w [(evpMode 0, 5)] (fun d => { d with evps := [(0, { opened := some 0 })] });
      s.dev.rd (evpMode 0) = 5 ∧ s.dev.rd (evpPwPol 0) = 0 ∧ (s.dev.evp 0).opened = some 0) := by decide +kernel
theorem test_gpio_case : (let s := w [(gpioRise, 2 ^ 31)]; bitAt s.dev.pins.gpio 31 = false ∧ bitAt (s.dev.rd gpioDirAct) 31 = false ∧
    bitAt (s.dev.rd gpioRise) 31 = true) := by decide +kernel
/-- A removal from slot 3. -/
def inst0 : Install := { slot := 3, action := 3, keep := false, stock := 0, code := [], base := 0, src := 0, master := 0, judgedAt := none }
theorem test_program_cases :
    (let s := w [] (fun d => { d with installs := [(0, inst0)] });
      (s.dev.install 0).isSome = true ∧ s.dev.install 0 = some inst0 ∧ inst0.action ≠ 1 ∧ inst0.judgedAt = none ∧
      (((s.dev.at_ 0).modSlot 0 3 (fun x => newSlot x inst0)).firstCounted (s.dev.at_ 0) 0 3).firstBar [laneOf 0 3] = none) ∧
    (w []).dev.reaches .mer = true ∧ (∃ j ∈ bitList 4 1, ((w []).dev.slot 0 j).id ≠ 0x8000) ∧ (∀ j ∈ bitList 4 1, ((w []).dev.slot 0 j).id ≠ 0x8000) ∧
    (w []).dev.install 0 = none ∧ (w [(axbState 0, 2)]).dev.slotOpen 0 0 = false ∧ (w []).dev.slotOpen 0 0 = true ∧ (2 : Nat) ≠ 3 ∧
    (let s := w [(prgInstLen 0, 1), (bnkOwner 0, 1), (bnkPstate 0, 0)];
      s.dev.sourceOk Req.mer.master (4 * s.dev.rd (prgInstSrc 0)) (s.dev.rd (prgInstLen 0)) = true) := by decide +kernel
theorem test_program_word_cases :
    (let s := w [(prgWinSlot 0, 3)] (fun d => { d with expert := [(.mer, .prg 0, 0)], slots := [((0, 3), { id := 0x8000 }), ((0, 0), { id := 0x8000 })] });
      s.opens .mer (.prg 0) (0x800 + 4 * 255) 0 ∧ s.dev.expertOpen .mer (.prg 0) = true ∧
      s.dev.rd (prgWinSlot 0) = 3 ∧ (s.dev.slot 0 3).id = 0x8000 ∧ s.dev.rd (prgRegion 0) = 0 ∧ s.dev.loopOpen 0 = true ∧
      bitList 4 9 ≠ [] ∧ (∀ j ∈ bitList 4 9, (s.dev.slot 0 j).id = 0x8000)) ∧
    (let s := w [(prgWinSlot 0, 3), (axbState 0, 2)] (fun d => { d with slots := [((0, 3), { id := 0x8000 })] });
      s.dev.rd (prgWinSlot 0) = 3 ∧ (s.dev.slot 0 3).id = 0x8000 ∧ s.dev.rd (prgRegion 0) = 0 ∧ s.dev.loopOpen 0 = false) ∧
    (w []).dev.rd (cluScrubEn 0) ≠ 0 ∧ (w [(cluScrubEn 0, 0)]).dev.rd (cluScrubEn 0) = 0 := by
  unfold State.opens
  decide +kernel
/-- An access of a master to the word at address 0x3FFFFC. -/
def acc (m : Nat) (write : Bool) (v : Nat) : PortAccess := { m := m, write := write, a := 0x3FFFFC, n := 4, v := v, wait := 0, upset := none }
/-- A handover to owner 3, written at time 0 and judged 250 times. -/
def ho0 : HoReq := { owner := 3, readers := 1, force := false, at_ := 0, src := 0, judged := 250 }
/-- A power request written at time 0. -/
def pwr0 (new old : Nat) : PwrReq := { new := new, old := old, at_ := 0, src := 0 }
theorem test_memory_access_cases : Memory.wf (w []).mem = true ∧ 0x3FFFFC % 4 = 0 ∧ 0x3FFFFC + 4 ≤ memSize ∧
    (let s := w [(bnkOwner 31, 2), (bnkReaders 31, 256), (bnkPstate 31, 0)] (fun d => { d with now := 5 });
      s.dev.bankBar (bankOf 0x3FFFFC) 2 true = none ∧ s.dev.bankBar (bankOf 0x3FFFFC) 2 false = none ∧ (s.dev.mbank (bankOf 0x3FFFFC)).bad = [] ∧
      s.dev.bankBar (bankOf 0x3FFFFC) 15 true = some 1 ∧ (s.dev.mbank (bankOf 0x3FFFFC)).grants = [] ∧
      s.dev.bankBar (bankOf 0x3FFFFC) 8 false = none) ∧ (w []).dev.bankBar 0 0 true = some 2 ∧
    (4 ≤ (acc 4 true 0).m ∧ ({ acc 4 true 0 with n := 2 } : PortAccess).n ≠ 4 ∧ (acc 4 true 0).a + 4 ≤ memSize) := by decide +kernel
theorem test_arbitration_cases :
    (let s := w [(bnkOwner 31, 2), (bnkReaders 31, 256), (bnkPstate 31, 0)];
      portB 2 = portB 3 ∧ rankOf 2 < rankOf 3 ∧ s.dev.bankBar 31 2 true = none ∧ s.dev.bankBar 31 3 true = some 1 ∧
      s.dev.bankBar 31 8 false = none ∧ portB 2 = false ∧ portB 8 = true ∧ s.dev.rd bnkInjEn = 0) ∧
    (let s := w [(bnkOwner 31, 8), (bnkReaders 31, 4), (bnkPstate 31, 0)];
      s.dev.bankBar 31 8 true = none ∧ s.dev.bankBar 31 2 false = none ∧ portB 8 = true ∧ portB 2 = false) := by decide +kernel
theorem test_handover_and_power_cases :
    (let s := w [(bnkPstate 0, 0)] (fun d => { d with tickStart := 100, banks := [(0, { ho := some ho0, pwr := some (pwr0 2 0) })] });
      s.dev.rd (bnkPstate 0) ≠ 5 ∧ (s.dev.mbank 0).ho = some ho0 ∧ (s.dev.mbank 0).ho.isSome = true ∧ s.dev.judgedNow ho0.at_ (s.when_ 120) = true ∧
      s.dev.judgedNow ho0.at_ (s.when_ 121) = false ∧ (s.dev.at_ 120).quiet 0 = true ∧
      s.dev.frameReserved 0 = false ∧ ho0.force = false ∧ s.dev.rd bnkHoTmax ≤ ho0.judged ∧
      (s.dev.mbank 0).pwr = some (pwr0 2 0) ∧ s.dev.judgedNow (pwr0 2 0).at_ (s.when_ 100) = true ∧ 4 ≤ s.dev.stepsDone) ∧
    (let s := w [(bnkPstate 0, 4)] (fun d => { d with banks := [(0, { pwr := some (pwr0 0 1) })] });
      (s.dev.mbank 0).pwr = some (pwr0 0 1) ∧ s.dev.rd (bnkPstate 0) ≠ 1) ∧
    ((w []).dev.mbank 30).ho = none ∧ ((w []).dev.owner 30 ≠ 1 ∨ Req.mer = .mer) ∧ (w [(bnkOwner 30, 4)]).dev.owner 30 < 5 ∧
    (w [(bnkOwner 30, 1)]).dev.owner 30 = 1 ∧ (w []).dev.reaches .host = true ∧
    (w []).dev.rd (bnkPstate 30) ≠ 5 ∧ ((w []).dev.mbank 30).pwr = none ∧ (w []).dev.rd (bnkPstate 0) = 3 := by decide +kernel
theorem test_sweep_cases :
    (let s := w [(bnkPstate 0, 0), (bnkSweepBlock 0, 510)]; s.dev.rd bnkModeSweepEn ≠ 0 ∧ s.dev.rd (bnkSweepBank 0) / 16 = 0 ∧
      s.dev.sweepable (s.dev.rd (bnkSweepBank 0)) = true ∧ s.dev.rd (bnkSweepBlock 0) + 1 < 512 ∧
      (s.dev.mbank (s.dev.rd (bnkSweepBank 0))).spares.findIdx? Option.isNone = some 0) ∧
    (let s := w [(bnkPstate 0, 0)] (fun d => { d with banks := [(0, { spares := [some (1, true), some (2, true), some (3, true), some (4, true)] })] });
      ∀ x ∈ (s.dev.mbank (s.dev.rd (bnkSweepBank 0))).spares, x.isSome = true) ∧
    (w [(bnkModeSweepEn, 0)]).dev.rd bnkModeSweepEn = 0 := by decide +kernel
/-- A transfer of 40 bits into bank 0. -/
def sw0 : Transfer :=
  { len := 40, buf := 8, dir := 2, cs0 := false, watch := true, watchPin := 0, watchHigh := false, master := 0, perCycle := 1, div := 1, setup := 0 }
/-- Port 0 serves, and what it has to do. -/
def smp0 (x : SerialPort) (fs : List (Fld × Nat) := []) : State := w ((smpEn 0, 1) :: fs) (fun d => { d with pins := { vddsm := true }, smps := [(0, x)] })
theorem test_serial_transfer_cases :
    (let s := smp0 {} [(smpSwLen 0, 16384), (smpSwDir 0, 1), (bnkOwner 0, 1)];
      (s.dev.smpOf 0).sw = none ∧ s.dev.serves 0 = true ∧ 0 < s.dev.rd (smpSwLen 0) ∧ s.dev.rd (smpSwLen 0) ≤ 16384 ∧ s.dev.rd (smpSwDir 0) < 3 ∧
      s.dev.rd (smpSwDir 0) ≠ 0 ∧ s.dev.owner (4 * s.dev.rd (smpSwBuf 0) / bankSize) = Req.mer.master ∧
      4 * s.dev.rd (smpSwBuf 0) / bankSize = (4 * s.dev.rd (smpSwBuf 0) + 4 * ((s.dev.rd (smpSwLen 0) + 31) / 32) - 1) / bankSize) ∧
    (w []).dev.serves 0 = false ∧
    (let s := smp0 { sw := some sw0 };
      (s.dev.smpOf 0).sw.isSome = true ∧ (s.dev.at_ 0).transferOn 0 = some { sw0 with since := some 0 } ∧ sw0.watch = true ∧
      s.dev.gpioPin sw0.watchPin = sw0.watchHigh ∧ 39 < sw0.len) ∧ ((w []).dev.at_ 0).transferOn 0 = none := by decide +kernel
theorem test_window_cases : inWindow 0x40000000 = true ∧ inWindow 0x3FFFFFFF = false ∧
    (let s := smp0 {}; ((s.dev.at_ 0).windowHit 0x40000000 4).isNone = true ∧ portOf (s.dev.windowExt 0x40000000) = 0 ∧ s.dev.serves 0 = true ∧
      s.dev.extOk ((s.dev.at_ 0).missedLine 0x40000000 4) 32 = true ∧ ((s.dev.at_ 0).smpOf 0).cur = none ∧ s.dev.rd (smpHwMode 0) ≠ 0) ∧
    (smp0 {} [(smpHwMode 0, 0)]).dev.rd (smpHwMode 0) = 0 ∧ ((w []).dev.serves 0 = false) ∧
    (let s := smp0 { sw := some sw0 }; ((s.dev.at_ 0).smpOf 0).cur = some .transfer ∧ PortItem.transfer ≠ .fetch ((s.dev.at_ 0).missedLine 0x40000000 4)) ∧
    (let s := smp0 { lines := [(0, [1, 2, 3, 4, 5, 6, 7, 8])] }; ((s.dev.at_ 0).windowHit 0x40000000 4).isSome = true) := by decide +kernel
theorem test_code_fetch_cases :
    (let s := smp0 {} [(devAlmReady, 1), (almStopped, 0), (almRunning, 1)]; s.dev.almRuns = true ∧ (s.dev.alm.cache.any (fun l => l.1 == 0)) = false ∧
      portOf 0 = 0 ∧ s.dev.extOk 0 64 = true ∧ ((s.dev.at_ 0).smpOf 0).cur = none) ∧ (w []).dev.almRuns = false ∧
    (w [] (fun d => { d with alm := { d.alm with cache := [(0, [])] } })).dev.alm.cache.any (fun l => l.1 == 0 / 64 * 64) = true := by decide +kernel
theorem test_stream_cases : (∀ n, ((w []).dev.prof n).stream = none) ∧ (∀ j, ((w []).dev.evp j).stream = none) ∧
    (let s := w [] (fun d => { d with streams := [(0, { src := 1, kind := 1, ring := 8 }), (1, { isOpen := true, kind := 3, stopped := true, flush := 25, expAge := some 25, expWords := [1], expDue := true })] });
      s.dev.rd pgrSel = 0 ∧ s.dev.reaches .mer = true ∧ s.opens .mer .pgr 0x078 0 ∧ (s.dev.stream 0).isOpen = false ∧ (s.dev.stream 0).kind ≠ 0 ∧
      s.dev.openRange (s.dev.stream 0) = false ∧
      (s.dev.stream 0).need ≤ s.dev.freeFrames.length ∧ (s.dev.stream 1).isOpen = true ∧ (s.dev.stream 1).consumer = none ∧
      (s.dev.stream 1).stopped = true ∧ (s.dev.stream 1).expAge = some 25 ∧ (s.dev.stream 1).flush ≤ 25 ∧ (s.dev.stream 1).expWords ≠ []) ∧
    (w [] (fun d => { d with streams := [(1, { isOpen := true, kind := 1, consumer := some 3 })] })).dev.stream 1 ≠ {} ∧
    ((w []).dev.stream 0).stopped = false ∧ ((w []).dev.stream 0).expAge = none ∧ ((w []).dev.stream 0).exportWords = 0 ∧
    ((w []).dev.stream 0).wantsPage = false :=
  ⟨fun _ => rfl, fun _ => rfl, by
    unfold State.opens
    decide +kernel⟩
/-- Port 0 with stream 0 as its only work. -/
def streamed (x : Stream) : State := w [(smpEn 0, 1), (smpHwWrite 0, 1)] (fun d => { d with pins := { vddsm := true }, streams := [(0, x)] })
theorem test_page_arrives_case :
    (let s := streamed { isOpen := true, kind := 1, check := 0, len := 100, frames := [0, 1] };
      (s.dev.stream 0).wantsPage = true ∧ portOf ((s.dev.stream 0).base + 4096 * (s.dev.stream 0).page) = 0 ∧ s.dev.serves 0 = true ∧
      s.dev.extOk ((s.dev.stream 0).base + 4096 * (s.dev.stream 0).page) 4096 = true ∧ ((s.dev.at_ 0).smpOf 0).cur = some (.page 0) ∧
      (s.dev.stream 0).fillFrame < 1024 ∧
      pageGood (s.dev.stream 0).check ((List.range 1024).map (fun i => ([] : List Nat).getD i 0 % 2 ^ 32)) = true) := by decide +kernel
theorem test_export_write_case :
    (let s := streamed { isOpen := true, kind := 3, expWords := [1, 2, 3, 4], expDue := true }; let x := s.dev.stream 0;
      x.exportWords ≠ 0 ∧ s.dev.serves (portOf x.exportAddr) = true ∧ s.dev.extOk x.exportAddr (4 * x.exportWords) = true ∧
      ((s.dev.at_ 0).smpOf (portOf x.exportAddr)).cur = some (.export_ 0)) := by decide +kernel

/-! ### The network -/

theorem test_link_cases : (let s := w []; s.dev.rd (lnkState 0) = 0 ∧ s.dev.rd (lnkEn 0) ≠ 0 ∧ s.dev.rd (lnkState 0) ≠ 1) ∧
    (w [(lnkEn 0, 0)]).dev.rd (lnkEn 0) = 0 ∧ (w [(lnkState 0, 1)]).dev.rd (lnkState 0) = 1 ∧ (w [(lnkState 0, 1)]).dev.rd (lnkState 0) ≠ 0 ∧
    (w []).dev.rd (lnkDownCount 0) + 1 < 2 ^ (lnkDownCount 0).w := by decide +kernel
/-- A member that missed eight cycles. -/
def mem7 : Member := { stn := 7, pos := 1, miss := 8 }
theorem test_segment_cases :
    (let s := w [(netState, 4)];
      s.dev.rd netState = 4 ∧ s.dev.rd netMissN ≤ s.dev.missedCycles (s.when_ 320000) ∧ s.dev.isActive 0x6D02 0 = false ∧
      256 ≤ s.dev.missedCycles (s.when_ 10240000) ∧ s.dev.rd netHeadSide = 0 ∧ s.dev.reaches .mer = true) ∧
    (let s := w [(netState, 5), (netHeadSide, 1), (netRing, 1)] (fun d => { d with net := { d.net with members := [mem7] } });
      s.dev.rd netHeadSide ≠ 0 ∧ s.dev.rd netEnumBusy = 0 ∧ s.dev.rd netRing ≠ 0 ∧ s.dev.rd netFolded = 0 ∧ mem7 ∈ s.dev.net.members ∧
      mem7.miss ≠ 0 ∧ mem7.stn = 7 ∧ s.dev.rd netMissN ≤ mem7.miss ∧ s.dev.rd netState = 5 ∧ (∀ x ∈ s.dev.net.members, x.stn ≠ 8) ∧
      s.dev.rd (lnkStandbyRx (mate s.dev.lineX)) = 0 ∧ s.dev.linkUp s.dev.lineX = false) ∧
    (let s := w [(netState, 5), (netHeadSide, 1), (netRing, 1), (lnkRole 0, 3), (lnkState 0, 2), (lnkStandbyRx 1, 1)];
      (∀ x ∈ s.dev.net.members, x.miss = 0) ∧ s.dev.rd (lnkStandbyRx (mate s.dev.lineX)) ≠ 0 ∧ s.dev.linkUp s.dev.lineX = true) ∧
    (let s := w [(netHeadSide, 1), (netFolded, 1)] (fun d => { d with net := { d.net with restoredRun := 16 } });
      s.dev.rd netFolded ≠ 0 ∧ s.dev.net.unfoldIn = none ∧ s.dev.rd netCfgAutoUnfold ≠ 0 ∧ 16 ≤ s.dev.net.restoredRun) ∧
    (w [(netState, 3)]).dev.rd netState = 3 ∧ (w [(netState, 2)]).dev.rd netState < 3 ∧
    (let s := w [(netState, 1), (devReady, 1), (timeState, 2)] (fun d => { d with net := { d.net with good := 8 } });
      s.dev.rd netState = 1 ∧ s.dev.rd devReady ≠ 0 ∧ 8 ≤ s.dev.net.good ∧ s.dev.rd timeState = 2 ∧
      s.dev.awaiting (netAddress s.dev.net.seg 0) 4 = false ∧ s.dev.rd (lnkEn (s.dev.originLink false)) ≠ 0) ∧
    (let s := w [(netState, 3)]; s.dev.net.grant = none ∧ s.dev.net.joinAt + s.dev.retxSpan ≤ s.when_ 1000000) := by decide +kernel
theorem test_pennant_cases :
    (let s := w [(netHeadSide, 1), (netEnumBusy, 0), (lnkRole 0, 3)];
      s.dev.rd netHeadSide ≠ 0 ∧ s.dev.rd netEnumBusy = 0 ∧ s.dev.net.sentAt ≠ some s.dev.tickStart ∧
      s.dev.tickStart + 5 * s.dev.rd netSendOfs ≤ s.when_ 500 ∧ s.dev.tickIndex s.dev.tickStart % (ncycTicks (s.dev.rd netNcyc) : Nat) = 0 ∧
      s.dev.net.unfoldIn ≠ some 0 ∧ s.dev.lineLink false = some 0 ∧ s.dev.rd (lnkEn 0) ≠ 0 ∧
      s.dev.headLink 0 = true ∧ pwFlag [0] 4 = false) ∧ (w []).dev.headLink 0 = false ∧
    (let s := w [(netState, 1)]; s.dev.rd devReady = 0 ∧ s.dev.rd netHeadSide = 0 ∧ s.dev.net.last = none ∧
      s.dev.rd (lnkEn (if s.dev.turns 0 then 0 else mate 0)) ≠ 0) ∧
    (w [] (fun d => { d with net := { d.net with sentAt := some 0 } })).dev.net.sentAt = some (w []).dev.tickStart ∧
    (pn 0 [1]).q = 0 ∧ (pn 2 [1]).q = 2 ∧
    (let s := w [(netHeadSide, 1), (netEnumBusy, 1)] (fun d => { d with net := { d.net with enumK := 7, entries := [] } });
      s.dev.rd netEnumBusy ≠ 0 ∧ 1 < s.dev.net.enumK ∧ s.dev.net.enumK < 8 ∧ enumNames (returnedEntries [0]) = enumNames s.dev.net.entries) ∧
    (w [(netState, 4)]).dev.rd netState = 4 ∧ pwEnum [0, 0, 0, 0, 0, 0, 0, 254 * 2 ^ 24] ≤ 254 := by decide +kernel
theorem test_no_map_entry_case : ∀ i, (w []).dev.rd (netMapEn i) = 0 := fun _ => rfl
/-- An announced period of 8,000 cycles. -/
def ann0 (c : Bool) : Announce := { period := 8000, time := 0, confirm := c, acked := c }
theorem test_announcement_cases :
    (let s := w [] (fun d => { d with net := { d.net with headAnn := some (ann0 false), members := [{ stn := 1, pos := 1, word := 2 ^ 31 + 2 ^ 30 }] } });
      s.dev.net.headAnn = some (ann0 false) ∧ (ann0 false).confirm = false ∧
      ((ann0 false).time : Int) - (2 * ncycTicks (s.dev.rd netNcyc) * s.dev.tickNs : Nat) ≤ s.dev.sysTime (s.when_ 0) ∧
      ∀ x ∈ s.dev.net.members, bitAt x.word 31 = true ∧ bitAt x.word 30 = true) ∧ bitAt mem7.word 30 = false ∧
    (w []).dev.net.headAnn = none ∧ (w []).dev.net.ann = none ∧
    (let s := w [] (fun d => { d with net := { d.net with headAnn := some (ann0 true) } });
      (ann0 true).confirm = true ∧ ((ann0 true).time : Int) ≤ s.dev.sysTime s.dev.tickStart ∧ s.dev.sysTime s.dev.tickStart < ((ann0 true).time : Int) + 5 ∧
      s.dev.net.ann = none ∧ s.dev.periodBar 8000 true = 0 ∧ s.dev.periodBar 0 true ≠ 0) ∧
    (let s := w [(netCfgRole, 0)] (fun d => { d with net := { d.net with ann := some (ann0 true) } });
      s.dev.net.ann = some (ann0 true) ∧ (ann0 true).acked = true ∧ s.dev.rd netCfgRole ≠ 1 ∧ (ann0 false).acked = false) := by
  decide +kernel
/-- A context of the source of `hd` on a channel. -/
def ctx5 (chan : Nat) : NetCtx := { src := 5, chan := chan, seq := 3, ack := some { result := 0, data := [] }, used := 0 }
/-- A member of a segment with address 7. -/
def member : List (Fld × Nat) := [(netState, 4), (netAddrValid, 1), (netAddr, 7)]
theorem test_dispatch_order_cases : ({ hd 7 0 [] with fcs := 0 } : DispHdr).q false 0 0 [] = 2 ∧ (w []).dev.addressed 0 7 = false ∧
    (let s := w member; s.dev.addressed 0 7 = true ∧ s.dev.executes 0 = true ∧ (hd 7 0 []).bcast = false ∧ (hd 7 0 []).q false 0 0 [] = 0 ∧
      s.dev.comesBack (hd 7 0 []) false 0 = false ∧ s.dev.ctx (hd 7 0 []).key 0 = none ∧ (hd 7 0 [] false).sync = false ∧ (hd 7 0 []).sync = true) ∧
    ((w []).dev.route 0 7 ≠ 3 ∨ (hd 7 0 []).bcast = true) ∧
    256 ≤ ((w [] (fun d => { d with net := { d.net with ctxs := List.replicate 256 (ctx5 1) } })).dev.dropExpired 0).ctxUsed ∧
    (w [] (fun d => { d with net := { d.net with ctxs := List.replicate 256 (ctx5 1) } })).dev.ctx 5 0 = none ∧
    (let s := w member (fun d => { d with net := { d.net with ctxs := [ctx5 0] } });
      s.dev.ctx (hd 7 0 []).key 0 = some (ctx5 0) ∧ s.when_ 0 < (ctx5 0).used + s.dev.rd netCtxHold * 1000000 ∧ (ctx5 0).seq ≠ (hd 7 0 [] false 5).seq ∧
      (hd 7 0 [] false 5).seq ≠ ((ctx5 0).seq + 1) % 65536 ∧ (ctx5 0).seq = (hd 7 0 [] false 3).seq ∧ (ctx5 0).ack = some { result := 0, data := [] }) := by
  decide +kernel
theorem test_executed_dispatch_cases :
    (w member).dev.accepts (hd 7 0 [0x40000000]) 0 [0x40000000] ∧ (hd 7 0 [0x40000000]).len = 4 * [0x40000000].length ∧ accessValid [0x40000000] = true ∧
    (w member).dev.accepts (hd 7 1 [1, 4 * 8, 0]) 1 [1, 4 * 8, 0] ∧ (hd 7 1 [1, 4 * 8, 0]).len = 12 ∧ 1 % 256 = 1 := by
  unfold Dev.accepts
  decide +kernel
theorem test_executed_dispatch_more_cases :
    (let ws := [0, 0, 0x80000000, 0]; (w member).dev.accepts (hd 7 2 ws) 2 ws ∧ (hd 7 2 ws).len = 4 * (2 + 2) ∧ groupsValid 2 [0x80000000, 0] = true) ∧
    (w ((timeState, 2) :: member)).dev.rd timeState = 2 ∧ (w member).dev.net.timed.length < 8 ∧
    (w member).dev.accepts (hd 7 3 [0, 15]) 3 [0, 15] ∧ (hd 7 3 [0, 15]).len = 8 ∧ 0 < 15 ∧ 15 ≤ 15 ∧ (fetchRange ((w member).dev.rd chronWr) 0 15).2 = 0 ∧
    (w []).dev.net.timed = [] ∧ (w member).dev.headLink 0 = false := by
  unfold Dev.accepts
  decide +kernel
theorem test_executed_dispatch_segment_cases :
    (let s := w [(netHeadSide, 1), (netState, 5), (lnkRole 0, 3)]; s.dev.accepts (hd 0 4 (joinWords 9 1)) 4 (joinWords 9 1) ∧ s.dev.headLink 0 = true ∧
      s.dev.awaiting (netAddress (s.dev.rd netSeg) 255) 4 = false ∧ s.dev.rd (lnkEn (s.dev.originLink true)) ≠ 0) ∧
    (w member).dev.accepts (hd 7 4 (sliceWords {} 3)) 4 (sliceWords {} 3) ∧ (w member).dev.accepts (hd 7 4 (noticeWords 9 true)) 4 (noticeWords 9 true) ∧
    (w ((devAlmReady, 1) :: member)).dev.accepts (hd 7 8 []) 8 [] ∧
    (w ((devAlmReady, 1) :: member)).dev.rd devAlmReady ≠ 0 ∧ (w member).dev.net.alm.length < 32 := by
  unfold Dev.accepts
  decide +kernel
/-- A timed dispatch received at time 0 for time 0. -/
def timed0 : Timed := { req := .net 0 5, src := 5, seq := 0, bcast := false, exec := 0, groups := [0x80000000, 0], at_ := 0 }
theorem test_timed_dispatch_cases :
    (let s := w [] (fun d => { d with nextTick := 250, net := { d.net with timed := [timed0] } });
      s.dev.net.timed = [timed0] ∧ timed0.bcast = false ∧ s.dev.timedDue timed0 (s.when_ 100) = true ∧
      (∀ x ∈ s.dev.net.timed, s.dev.timedDue x (s.when_ 99) = false)) := by decide +kernel
theorem test_grant_cases :
    (let s := w [(netState, 3), (devSerial, 9)]; let ws := grantWords 9 1 {} 0; let h := sealed { hd 255 4 ws with src := 0 } 4 ws;
      h.q false 4 0 ws = 0 ∧ s.dev.comesBack h false 4 = false ∧ s.dev.addressed h.link.val h.dst = true ∧ h.bcast = true ∧ stnOf h.src = 0 ∧
      (∀ b ∈ s.dev.net.bcast, b ≠ (h.key, h.seq)) ∧ s.dev.rd netState = 3 ∧ 9 = s.dev.rd devSerial) := by decide +kernel
/-- A dispatch to address 7 on channel 0 that was repeated some times. -/
def out7 (tries : Nat) : OutDisp :=
  { dst := 7, chan := 0, seq := 1, sync := true, src := 0, unaddr := false, words := [], link := 0, tries := tries, at_ := 0 }
theorem test_sent_dispatch_cases :
    (let s := w [] (fun d => { d with net := { d.net with out := [out7 4], alm := [{ link := 0, src := 5, chan := 8, seq := 0, words := [] }] } });
      s.dev.net.out = [out7 4] ∧ stnOf (out7 4).dst ≠ 255 ∧ (out7 4).at_ + s.dev.rd netRetxT * 1000 ≤ s.when_ 200000 ∧
      s.dev.rd netRetxN ≤ (out7 4).tries ∧ (out7 3).tries < s.dev.rd netRetxN ∧ (∃ x ∈ s.dev.net.alm, x.src = 5 ∧ x.chan = 8) ∧
      (∀ x ∈ s.dev.linksTo (s.dev.headLink (out7 4).link) (out7 4).dst, s.dev.rd (lnkEn x) ≠ 0)) ∧
    (w []).dev.net.out = [] ∧ (∀ x ∈ (w []).dev.net.alm, ¬ (x.src = 5 ∧ x.chan = 8)) ∧ 5 ≤ 7 ∧ 7 < 8 := by decide +kernel
theorem test_acknowledge_cases :
    (let h := sealed { hd 7 0 [] with src := 7, seq := 1 } 0 [] true;
      let s := w member (fun d => { d with net := { d.net with out := [out7 0], waiting := [{ head := false, unaddr := false, dst := 7, chan := 0, words := [3] }] } });
      h.q true 0 0 [] = 0 ∧ s.dev.comesBack h true 0 = false ∧ s.dev.ackHere h.link.val h.dst = true ∧ (out7 0).dst = h.src ∧ (out7 0).chan = 0 ∧
      (out7 0).seq = h.seq ∧ (takeFirst (fun w => w.dst == 7 && w.chan == 0) s.dev.net.waiting).isSome = true ∧ (out7 0).seq ≠ (hd 7 0 []).seq) ∧
    (w member).dev.net.waiting = [] := by decide +kernel
theorem test_forward_cases :
    (let h := sealed { hd 0x700 0 [] with ttl := 2 } 0 []; let s := w [(netHeadSide, 1), (netCfgPair, 1), (netRouteHi, 7), (lnkRole 2, 3)];
      h.q false 0 0 [] = 0 ∧ s.dev.comesBack h false 0 = false ∧ s.dev.route h.link.val h.dst = 1 ∧ 0 < h.ttl ∧
      (∀ x ∈ s.dev.linksTo true h.dst, s.dev.rd (lnkEn x) ≠ 0)) ∧ (w [(netState, 1), (lnkRole 0, 1), (lnkRole 1, 2)]).dev.rd (lnkEn 1) ≠ 0 ∧
    ((w [(netState, 1), (lnkRole 0, 1), (lnkRole 1, 2), (lnkState 0, 2), (lnkState 1, 2)]).dev.onward 0).isSome = true ∧
    (w []).dev.rd netDispTtl + 1 < 2 ^ (netDispTtl).w := by decide +kernel

/-! ### Faults, firmware, host port, store -/

theorem test_fault_cases : (w []).dev.clearReq = none ∧
    (w [] (fun d => { d with clearReq := some { all := true, entry := 0, inst := 0, at_ := 0, src := 0 } })).dev.clearReq.isSome = true ∧
    (w [] (fun d => { d with chronOn := true })).dev.chronOn = true ∧ (w []).dev.chronOn = false ∧ 0x0FFF % 65536 < 4096 ∧ 0x0FFF % 16 ≠ 0 ∧
    (Req.mer ≠ .alm) ∧ (w [] (fun d => { d with tableFixed := false })).dev.tableFixed = false ∧ (w []).dev.tableFixed = true ∧
    (w []).dev.reactMin = none ∧ (w []).dev.reaches .host = true ∧
    (let s := w [] (fun d => { d with expert := [(.mer, .flt, 0)] }); s.dev.expertOpen .mer .flt = true ∧ s.opens .mer .flt (0x400 + 4 * 127) 0) := by
  unfold State.opens
  decide +kernel
theorem test_chronograph_stream_case : ∀ k, ((w []).dev.stream k).kind = 3 → ((w []).dev.stream k).isOpen = false := fun _ _ => rfl
theorem test_catalogue_cases :
    (∃ row ∈ faultEntry? (faultRow 0x2303).entry, row.kind = 1 ∧ row.code = 0x2303 ∧ (w []).dev.rd (adcMode 0) ≠ 2 ∧
      (w [(adcMode 0, 2)]).dev.rd (adcMode 0) = 2) ∧
    (∃ row ∈ faultEntry? (faultRow 0x6D02).entry, row.kind = 1 ∧ row.code = 0x6D02 ∧ (w []).dev.net.good = 0 ∧
      (w [] (fun d => { d with net := { good := 1 } })).dev.net.good ≠ 0) ∧
    (∃ row ∈ faultEntry? (faultRow 0x6D04).entry, row.kind = 1 ∧ row.code = 0x6D04 ∧ (w []).dev.rd timeState ≠ 2 ∧
      (w [(timeState, 2)]).dev.rd timeState = 2) ∧
    (∃ row ∈ faultEntry? (faultRow 0x1201).entry, row.kind = 2) ∧ (∃ row ∈ faultEntry? (faultRow 0x5112).entry, row.kind ≠ 1) := by
  refine ⟨⟨faultRow 0x2303, by decide +kernel, by decide +kernel⟩, ⟨faultRow 0x6D02, by decide +kernel, by decide +kernel⟩,
    ⟨faultRow 0x6D04, by decide +kernel, by decide +kernel⟩, ⟨faultRow 0x1201, by decide +kernel, by decide +kernel⟩,
    ⟨faultRow 0x5112, by decide +kernel, by decide +kernel⟩⟩
theorem test_mailbox_cases : (w [(merBusy, 1)]).dev.rd merBusy ≠ 0 ∧ (w []).dev.rd merBusy = 0 ∧ (w []).dev.merBar .mer 1 6 = some 20 ∧
    (w []).dev.merBar .mer 1 5 = none ∧ (w []).dev.merBar .alm 5 0 = some 16 ∧ bitAt ((w [(merRecheck, 32)]).dev.rd merRecheck) 5 = true ∧
    bitAt ((w []).dev.rd merRecheck) 5 = false ∧ (w [] (fun d => { d with alm := { purpose := 1 } })).dev.alm.purpose = 1 ∧
    (w []).dev.alm.purpose = 0 ∧ (w []).dev.alm.restart = false := by decide +kernel
theorem test_core_cases :
    (let s := w [(almStopped, 0)] (fun d => { d with alm := { waiting := true, quietAt := some 0 } });
      s.dev.rd almStopped = 0 ∧ s.dev.alm.waiting = true ∧ s.dev.alm.quietAt.isSome = true ∧ s.dev.alm.quietAt = some 0 ∧
      0 + s.dev.rd almQuietTmax * 1000000 ≤ s.when_ 100000000 ∧ s.dev.alm.beat + s.dev.rd almWdt * 1000000 ≤ s.when_ 50000000 ∧
      s.dev.alm.restarts.length < s.dev.rd almRestartMax) ∧ (w []).dev.rd almStopped ≠ 0 ∧ (w []).dev.alm.quietAt = none ∧ 3 % 2 = 1 ∧ 2 % 2 = 0 ∧
    (w [(almRestartMax, 0)]).dev.rd almRestartMax = 0 := by decide +kernel
theorem test_host_frame_cases : (w [] (fun d => { d with stepsDone := 1 })).dev.stepsDone < 2 ∧ 2 ≤ (w []).dev.stepsDone ∧ 23 < 24 ∧ 24 ≤ 24 ∧ 32 ≤ 32 ∧
    (0xFF < 256 ∧ 0xFF ∉ [0x00, 0x10, 0x11, 0x20, 0x21, 0x22, 0x24, 0x31]) ∧ 0xFFC % 4096 + 4 ≤ 4096 ∧
    (let s := w [(bnkOwner 31, 3), (bnkPstate 31, 0)];
      0x3FFFFC + 4 ≤ memSize ∧ s.dev.bankBar (bankOf 0x3FFFFC) 3 true = none ∧ s.dev.bankBar (bankOf 0x3FFFFC) 3 false = none ∧
      (s.dev.mbank (bankOf 0x3FFFFC)).bad = [] ∧ 0x3FFFFC % 4 = 0) ∧
    (let s := w [(smpEn 0, 1)] (fun d => { d with pins := { vddsm := true } });
      0xFFFFFC + 4 ≤ 2 ^ 24 ∧ 0x40000000 ≤ s.dev.rd hspXbase * 2 ^ 24 ∧ ((s.dev.at_ 0).windowHit (s.dev.rd hspXbase * 2 ^ 24 + 0xFFFFFC) 4).isNone = true ∧
      s.dev.serves (portOf (s.dev.windowExt (s.dev.rd hspXbase * 2 ^ 24 + 0xFFFFFC))) = true ∧
      s.dev.extOk (s.dev.windowExt (s.dev.rd hspXbase * 2 ^ 24 + 0xFFFFFC) / 32 * 32) 32 = true) ∧
    (w [(hspXbase, 0x3F)]).dev.rd hspXbase * 2 ^ 24 < 0x40000000 := by decide +kernel
theorem test_otp_command_cases : (w []).dev.reaches .mer = true ∧ (w []).dev.expertOpen .mer .otp = false ∧
    (w [] (fun d => { d with expert := [(.mer, .otp, 0)] })).dev.expertOpen .mer .otp = true ∧
    (w [(otpBusy, 1)]).dev.persistBusy = true ∧ (w []).dev.persistBusy = false ∧
    (let s := w [] (fun d => { d with pins := { vok := true } });
      s.dev.otpBar .mer 3 6 = some 20 ∧ s.dev.otpBar .mer 4 0 = none ∧ s.dev.pins.vok = true) ∧
    (let s := w [(otpRawRow, 137)]; s.dev.rd otpRawRow < otpRows ∧
      s.dev.rawLocked (s.dev.rd otpRawRow) (rowBits ((List.range 8).map (fun w => s.dev.rd (otpRawData w)))) = false) ∧
    (w [] (fun d => { d with pins := { vok := false } })).dev.pins.vok = false ∧
    (w [] (fun d => { d with eng := { cmd := 4 } })).dev.eng.cmd ≤ 4 ∧ (w []).dev.eng.cmd = 0 := by decide +kernel
theorem test_store_cases : (w []).dev.rd pstLen = 0 ∧ (w []).dev.nextGen ≤ 0xFFFFFFFE ∧ ((w []).dev.newRecords true []).length ≤ 32765 ∧
    (let s := w [(pstCopied, 1)] (fun d => { d with eng := { cmd := 6 } }); s.dev.eng.cmd = 6 ∧ s.dev.rd pstCopied ≠ 0 ∧
      (s.dev.newRecords (!s.dev.eng.image.isEmpty) []).length ≤ 32765) ∧ (w []).dev.rd pstCopied = 0 ∧ (w []).dev.eng.cmd ≠ 6 := by decide +kernel
theorem test_pin_cases : (w []).dev.reaches (.net 0 5) = false ∧ (w [(netState, 4)]).dev.reaches (.net 0 5) = true ∧
    pageAddress 0x10280044 = some (0x280, 0x044) ∧ (w [] (fun d => { d with tap := { trstN := false } })).dev.tap.trstN = false ∧
    (let s := w [] (fun d => { d with tap := { st := .exit1Ir, trstN := true } }); s.dev.tap.trstN = true ∧ s.dev.tap.st = .exit1Ir) := by decide +kernel

end Sys2Proof.Tests
end

section
/-! SUPPORT. The register pages: a command word of the common header (R60, R61), the commit requests (R67), the records of the page
system (R70) and the expert areas (R63 to R65). -/
namespace Sys2Proof.Machine

/-! ### The tables of the pages and the common header -/

/-- Every field of a list stands behind the common header, which ends at 0x03F (R61). -/
def pastHeader (l : List Fld) : Prop := ∀ f ∈ l, 0x040 ≤ f.off

theorem pastHeader_of_all {l : List Fld} (h : l.all (fun f => Nat.ble 0x040 f.off) = true) : pastHeader l :=
  fun f hf => Nat.le_of_ble_eq_true (List.all_eq_true.mp h f hf)

theorem pastHeader_append {l k : List Fld} (hl : pastHeader l) (hk : pastHeader k) : pastHeader (l ++ k) :=
  List.forall_mem_append.mpr ⟨hl, hk⟩

/-- An array of fields stands behind the header when its base offset does. -/
theorem pastHeader_array {n : Nat} {g : Nat → Fld} (b : Nat) (hb : 0x040 ≤ b) (h : ∀ i, b ≤ (g i).off) :
    pastHeader ((List.range n).flatMap (fun i => [g i])) := by
  intro f hf
  obtain ⟨i, _, hi⟩ := List.mem_flatMap.mp hf
  rw [List.mem_singleton.mp hi]
  exact Nat.le_trans hb (h i)

theorem adcFields_pastHeader (c : Nat) : pastHeader (adcFields c) := by
  unfold adcFields
  repeat' refine pastHeader_append ?_ (pastHeader_array _ (by decide) fun i => Nat.le_add_right _ _)
  refine pastHeader_append ?_ (pastHeader_of_all rfl)
  repeat' refine pastHeader_append ?_ (pastHeader_array _ (by decide) fun i => Nat.le_add_right _ _)
  exact pastHeader_of_all rfl

/-- The table of every page begins behind the common header (R61): the long arrays by their base offset, the rest entry by
entry. -/
theorem pageFields_pastHeader (p : Page) : pastHeader (pageFields p) := by
  cases p
  case adc c => exact adcFields_pastHeader c
  case flt | net | bnk =>
    dsimp only [pageFields, fltFields, netFields, bnkFields]
    repeat' refine pastHeader_append ?_ (pastHeader_array _ (by decide) fun i => Nat.le_add_right _ _)
    exact pastHeader_of_all rfl
  all_goals exact pastHeader_of_all rfl

/-! ### A command word of the common header (R60, R61, R66) -/

/-- No header word is the high half of a 64-bit register. -/
theorem highOf_header (p : Page) (off : Nat) (h : off < 0x040) : highOf p off = false := by
  have hf : (pageFields p).any (fun f => f.w == 64 && f.off + 4 == off && (decide (f.acc = .rw) || decide (f.acc = .rwt))) = false := by
    refine List.any_eq_false.mpr fun f hf => ?_
    have hpast : 0x040 ≤ f.off := pageFields_pastHeader p f hf
    have hoff : ¬ f.off + 4 = off := by omega
    simp [hoff]
  rw [highOf, hf, Bool.and_false]

theorem accessResult_header {page off : Nat} {p : Page} (hp : pageAt page = some p) (h4 : off % 4 = 0) (h : off < 0x040) :
    accessResult page off true = 0 := by
  simp [accessResult, hp, h4]
  omega

/-- A header word but PAGE_EVENT_EN is a command: no other requester's write of it stands in its way (R60). -/
theorem Dev.accept_headerCommand (d : Dev) (r : Req) (p : Page) (off t : Nat) (f : Dev → Dev) (h : off < 0x040) (hc : off ≠ 0x010) :
    d.accept r p off t f = f (d.noteWrite r p off t) := by
  have hcmd : commandWord p off = true := by simp [commandWord, h, hc]
  have hbasic : ¬ 0x400 ≤ off := by omega
  simp [Dev.accept, Dev.overruled, hcmd, hbasic]

/-- The bus carries out the write of a command word of the header (R58, R61). -/
theorem Dev.busWrite_headerCommand (d : Dev) (mem : Mem) (r : Req) {page : Nat} {p : Page} (off v t : Nat) (hp : pageAt page = some p)
    (h4 : off % 4 = 0) (h : off < 0x040) (hc : off ≠ 0x010) :
    d.busWrite mem r page off v true t = (0, ((d.dropHigh r).noteWrite r p off t).writeHeader r p off (v % 2 ^ 32) t) := by
  have hbasic : ¬ (0x400 ≤ off ∧ (!(d.dropHigh r).expertOpen r p) = true) := by omega
  simp only [Dev.busWrite, hp, accessResult_header hp h4 h, highOf_header p off h, Dev.accept_headerCommand _ r p off t _ h hc, hbasic,
    Dev.writeWord, h]
  rfl

/-- The block with a write noted but not yet answered: `taken` before its answer. -/
def State.noted (s : State) (r : Req) (p : Page) (off t : Nat) : Dev := ((s.dev.at_ t).dropHigh r).noteWrite r p off (s.when_ t)

theorem State.taken_eq_noted (s : State) (r : Req) (p : Page) (off t : Nat) : s.taken r p off t = (s.noted r p off t).answered 0 [] := rfl
@[simp] theorem State.rd_taken (s : State) (r : Req) (p : Page) (off t : Nat) (f : Fld) : (s.taken r p off t).rd f = s.dev.rd f := rfl
@[simp] theorem State.reaches_taken (s : State) (r q : Req) (p : Page) (off t : Nat) : (s.taken r p off t).reaches q = s.dev.reaches q := by
  cases q <;> rfl

/-- The outcome of a command of a header word: the write is noted, has its effect, and is answered with OK. -/
theorem onRead_headerCommand (s : State) (t : Nat) (r : Req) {page : Nat} {p : Page} (off v : Nat) (hs : s.ready t)
    (hr : s.dev.reaches r = true) (hp : pageAt page = some p) (h4 : off % 4 = 0) (h : off < 0x040) (hc : off ≠ 0x010) :
    onRead t s (fun t mem d => effPageWord r page off v t mem d) = .next { s with
      dev := (s.dev.at_ t).keepAll (((s.noted r p off t).writeHeader r p off (v % 2 ^ 32) (s.when_ t)).answered 0 []) } := by
  have hr' : (s.dev.at_ t).reaches r = true := hr
  rw [onRead_next t s _ hs]
  simp only [effPageWord, hr', Dev.busWrite_headerCommand _ _ r off v _ hp h4 h hc]
  rfl

/-! ### PAGE_COMMIT (R61, R67) -/

theorem Dev.requestCommit_pending (d : Dev) (r : Req) (p : Page) (t : Nat) (h : d.rd (pageCommit p) ≠ 0) : d.requestCommit r p t = d := by
  simp [Dev.requestCommit, Dev.on, h]

theorem Dev.requestCommit_idle (d : Dev) (r : Req) (p : Page) (t : Nat) (h : d.rd (pageCommit p) = 0) :
    d.requestCommit r p t = { d.wr (pageCommit p) 1 with
      commits := d.commits ++ [{ page := p, at_ := t, src := r.src, inst := r.inst, stn := r.stn, swap := 0 }] } := by
  simp [Dev.requestCommit, Dev.on, h]

/-- A request takes the bit and joins the requests that wait, and changes nothing else. -/
theorem Dev.requestCommit_frame (d : Dev) (r : Req) (p : Page) (t : Nat) :
    d.requestCommit r p t = { d with regs := (d.requestCommit r p t).regs, commits := (d.requestCommit r p t).commits } := by
  by_cases h : d.rd (pageCommit p) = 0
  · rw [Dev.requestCommit_idle d r p t h]; rfl
  · rw [Dev.requestCommit_pending d r p t h]

theorem Dev.rd_requestCommit_same (d : Dev) (r : Req) (p : Page) (t : Nat) (h : d.rd (pageCommit p) = 0) :
    (d.requestCommit r p t).rd (pageCommit p) = 1 := by
  rw [Dev.requestCommit_idle d r p t h]
  exact Dev.rd_wr_same d (pageCommit p) 1

theorem Dev.rd_requestCommit_ne (d : Dev) (r : Req) (p : Page) (t : Nat) (f : Fld) (hf : f ≠ pageCommit p) :
    (d.requestCommit r p t).rd f = d.rd f := by
  by_cases h : d.rd (pageCommit p) = 0
  · rw [Dev.requestCommit_idle d r p t h]
    exact Dev.rd_wr_ne d (pageCommit p) f 1 hf.symm
  · rw [Dev.requestCommit_pending d r p t h]

/-- The answer of an access does not meet its request. -/
theorem Dev.requestCommit_answered (d : Dev) (r : Req) (p : Page) (t x : Nat) (l : List Nat) :
    (d.requestCommit r p t).answered x l = (d.answered x l).requestCommit r p t := by
  by_cases h : d.rd (pageCommit p) = 0
  · rw [Dev.requestCommit_idle d r p t h, Dev.requestCommit_idle (d.answered x l) r p t h]; rfl
  · rw [Dev.requestCommit_pending d r p t h, Dev.requestCommit_pending (d.answered x l) r p t h]

theorem Dev.keepAll_requestCommit (d e : Dev) (r : Req) (p : Page) (t : Nat) :
    d.keepAll (e.requestCommit r p t) = (d.keepAll e).requestCommit r p t := by
  by_cases h : e.rd (pageCommit p) = 0
  · rw [Dev.requestCommit_idle e r p t h, Dev.requestCommit_idle (d.keepAll e) r p t h]; rfl
  · rw [Dev.requestCommit_pending e r p t h, Dev.requestCommit_pending (d.keepAll e) r p t h]

/-- Noting a write and answering it changes nothing that the combinator keeps. -/
theorem Dev.keepAll_noteWrite (d : Dev) (r : Req) (p : Page) (off t x : Nat) (l : List Nat) :
    d.keepAll (((d.dropHigh r).noteWrite r p off t).answered x l) = ((d.dropHigh r).noteWrite r p off t).answered x l := rfl

theorem State.keepAll_taken (s : State) (r : Req) (p : Page) (off t : Nat) : (s.dev.at_ t).keepAll (s.taken r p off t) = s.taken r p off t :=
  Dev.keepAll_noteWrite (s.dev.at_ t) r p off (s.when_ t) 0 []

/-- PAGE_COMMIT requests the commit where its bit is written with 1, and else nothing happens. -/
theorem exec_pageCommit (s : State) (t : Nat) (r : Req) {page : Nat} {p : Page} (v : Nat) (hs : s.ready t)
    (hr : s.dev.reaches r = true) (hp : pageAt page = some p) (hv : v < 2 ^ 32) :
    exec (.pageCommit t r page v) s = .next { s with
      dev := if bitAt v 0 then (s.taken r p 0x018 t).requestCommit r p (s.when_ t) else s.taken r p 0x018 t } := by
  refine (onRead_headerCommand s t r 0x018 v hs hr hp (by decide) (by decide) (by decide)).trans ?_
  simp only [Nat.mod_eq_of_lt hv, Dev.writeHeader]
  cases bitAt v 0 with
  | false => exact congrArg (fun d => Host.Outcome.next { s with dev := d }) (State.keepAll_taken s r p 0x018 t)
  | true =>
    simp only [if_true, Dev.requestCommit_answered, Dev.keepAll_requestCommit, ← State.taken_eq_noted, State.keepAll_taken]

/-- Whether a requester reaches pages is not said by a header word (R77). -/
theorem Dev.reaches_wr_header (d : Dev) (f : Fld) (v : Nat) (q : Req) (h : f.off < 0x040) : (d.wr f v).reaches q = d.reaches q := by
  have hne : f ≠ netState ∧ f ≠ netHeadSide ∧ f ≠ netCfgRole ∧ f ≠ netCfgPair := by
    refine ⟨?_, ?_, ?_, ?_⟩ <;> (rintro rfl; exact absurd h (by decide))
  obtain ⟨h1, h2, h3, h4⟩ := hne
  cases q with
  | net m a =>
    unfold Dev.reaches Dev.executes Dev.headLink Dev.headPair Dev.isBridge Dev.on
    rw [Dev.rd_wr_ne _ _ _ _ h1, Dev.rd_wr_ne _ _ _ _ h2, Dev.rd_wr_ne _ _ _ _ h3, Dev.rd_wr_ne _ _ _ _ h4, Dev.wr_stepsDone]
  | mer | alm | host => rfl

theorem Dev.reaches_requestCommit (d : Dev) (r q : Req) (p : Page) (t : Nat) : (d.requestCommit r p t).reaches q = d.reaches q := by
  by_cases h : d.rd (pageCommit p) = 0
  · rw [Dev.requestCommit_idle d r p t h]
    exact Dev.reaches_wr_header d (pageCommit p) 1 q (show 0x018 < 0x040 by decide)
  · rw [Dev.requestCommit_pending d r p t h]

/-- The block that a request leaves is ready for any later time that fits. -/
theorem State.ready_requestCommit {s : State} {t u : Nat} (hs : s.ready t) (hu : u < 2 ^ 64) (r : Req) (p : Page) :
    ({ s with dev := (s.taken r p 0x018 t).requestCommit r p (s.when_ t) } : State).ready u := by
  obtain ⟨hrun, hnow⟩ := hs
  rw [Dev.requestCommit_frame]
  exact ⟨hrun, Nat.max_lt.mpr ⟨hnow, hu⟩⟩

/-! ### Records of the page system (R70, R551) -/

/-- An entry handed to the chronograph writes no field but the four of `chronFlds`. -/
theorem Dev.rd_note_of_not_mem (d : Dev) (t level src inst code data : Nat) (f : Fld) (h : f ∉ chronFlds) :
    (d.note t level src inst code data).rd f = d.rd f := by
  simp only [chronFlds, List.mem_cons, List.not_mem_nil, or_false, not_or] at h
  obtain ⟨hmax, hlost, hev, hst⟩ := h
  unfold Dev.note Dev.deliver
  split
  · split
    · dsimp only
      split
      · exact Dev.rd_wr_ne _ _ _ _ (Ne.symm hmax)
      · rfl
    · rw [Dev.rd_ev_ne _ _ _ _ hev hst, Dev.rd_inc_ne _ _ _ (Ne.symm hlost)]; rfl
  · split <;> rfl

@[simp] theorem Dev.expertNote_expert (d : Dev) (r : Req) (p : Page) (kind t : Nat) : (d.expertNote r p kind t).expert = d.expert := by
  show (d.expertNote r p kind t).offAxis.expert = d.offAxis.expert
  exact congrArg Dev.expert (Dev.offAxis_note d t _ _ _ _ _)

theorem Dev.rd_expertNote (d : Dev) (r : Req) (p : Page) (kind t : Nat) (f : Fld) (h : f ∉ chronFlds) :
    (d.expertNote r p kind t).rd f = d.rd f := Dev.rd_note_of_not_mem d t _ _ _ _ _ f h

/-! ### PAGE_EXPERT_KEY and the time-out of an expert area (R63 to R65) -/

@[simp] theorem Req.same_self (r : Req) : r.same r = true := by cases r <;> simp [Req.same]

/-- Which areas are open depends on the list of the open areas alone. -/
theorem Dev.expertOpen_congr {d e : Dev} (h : d.expert = e.expert) (r : Req) (p : Page) : d.expertOpen r p = e.expertOpen r p := by
  unfold Dev.expertOpen
  rw [h]

/-- One more entry opens its page for the requester it names (R64). -/
theorem Dev.expertOpen_append {d e : Dev} {r : Req} {p : Page} {k : Nat} (h : e.expert = d.expert ++ [(r, p, k)]) (q : Req) (p' : Page) :
    e.expertOpen q p' = (d.expertOpen q p' || (r.same q && decide (p = p'))) := by
  simp [Dev.expertOpen, h]

theorem Dev.writeKey_open (d : Dev) (r : Req) (p : Page) (t : Nat) (h : d.expertOpen r p = true) : d.writeKey r p 0xE5 t = d := by
  simp [Dev.writeKey, h]

theorem Dev.writeKey_shut (d : Dev) (r : Req) (p : Page) (t : Nat) (h : d.expertOpen r p = false) :
    d.writeKey r p 0xE5 t = ({ d with expert := d.expert ++ [(r, p, d.rd timeTickCount)] } : Dev).expertNote r p 3 t := by
  simp [Dev.writeKey, h]

/-- The records of the areas that close leave the list of the open areas alone. -/
theorem foldl_expertNote_expert (l : List (Req × Page × Nat)) (t : Nat) (d : Dev) :
    (l.foldl (fun d x => d.expertNote x.1 x.2.1 4 t) d).expert = d.expert := by
  induction l generalizing d with
  | nil => rfl
  | cons x l ih => rw [List.foldl_cons, ih, Dev.expertNote_expert]

theorem rd_foldl_expertNote (l : List (Req × Page × Nat)) (t : Nat) (d : Dev) (f : Fld) (h : f ∉ chronFlds) :
    (l.foldl (fun d x => d.expertNote x.1 x.2.1 4 t) d).rd f = d.rd f := by
  induction l generalizing d with
  | nil => rfl
  | cons x l ih => rw [List.foldl_cons, ih, Dev.rd_expertNote _ _ _ _ _ _ h]

@[simp] theorem Dev.closeExpert_expert (d : Dev) (q : Req → Page → Bool) (t : Nat) :
    (d.closeExpert q t).expert = d.expert.filter (fun x => !q x.1 x.2.1) := foldl_expertNote_expert _ _ _

theorem Dev.rd_closeExpert (d : Dev) (q : Req → Page → Bool) (t : Nat) (f : Fld) (h : f ∉ chronFlds) : (d.closeExpert q t).rd f = d.rd f :=
  rd_foldl_expertNote _ _ _ _ h

/-- An area is late when 65,536 ticks have gone since its entry. -/
theorem effExpertTimeout_late (r : Req) (p : Page) (t k : Nat) (d : Dev) (hx : (r, p, k) ∈ d.expert) (h : k + 65536 ≤ d.rd timeTickCount) :
    effExpertTimeout r p t d = d.closeExpert (fun r' p' => r'.same r && decide (p' = p)) t :=
  if_pos (List.any_eq_true.mpr ⟨_, hx, by simp [h]⟩)

theorem effExpertTimeout_early (r : Req) (p : Page) (t : Nat) (d : Dev)
    (h : ∀ x ∈ d.expert, x.1.same r = true → x.2.1 = p → d.rd timeTickCount < x.2.2 + 65536) : effExpertTimeout r p t d = d := by
  have hnone : d.expert.any (fun x => x.1.same r && decide (x.2.1 = p) && decide (x.2.2 + 65536 ≤ d.rd timeTickCount)) = false := by
    refine List.any_eq_false.mpr fun x hx => ?_
    simpa using h x hx
  simp [effExpertTimeout, hnone]

theorem exec_pageExpertKey (s : State) (t : Nat) (r : Req) {page : Nat} {p : Page} (hs : s.ready t)
    (hr : s.dev.reaches r = true) (hp : pageAt page = some p) :
    exec (.pageExpertKey t r page 0xE5) s = .next { s with
      dev := (s.dev.at_ t).keepAll (((s.noted r p 0x01C t).writeKey r p 0xE5 (s.when_ t)).answered 0 []) } :=
  onRead_headerCommand s t r 0x01C 0xE5 hs hr hp (by decide) (by decide) (by decide)

theorem exec_expertAreaTimeout (s : State) (t : Nat) (r : Req) {page : Nat} {p : Page} (hs : s.ready t) (hp : pageAt page = some p) :
    exec (.expertAreaTimeout t r page) s = .next { s with
      dev := (s.dev.at_ t).keepAll (effExpertTimeout r p (s.when_ t) (s.dev.at_ t)) } := by
  refine (onDev_next t s (fun t d => effExpertEnd r page t d) hs).trans ?_
  simp only [effExpertEnd, hp]

/-! ### The statements -/

/-- Settles O20: while COMMIT reads 0 a request is taken (`Dev.requestCommit_idle`), and while it reads 1 a request of whatever
requester leaves the block as it is (`Dev.requestCommit_pending`). -/
theorem commitRequests : Obligations.CommitRequests := by
  intro s t r page p v hs hr hp
  have hone (hb : bitAt v 0 = true) (hv : v < 2 ^ 32) : exec (.pageCommit t r page v) s =
      .next { s with dev := (s.taken r p 0x018 t).requestCommit r p (s.when_ t) } := by
    rw [exec_pageCommit s t r v hs hr hp hv, if_pos hb]
  refine ⟨fun hb hv hc => ?_, fun hv hnone => ?_, fun q u hq hb hv hc _ hu => ?_⟩
  · refine ⟨_, hone hb hv, Dev.rd_requestCommit_same _ r p _ hc, ?_, Dev.requestCommit_frame _ r p _, fun f hf => ?_⟩
    · rw [Dev.requestCommit_idle _ r p _ (show (s.taken r p 0x018 t).rd (pageCommit p) = 0 from hc)]; rfl
    · exact Dev.rd_requestCommit_ne _ r p _ f fun e => hf (List.mem_singleton.mpr e)
  · rw [exec_pageCommit s t r v hs hr hp hv]
    cases hb : bitAt v 0 with
    | false => rfl
    | true =>
      have hpend : s.dev.rd (pageCommit p) ≠ 0 := hnone.resolve_left (by simp [hb])
      rw [if_pos rfl, Dev.requestCommit_pending (s.taken r p 0x018 t) r p _ hpend]
  · refine ⟨_, hone hb hv, ?_⟩
    have hq' : ((s.taken r p 0x018 t).requestCommit r p (s.when_ t)).reaches q = true := by
      rw [Dev.reaches_requestCommit, State.reaches_taken, hq]
    have hset := Dev.rd_requestCommit_same (s.taken r p 0x018 t) r p (s.when_ t) hc
    generalize hd : (s.taken r p 0x018 t).requestCommit r p (s.when_ t) = d' at hq' hset
    have hs' : ({ s with dev := d' } : State).ready u := hd ▸ State.ready_requestCommit hs hu r p
    refine ⟨_, exec_pageCommit { s with dev := d' } u q v hs' hq' hp hv, ?_⟩
    rw [if_pos hb, Dev.requestCommit_pending _ q p _ (by rw [State.rd_taken]; exact hset ▸ Nat.one_ne_zero)]
    exact ⟨hset, rfl⟩

/-- Settles O21: an opening adds one entry to the open areas, and a time-out takes it off when its ticks are past. -/
theorem expertAreas : Obligations.ExpertAreas := by
  intro s t r page p hs hp
  refine ⟨fun hr hshut => ?_, fun hr hopen => ?_, fun k hk hlate => ?_, fun k hk hearly => ?_⟩
  · refine ⟨_, exec_pageExpertKey s t r hs hr hp, ?_⟩
    rw [Dev.writeKey_shut (s.noted r p 0x01C t) r p _ hshut]
    generalize hd : Dev.keepAll _ _ = d'
    have hexp : d'.expert = s.dev.expert ++ [(r, p, s.dev.rd timeTickCount)] := by
      rw [← hd]
      exact Dev.expertNote_expert _ _ _ _ _
    have hopen := Dev.expertOpen_append hexp
    refine ⟨by simp [hopen], hexp, hopen, hd ▸ rfl, fun f hf => ?_⟩
    rw [← hd]
    exact Dev.rd_expertNote _ _ _ _ _ f hf
  · rw [exec_pageExpertKey s t r hs hr hp, Dev.writeKey_open (s.noted r p 0x01C t) r p _ hopen, ← State.taken_eq_noted, State.keepAll_taken]
  · refine ⟨_, exec_expertAreaTimeout s t r hs hp, ?_⟩
    rw [effExpertTimeout_late r p _ k (s.dev.at_ t) (by simp [hk]) hlate]
    have hexp : ((s.dev.at_ t).closeExpert (fun r' p' => r'.same r && decide (p' = p)) (s.when_ t)).expert = [] := by simp [hk]
    exact ⟨hexp, Dev.expertOpen_congr (e := {}) hexp r p, fun f hf => Dev.rd_closeExpert _ _ _ f hf⟩
  · rw [exec_expertAreaTimeout s t r hs hp, effExpertTimeout_early r p _ (s.dev.at_ t) (by simpa [hk] using hearly),
      Dev.keepAll_self]
    rfl

end Sys2Proof.Machine
end

section
/-! SUPPORT. The feedback side of the block: the register fields and the units of the feedback ports, and the pins. Raising a fault leaves
it alone, and so does all that follows a count: the reticle lists (R341), with the deliveries of their streams (R435), and the emulations
(R346). -/
namespace Sys2Proof.Machine

/-! ### The feedback side of the block -/

/-- A page of a feedback port. -/
def Page.isFb : Page → Bool
  | .fb _ => true
  | _ => false

@[simp] theorem Page.isFb_bnk : Page.bnk.isFb = false := id rfl
@[simp] theorem Page.isFb_pgr : Page.pgr.isFb = false := id rfl
@[simp] theorem Page.isFb_evp (k : Nat) : (Page.evp k).isFb = false := id rfl

/-- What the feedback ports hold: the register fields of their pages, their units, and the levels at the pins. -/
def Dev.fbSide (d : Dev) : Tab Fld Nat × Tab Nat FbPort × Pins := (d.regs.filter (fun x => x.1.pg.isFb), d.fbps, d.pins)

theorem Page.faultSide_of_isFb (p : Page) (h : p.isFb = true) : p.faultSide = false := by
  cases p with
  | fb => rfl
  | _ => exact absurd h (by simp [Page.isFb])

/-- A field of a feedback page reads what the feedback side holds. -/
theorem Dev.rd_of_fbSide {d e : Dev} (h : d.fbSide = e.fbSide) (f : Fld) (hf : f.pg.isFb = true) : d.rd f = e.rd f := by
  have hget : ∀ x : Dev, tabGet x.fbSide.1 f = tabGet x.regs f := fun x => tabGet_filter (fun f : Fld => f.pg.isFb) x.regs f hf
  unfold Dev.rd
  rw [← hget d, ← hget e, h]

theorem Dev.fbp_of_fbSide {d e : Dev} (h : d.fbSide = e.fbSide) (p : Nat) : d.fbp p = e.fbp p := by
  have hfbps : d.fbps = e.fbps := congrArg (fun x => x.2.1) h
  unfold Dev.fbp
  rw [hfbps]

theorem Dev.pins_of_fbSide {d e : Dev} (h : d.fbSide = e.fbSide) : d.pins = e.pins := congrArg (fun x => x.2.2) h

/-- What raising a fault leaves alone holds the feedback side. -/
theorem Dev.fbSide_of_offFault {d e : Dev} (h : d.offFault = e.offFault) : d.fbSide = e.fbSide := by
  have hside : ∀ x : Dev, x.fbSide = (x.offFault.regs.filter (fun y => y.1.pg.isFb), x.offFault.fbps, x.offFault.pins) := by
    intro x
    have hregs : x.offFault.regs.filter (fun y => y.1.pg.isFb) = x.regs.filter (fun y => y.1.pg.isFb) := by
      refine List.filter_filter.trans (List.filter_congr fun y _ => ?_)
      cases hy : y.1.pg.isFb with
      | false => rfl
      | true => simp [Page.faultSide_of_isFb _ hy]
    rw [hregs]
    rfl
  rw [hside d, hside e, h]

theorem Dev.fbSide_of_offAxis {d e : Dev} (h : d.offAxis = e.offAxis) : d.fbSide = e.fbSide :=
  Dev.fbSide_of_offFault (Dev.offFault_of_offAxis h)

/-! ### Operations that do not reach the feedback side -/

theorem Dev.fbSide_ite {c : Prop} [Decidable c] {d e : Dev} (h : e.fbSide = d.fbSide) : (if c then e else d).fbSide = d.fbSide := by
  split
  · exact h
  · rfl

@[simp] theorem Dev.fbSide_wr (d : Dev) (f : Fld) (v : Nat) (h : f.pg.isFb = false) : (d.wr f v).fbSide = d.fbSide := by
  unfold Dev.fbSide Dev.wr
  rw [filter_tabSet (fun f => f.pg.isFb) d.regs f _ h]

@[simp] theorem Dev.fbSide_inc (d : Dev) (f : Fld) (h : f.pg.isFb = false) : (d.inc f).fbSide = d.fbSide := by
  unfold Dev.inc
  split
  · exact Dev.fbSide_wr _ _ _ h
  · rfl

@[simp] theorem Dev.fbSide_ev (d : Dev) (p : Page) (i : Nat) (h : p.isFb = false) : (d.ev p i).fbSide = d.fbSide := by
  have hev : (pageEvent p).pg.isFb = false := h
  have hst : (pageSticky p).pg.isFb = false := h
  unfold Dev.ev
  split <;> simp [Dev.evOnly, Dev.sticky, Dev.fbSide_wr _ _ _ hev, Dev.fbSide_wr _ _ _ hst]

@[simp] theorem Dev.fbSide_modEvp (d : Dev) (k : Nat) (g : EventPort → EventPort) : (d.modEvp k g).fbSide = d.fbSide := rfl
@[simp] theorem Dev.fbSide_modStream (d : Dev) (s : Nat) (g : Stream → Stream) : (d.modStream s g).fbSide = d.fbSide := rfl
@[simp] theorem Dev.fbSide_modMbank (d : Dev) (b : Nat) (g : BankSt → BankSt) : (d.modMbank b g).fbSide = d.fbSide := rfl
@[simp] theorem Dev.fbSide_note (d : Dev) (t level src inst code data : Nat) : (d.note t level src inst code data).fbSide = d.fbSide :=
  Dev.fbSide_of_offAxis (Dev.offAxis_note _ _ _ _ _ _ _)
@[simp] theorem Dev.fbSide_raise (d : Dev) (code inst src data t : Nat) : (d.raise code inst src data t).fbSide = d.fbSide :=
  Dev.fbSide_of_offFault (Dev.offFault_raise _ _ _ _ _ _)

/-! ### Accesses of the pager to the banks (R394, R396, R403) -/

@[simp] theorem Dev.fbSide_bankRefuse (d : Dev) (b m w reason t : Nat) : (d.bankRefuse b m w reason t).fbSide = d.fbSide := by
  unfold Dev.bankRefuse
  dsimp only
  split <;> simp [bnkRefBank, bnkRefMaster, bnkRefWord, bnkRefReason, bnkRefuseCount]

@[simp] theorem Dev.fbSide_eccNote (d : Dev) (b m w : Nat) (unc : Bool) : (d.eccNote b m w unc).fbSide = d.fbSide := by
  unfold Dev.eccNote
  dsimp only
  split <;> simp [Dev.wrB, bnkEccBank, bnkEccMaster, bnkEccWord, bnkEccLastUncorr, bnkEccUncorr, bnkEccCorr]

@[simp] theorem Dev.fbSide_eccRead (d : Dev) (b m w t : Nat) : (d.eccRead b m w t).2.fbSide = d.fbSide := by
  unfold Dev.eccRead
  split
  · rfl
  · simp
  · dsimp only
    split <;> simp

@[simp] theorem Dev.fbSide_raceNote (d : Dev) (b w later earlier : Nat) : (d.raceNote b w later earlier).fbSide = d.fbSide := by
  unfold Dev.raceNote
  dsimp only
  generalize he : (((((d.wr bnkRaceBank b).wr bnkRaceLater later).wr bnkRaceEarlier earlier).wr bnkRaceWord w).inc bnkRaceCount).ev .bnk 10 = e
  have hrace : e.fbSide = d.fbSide := by
    rw [← he]
    simp [bnkRaceBank, bnkRaceLater, bnkRaceEarlier, bnkRaceWord, bnkRaceCount]
  have hsticky : ∀ i, (e.sticky .bnk i).fbSide = e.fbSide := fun i => Dev.fbSide_wr e (pageSticky .bnk) _ rfl
  rw [← hrace]
  split
  · exact hsticky 0
  · split
    · exact hsticky 1
    · split <;> rfl

@[simp] theorem Dev.fbSide_grant (d : Dev) (b : Nat) (g : BankGrant) : (d.grant b g).2.fbSide = d.fbSide := by
  unfold Dev.grant
  dsimp only
  split
  · simp
  · split <;> split <;> simp

@[simp] theorem Dev.fbSide_takeCycle (d : Dev) (b m w : Nat) (write : Bool) : (d.takeCycle b m w write).2.fbSide = d.fbSide :=
  Dev.fbSide_grant _ _ _

@[simp] theorem Dev.fbSide_wordRead (d : Dev) (mem : Mem) (m a t : Nat) : (d.wordRead mem m a t).2.fbSide = d.fbSide :=
  Dev.fbSide_eccRead d (bankOf a) m (wordOf a) t

@[simp] theorem Dev.fbSide_racedRead (d : Dev) : d.racedRead.2.fbSide = d.fbSide := rfl

@[simp] theorem Dev.fbSide_bankRead (d : Dev) (mem : Mem) (m a t : Nat) : (d.bankRead mem m a t).2.fbSide = d.fbSide := by
  unfold Dev.bankRead
  dsimp only
  split
  · simp
  · split
    · simp
    · split
      · simp
      · split <;> simp

@[simp] theorem Dev.fbSide_ringEntry (mem : Mem) (n t : Nat) (d : Dev) (a : Nat) : (d.ringEntry mem a n t).2.fbSide = d.fbSide := by
  induction n generalizing d a with
  | zero => rfl
  | succ n ih =>
    unfold Dev.ringEntry
    exact (ih _ _).trans (Dev.fbSide_bankRead _ _ _ _ _)

theorem Dev.fbSide_frameWords (mem : Mem) (s t n : Nat) (d : Dev) (w : Nat) : (d.frameWords mem s t w n).2.fbSide = d.fbSide := by
  induction n generalizing d w with
  | zero => rfl
  | succ n ih =>
    unfold Dev.frameWords
    dsimp only
    split
    · exact ih _ _
    · next a _ =>
      have hread := Dev.fbSide_bankRead d mem 5 a t
      split
      · next e he => exact (ih _ _).trans (by rw [he] at hread; exact hread)
      · next e he => rw [he] at hread; exact hread

/-! ### Delivery of a stream (R435) -/

@[simp] theorem Dev.fbSide_streamStop (d : Dev) (s entry cause addr t : Nat) : (d.streamStop s entry cause addr t).fbSide = d.fbSide := by
  unfold Dev.streamStop
  simp [pgrStops]

@[simp] theorem Dev.fbSide_attemptFails (d : Dev) (s cause t : Nat) : (d.attemptFails s cause t).fbSide = d.fbSide := by
  unfold Dev.attemptFails
  dsimp only
  split
  · simp [pgrRetries]
  · simp

@[simp] theorem Dev.fbSide_pageLost (d : Dev) (s p t : Nat) : (d.pageLost s p t).fbSide = d.fbSide := Dev.fbSide_attemptFails _ _ _ _

@[simp] theorem Dev.fbSide_nextEntry (d : Dev) (mem : Mem) (s t : Nat) : (d.nextEntry mem s t).2.fbSide = d.fbSide := by
  unfold Dev.nextEntry
  dsimp only
  split
  · rfl
  · split
    · split
      · rfl
      · have hring := fun a k => Dev.fbSide_ringEntry mem k t d a
        split
        · next e he => exact (congrArg (fun x => x.2.fbSide) he).symm.trans (hring _ _)
        · next e he =>
          have hinc : (e.incBy pgrRetries (d.stream s).retry).fbSide = e.fbSide := Dev.fbSide_wr _ pgrRetries _ rfl
          simpa [hinc] using (congrArg (fun x => x.2.fbSide) he).symm.trans (hring _ _)
    · split
      · rfl
      · have hframe := fun w k => Dev.fbSide_frameWords mem s t k d w
        split
        · next e he => exact (Dev.fbSide_pageLost _ _ _ _).trans ((congrArg (fun x => x.2.fbSide) he).symm.trans (hframe _ _))
        · next e he => exact (congrArg (fun x => x.2.fbSide) he).symm.trans (hframe _ _)

/-! ### Reticle lists (R340 to R345) -/

@[simp] theorem Dev.fbSide_fillRet (mem : Mem) (k t n : Nat) (d : Dev) : (d.fillRet mem k t n).fbSide = d.fbSide := by
  induction n generalizing d with
  | zero => rfl
  | succ n ih =>
    unfold Dev.fillRet
    split
    · rfl
    · next s _ =>
      have hnext := Dev.fbSide_nextEntry d mem s t
      split
      · rfl
      · split
        · next e he => rw [he] at hnext; exact (ih _).trans hnext
        · next e he => rw [he] at hnext; exact hnext

@[simp] theorem Dev.fbSide_unbindEvp (d : Dev) (k : Nat) : (d.unbindEvp k).fbSide = d.fbSide := by
  unfold Dev.unbindEvp
  split <;> rfl

@[simp] theorem Dev.fbSide_endList (d : Dev) (k state : Nat) : (d.endList k state).fbSide = d.fbSide := by
  unfold Dev.endList
  simp [evpRetState]

@[simp] theorem Dev.fbSide_consumeHead (d : Dev) (k q : Nat) : (d.consumeHead k q).fbSide = d.fbSide :=
  Dev.fbSide_wr _ (evpRetIdx k) _ rfl

@[simp] theorem Dev.fbSide_pulseOn (d : Dev) (j q width : Nat) : (d.pulseOn j q width).fbSide = d.fbSide := by
  unfold Dev.pulseOn
  split
  · rfl
  · exact Dev.when_keeps Dev.fbSide _ (fun d => Dev.fbSide_ev d _ _ rfl) _ _

@[simp] theorem Dev.fbSide_fireHead (d : Dev) (k q : Nat) (e : RetEntry) : (d.fireHead k q e).fbSide = d.fbSide := by
  have hpulses := fun (l : List Nat) (d : Dev) => Dev.each_keeps Dev.fbSide (fun j d => d.pulseOn j q e.width) (fun _ _ => Dev.fbSide_pulseOn _ _ _ _) l d
  have hevent := fun (d : Dev) => Dev.when_keeps Dev.fbSide (fun d => d.ev (.evp k) 0) (fun d => Dev.fbSide_ev d _ _ rfl) e.event d
  unfold Dev.fireHead
  dsimp only
  split <;> simp [Dev.inw, hpulses, hevent, evpRetFired, evpRetTag, evpRetTime]

@[simp] theorem Dev.fbSide_traverse (d : Dev) (k t : Nat) : (d.traverse k t).fbSide = d.fbSide := by
  unfold Dev.traverse
  split <;> rfl

@[simp] theorem Dev.fbSide_dropLate (k q n : Nat) (d : Dev) : (d.dropLate k q n).fbSide = d.fbSide := by
  induction n generalizing d with
  | zero => rfl
  | succ n ih =>
    have hlate : ∀ d : Dev, (((d.consumeHead k q).inc (evpRetLate k)).ev (.evp k) 6).fbSide = d.fbSide := fun d => by
      simp [evpRetLate]
    unfold Dev.dropLate
    split
    · split
      · dsimp only
        split
        · simp only [Dev.fbSide_endList, hlate]
        · exact (ih _).trans (hlate d)
      · rfl
    · rfl

@[simp] theorem Dev.fbSide_settleList (d : Dev) (k t : Nat) : (d.settleList k t).fbSide = d.fbSide := by
  have hstate : ∀ (d : Dev) (v : Nat), (d.wr (evpRetState k) v).fbSide = d.fbSide := fun d v => Dev.fbSide_wr d _ v rfl
  have hfirst : (if d.rd (evpRetState k) = retStarved then (d.traverse k t).dropLate k (4 * t) 16 else d).fbSide = d.fbSide := by
    split <;> simp
  unfold Dev.settleList
  dsimp only
  generalize (if d.rd (evpRetState k) = retStarved then (d.traverse k t).dropLate k (4 * t) 16 else d) = e at hfirst
  rw [← hfirst]
  repeat' split
  all_goals simp only [Dev.fbSide_endList, Dev.fbSide_traverse, Dev.fbSide_modEvp, hstate]

@[simp] theorem Dev.fbSide_crossList (mem : Mem) (k t : Nat) (a b : Int) (n : Nat) (d : Dev) :
    (d.crossList mem k t a b n).fbSide = d.fbSide := by
  induction n generalizing d with
  | zero => rfl
  | succ n ih =>
    unfold Dev.crossList
    split
    · rfl
    · split
      · rfl
      · exact Dev.fbSide_ite ((ih _).trans (by simp))

@[simp] theorem Dev.fbSide_crossPort (d : Dev) (mem : Mem) (f t : Nat) (a b : Int) : (d.crossPort mem f t a b).fbSide = d.fbSide := by
  refine Dev.each_keeps Dev.fbSide _ (fun k d => Dev.fbSide_ite ?_) _ _
  split <;> simp

/-! ### Emulations (R346) -/

@[simp] theorem Dev.fbSide_emuReport (d : Dev) (k q : Nat) : (d.emuReport k q).fbSide = d.fbSide := by
  unfold Dev.emuReport
  dsimp only
  split <;> simp [Dev.wrB, evpEmuBacklog, evpEmuPeak, evpEmuLag]

@[simp] theorem Dev.fbSide_emuFollow (d : Dev) (k t span : Nat) : (d.emuFollow k t span).fbSide = d.fbSide := by
  unfold Dev.emuFollow
  split
  · rfl
  · exact Dev.fbSide_emuReport _ _ _

@[simp] theorem Dev.fbSide_emuPort (d : Dev) (f t : Nat) : (d.emuPort f t).fbSide = d.fbSide := by
  refine Dev.each_keeps Dev.fbSide _ (fun k d => ?_) _ _
  split <;> simp

/-- A counter that takes a value writes FB_POS, whatever follows it (R341, R346). -/
theorem Dev.fbSide_counterTo (d : Dev) (mem : Mem) (p t : Nat) (v : Int) (count : Bool) :
    (d.counterTo mem p t v count).fbSide = (d.wrS (fbPos p) v).fbSide := by
  unfold Dev.counterTo
  dsimp only
  split <;> simp

end Sys2Proof.Machine
end

section
/-! SUPPORT. The counting of a feedback port (R216, R217, R233, R238), the edges at its lines, and the statement on the quadrature
counts. -/
namespace Sys2Proof.Machine

/-! ### Single bits and signed fields -/

theorem bitAt_eq_testBit (v i : Nat) : bitAt v i = v.testBit i := by
  rw [Nat.testBit_eq_decide_div_mod_eq]
  rfl

/-- A bit that is set stays set when the word is cut to a width that holds it. -/
theorem bitAt_setBit_mod (v i w : Nat) (h : i < w) : bitAt (setBit v i % 2 ^ w) i = true := by
  have hset : bitAt (setBit v i) i = true := by
    unfold setBit
    split
    · assumption
    · next hb =>
      have hzero : v / 2 ^ i % 2 ≠ 1 := by simpa [bitAt] using hb
      have hdiv : (v + 2 ^ i) / 2 ^ i = v / 2 ^ i + 1 := Nat.add_div_right v (Nat.two_pow_pos i)
      simp only [bitAt, hdiv, beq_iff_eq]
      omega
  rw [bitAt_eq_testBit] at hset ⊢
  rw [Nat.testBit_mod_two_pow, hset, decide_eq_true h, Bool.true_and]

/-- An event of a page sets its bit of PAGE_EVENT (R61). -/
theorem Dev.bitAt_ev_event (d : Dev) (p : Page) (i : Nat) (h : i < 32) : bitAt ((d.ev p i).rd (pageEvent p)) i = true := by
  have hne : pageSticky p ≠ pageEvent p := by simp [pageSticky, pageEvent]
  have hset : bitAt ((d.evOnly p i).rd (pageEvent p)) i = true := by
    unfold Dev.evOnly
    rw [Dev.rd_wr_same]
    exact bitAt_setBit_mod _ i 32 h
  unfold Dev.ev
  split
  · exact hset
  · rw [Dev.sticky, Dev.rd_wr_ne _ _ _ _ hne, hset]

/-- An event that the page keeps sets its bit of PAGE_STICKY (R61). -/
theorem Dev.bitAt_ev_sticky (d : Dev) (p : Page) (i : Nat) (h : i < 32) (hp : bitAt (eventOnly p) i = false) :
    bitAt ((d.ev p i).rd (pageSticky p)) i = true := by
  unfold Dev.ev
  rw [hp, if_neg Bool.false_ne_true, Dev.sticky, Dev.rd_wr_same]
  exact bitAt_setBit_mod _ i 32 h

theorem Dev.rd_inc_same (d : Dev) (f : Fld) (h : d.rd f + 1 < 2 ^ f.w) : (d.inc f).rd f = d.rd f + 1 := by
  rw [Dev.inc, if_pos h, Dev.rd_wr_same, Nat.mod_eq_of_lt h]

/-- An integer of 64 bits reads back from its two's complement (R8). -/
theorem signedOf_wrapTo_64 (v : Int) (hlo : -(2 ^ 63) ≤ v) (hhi : v < 2 ^ 63) : signedOf 64 (wrapTo 64 v % 2 ^ 64) = v := by
  unfold signedOf wrapTo
  split <;> omega

theorem Dev.rdS_wrS_fbPos (d : Dev) (p : Nat) (v : Int) (hlo : -(2 ^ 63) ≤ v) (hhi : v < 2 ^ 63) :
    (d.wrS (fbPos p) v).rdS (fbPos p) = v := by
  rw [Dev.rdS, Dev.wrS, Dev.rd_wr_same]
  exact signedOf_wrapTo_64 v hlo hhi

@[simp] theorem Dev.ev_pins (d : Dev) (p : Page) (i : Nat) : (d.ev p i).pins = d.pins := by
  unfold Dev.ev
  split <;> rfl

@[simp] theorem Dev.ev_fbps (d : Dev) (p : Page) (i : Nat) : (d.ev p i).fbps = d.fbps := by
  unfold Dev.ev
  split <;> rfl

@[simp] theorem Dev.inc_pins (d : Dev) (f : Fld) : (d.inc f).pins = d.pins := by
  unfold Dev.inc
  split <;> rfl

@[simp] theorem Dev.inc_fbps (d : Dev) (f : Fld) : (d.inc f).fbps = d.fbps := by
  unfold Dev.inc
  split <;> rfl

/-! ### A count (R216, R217, R233, R238) -/

/-- The fields that the direction and the estimator of a count may write (R238, R239). -/
def speedFlds (p : Nat) : List Fld := [fbDir p, fbEst p, fbStill p, pageEvent (.fb p), pageSticky (.fb p)]

theorem Dev.rd_countSpeed (d : Dev) (p q c : Nat) (neg : Bool) (f : Fld) (h : f ∉ speedFlds p) : (d.countSpeed p q c neg).rd f = d.rd f := by
  simp only [speedFlds, List.mem_cons, List.not_mem_nil, or_false, not_or] at h
  obtain ⟨hdir, hest, hstill, hev, hst⟩ := h
  unfold Dev.countSpeed
  dsimp only
  rw [Dev.rd_modFbp, Dev.rd_wr_ne _ _ _ _ (Ne.symm hstill), Dev.rd_wr_ne _ _ _ _ (Ne.symm hest),
    Dev.when_keeps (fun d => d.rd f) _ (fun d => Dev.rd_ev_ne d _ _ f hev hst)]
  exact Dev.when_keeps (fun d => d.rd f) _ (fun d => Dev.rd_wr_ne d _ f _ (Ne.symm hdir)) _ d

@[simp] theorem Dev.countSpeed_pins (d : Dev) (p q c : Nat) (neg : Bool) : (d.countSpeed p q c neg).pins = d.pins := by
  unfold Dev.countSpeed
  dsimp only
  rw [Dev.modFbp_pins, Dev.wr_pins, Dev.wr_pins, Dev.when_keeps Dev.pins _ (fun d => Dev.ev_pins d _ _)]
  exact Dev.when_keeps Dev.pins (fun d => d.wrB (fbDir p) neg) (fun _ => rfl) _ d

/-- Within its bounds a counter takes the step (R233). -/
theorem Dev.fbSide_stepCounter (d : Dev) (mem : Mem) (p t : Nat) (neg : Bool) (hlo : d.fbLo p < d.rdS (fbPos p))
    (hhi : d.rdS (fbPos p) < d.fbHi p) :
    (d.stepCounter mem p t neg).fbSide = ((d.wr (fbAtLimit p) 0).wrS (fbPos p) (d.rdS (fbPos p) + if neg then -1 else 1)).fbSide := by
  have hkeep : d.stepCounter mem p t neg =
      (d.wr (fbAtLimit p) 0).counterTo mem p t (d.rdS (fbPos p) + if neg then -1 else 1) true := by
    unfold Dev.stepCounter
    cases neg with
    | false =>
      have hup : ¬ d.fbHi p < d.rdS (fbPos p) + 1 := by omega
      simp [hup]
    | true =>
      have hdown : ¬ d.rdS (fbPos p) + -1 < d.fbLo p := by omega
      simp [hdown]
  rw [hkeep, Dev.fbSide_counterTo]

/-- The bounds of a counter are said by its limit fields. -/
theorem Dev.fbLo_congr {d e : Dev} {p : Nat} (hen : e.rd (fbLimEn p) = d.rd (fbLimEn p)) (hlo : e.rd (fbLimLo p) = d.rd (fbLimLo p)) :
    e.fbLo p = d.fbLo p := by
  simp [Dev.fbLo, Dev.on, Dev.rdS, hen, hlo]

theorem Dev.fbHi_congr {d e : Dev} {p : Nat} (hen : e.rd (fbLimEn p) = d.rd (fbLimEn p)) (hhi : e.rd (fbLimHi p) = d.rd (fbLimHi p)) :
    e.fbHi p = d.fbHi p := by
  simp [Dev.fbHi, Dev.on, Dev.rdS, hen, hhi]

/-- The counter of port p lies within its bounds, with room for a count either way (R233). -/
structure Dev.Inside (d : Dev) (p : Nat) : Prop where
  low : -(2 ^ 47) < d.rdS (fbPos p)
  high : d.rdS (fbPos p) < 2 ^ 47 - 1
  aboveLo : d.fbLo p < d.rdS (fbPos p)
  belowHi : d.rdS (fbPos p) < d.fbHi p

theorem Dev.Inside.congr {d e : Dev} {p : Nat} (h : d.Inside p)
    (heq : ∀ f ∈ [fbPos p, fbLimEn p, fbLimLo p, fbLimHi p], e.rd f = d.rd f) : e.Inside p := by
  have hpos : e.rdS (fbPos p) = d.rdS (fbPos p) := by rw [Dev.rdS, Dev.rdS, heq _ (by simp)]
  have hlo : e.fbLo p = d.fbLo p := Dev.fbLo_congr (heq _ (by simp)) (heq _ (by simp))
  have hhi : e.fbHi p = d.fbHi p := Dev.fbHi_congr (heq _ (by simp)) (heq _ (by simp))
  exact ⟨hpos ▸ h.low, hpos ▸ h.high, hlo ▸ hpos ▸ h.aboveLo, hhi ▸ hpos ▸ h.belowHi⟩

/-- What a count of one within the bounds leaves on the feedback side: the direction and the estimator follow it, and the counter takes the
step, turned round by INVERT (R216). -/
theorem Dev.fbSide_fbCount (d : Dev) (mem : Mem) (p t q : Nat) (neg : Bool) (h : d.Inside p) :
    ∃ g, (d.fbCount mem p t q 1 neg).fbSide =
      ((((d.countSpeed p q 1 (neg != d.on (fbInvert p))).modFbp p g).wr (fbAtLimit p) 0).wrS (fbPos p)
        (d.rdS (fbPos p) + if neg != d.on (fbInvert p) then -1 else 1)).fbSide := by
  generalize hn : (neg != d.on (fbInvert p)) = n
  refine ⟨fun x => { x with since := x.since + 1 }, ?_⟩
  have hin : ((d.countSpeed p q 1 n).modFbp p (fun x => { x with since := x.since + 1 })).Inside p := by
    refine h.congr fun f hf => ?_
    rw [Dev.rd_modFbp]
    refine Dev.rd_countSpeed d p q 1 n f ?_
    simp only [List.mem_cons, List.not_mem_nil, or_false] at hf
    obtain rfl | rfl | rfl | rfl := hf <;>
      simp [speedFlds, fbPos, fbLimEn, fbLimLo, fbLimHi, fbDir, fbEst, fbStill, pageEvent, pageSticky]
  have hpos : ((d.countSpeed p q 1 n).modFbp p (fun x => { x with since := x.since + 1 })).rdS (fbPos p) = d.rdS (fbPos p) := by
    rw [Dev.rdS, Dev.rdS, Dev.rd_modFbp, Dev.rd_countSpeed]
    simp [speedFlds, fbPos, fbDir, fbEst, fbStill, pageEvent, pageSticky]
  have hstep := Dev.fbSide_stepCounter _ mem p t n hin.aboveLo hin.belowHi
  rw [hpos] at hstep
  unfold Dev.fbCount
  simp only [hn]
  exact hstep

/-- A count of one within the bounds moves the counter by one (R217). -/
theorem Dev.rdS_fbPos_fbCount (d : Dev) (mem : Mem) (p t q : Nat) (neg : Bool) (h : d.Inside p) :
    (d.fbCount mem p t q 1 neg).rdS (fbPos p) = d.rdS (fbPos p) + if neg != d.on (fbInvert p) then -1 else 1 := by
  obtain ⟨g, hside⟩ := Dev.fbSide_fbCount d mem p t q neg h
  have hlow := h.low
  have hhigh := h.high
  rw [Dev.rdS, Dev.rd_of_fbSide hside _ rfl]
  exact Dev.rdS_wrS_fbPos _ p _ (by split <;> omega) (by split <;> omega)

/-- Any other field of the port but those of `speedFlds` and AT_LIMIT reads as before. -/
theorem Dev.rd_fbCount (d : Dev) (mem : Mem) (p t q : Nat) (neg : Bool) (h : d.Inside p) (f : Fld) (hf : f.pg.isFb = true)
    (hspeed : f ∉ speedFlds p) (hlim : f ≠ fbAtLimit p) (hpos : f ≠ fbPos p) : (d.fbCount mem p t q 1 neg).rd f = d.rd f := by
  obtain ⟨g, hside⟩ := Dev.fbSide_fbCount d mem p t q neg h
  rw [Dev.rd_of_fbSide hside f hf, Dev.wrS, Dev.rd_wr_ne _ _ _ _ hpos.symm, Dev.rd_wr_ne _ _ _ _ hlim.symm, Dev.rd_modFbp,
    Dev.rd_countSpeed _ _ _ _ _ _ hspeed]

theorem Dev.fbCount_pins (d : Dev) (mem : Mem) (p t q : Nat) (neg : Bool) (h : d.Inside p) :
    (d.fbCount mem p t q 1 neg).pins = d.pins := by
  obtain ⟨g, hside⟩ := Dev.fbSide_fbCount d mem p t q neg h
  rw [Dev.pins_of_fbSide hside, Dev.wrS, Dev.wr_pins, Dev.wr_pins, Dev.modFbp_pins, Dev.countSpeed_pins]

/-! ### An illegal transition (R217) -/

theorem Dev.rd_illegalEdge (d : Dev) (p q : Nat) (f : Fld)
    (h : f ∉ [fbIllegalCount p, pageEvent (.fb p), pageSticky (.fb p), fbPosValid p]) : (d.illegalEdge p q).rd f = d.rd f := by
  simp only [List.mem_cons, List.not_mem_nil, or_false, not_or] at h
  obtain ⟨hcount, hev, hst, hvalid⟩ := h
  unfold Dev.illegalEdge
  rw [Dev.rd_modFbp, Dev.rd_wr_ne _ _ _ _ (Ne.symm hvalid), Dev.rd_ev_ne _ _ _ _ hev hst, Dev.rd_inc_ne _ _ _ (Ne.symm hcount)]

@[simp] theorem Dev.illegalEdge_pins (d : Dev) (p q : Nat) : (d.illegalEdge p q).pins = d.pins := by
  simp [Dev.illegalEdge]

/-- The reports of an illegal transition: POS_VALID falls, and the event and its sticky bit are set. -/
theorem Dev.illegalEdge_reports (d : Dev) (p q : Nat) :
    (d.illegalEdge p q).rd (fbPosValid p) = 0 ∧ bitAt ((d.illegalEdge p q).rd (pageEvent (.fb p))) 3 = true ∧
      bitAt ((d.illegalEdge p q).rd (pageSticky (.fb p))) 3 = true := by
  have hev : fbPosValid p ≠ pageEvent (.fb p) := by simp [fbPosValid, pageEvent]
  have hst : fbPosValid p ≠ pageSticky (.fb p) := by simp [fbPosValid, pageSticky]
  unfold Dev.illegalEdge
  simp only [Dev.rd_modFbp]
  refine ⟨Dev.rd_wr_same _ _ _, ?_, ?_⟩
  · rw [Dev.rd_wr_ne _ _ _ _ hev]
    exact Dev.bitAt_ev_event _ _ 3 (by decide)
  · rw [Dev.rd_wr_ne _ _ _ _ hst]
    exact Dev.bitAt_ev_sticky _ _ 3 (by decide) (by simp [eventOnly, bitAt])

/-- FB_ILLEGAL_COUNT counts it, below its largest value. -/
theorem Dev.rd_fbIllegalCount_illegalEdge (d : Dev) (p q : Nat) (h : d.rd (fbIllegalCount p) + 1 < 2 ^ (fbIllegalCount p).w) :
    (d.illegalEdge p q).rd (fbIllegalCount p) = d.rd (fbIllegalCount p) + 1 := by
  unfold Dev.illegalEdge
  rw [Dev.rd_modFbp, Dev.rd_wr_ne _ _ _ _ (by simp [fbPosValid, fbIllegalCount]),
    Dev.rd_ev_ne _ _ _ _ (by simp [fbIllegalCount, pageEvent]) (by simp [fbIllegalCount, pageSticky]), Dev.rd_inc_same _ _ h]

/-! ### Edges (R210, R217, R219) -/

/-- The block once the levels of the lines of port p at the pins have moved. -/
def Dev.linesAt (d : Dev) (p raw : Nat) : Dev := { d with pins := { d.pins with fb := tabSet d.pins.fb p raw } }

/-- The block once an edge of the lines of port p has passed its receiver: the levels at the pins, and those that the port sees. -/
def Dev.edgeSeen (d : Dev) (p lines : Nat) : Dev := (d.linesAt p lines).wr (fbLines p) lines

theorem Dev.rd_edgeSeen_ne (d : Dev) (p lines : Nat) (f : Fld) (h : fbLines p ≠ f) : (d.edgeSeen p lines).rd f = d.rd f :=
  Dev.rd_wr_ne _ _ _ _ h

theorem Dev.rd_fbLines_edgeSeen (d : Dev) (p lines : Nat) (h : lines < 8) : (d.edgeSeen p lines).rd (fbLines p) = lines :=
  (Dev.rd_wr_same _ _ _).trans (Nat.mod_eq_of_lt h)

/-- Before the end of step 2 of start-up an edge only moves the level (R75). -/
theorem effFbEdge_early (p fine lines t : Nat) (mem : Mem) (d : Dev) (h : d.stepsDone < 2) (hl : lines < 8) :
    effFbEdge p fine lines t mem d = d.linesAt p lines := by
  simp only [effFbEdge, Nat.mod_eq_of_lt hl]
  exact if_pos h

/-- The work of an edge that moved the lines from old to new, by the mode of the port (R215). -/
def Dev.edgeBy (d : Dev) (mem : Mem) (p t q old new : Nat) : Dev :=
  match d.rd (fbMode p) with
  | 1 => d.quadEdge mem p t q old new
  | 2 => d.hallEdge mem p t q new
  | 3 => if !bitAt old 0 && bitAt new 0 then d.toothEdge mem p t q else d
  | _ => d

/-- From step 2 on, and with no pair that has tripped the wire check, every line of an edge is seen (R214). -/
theorem effFbEdge_seen (p fine lines t : Nat) (mem : Mem) (d : Dev) (hsteps : 2 ≤ d.stepsDone) (hwire : d.rd (fbWire p) = 0)
    (hl : lines < 8) :
    effFbEdge p fine lines t mem d = (d.edgeSeen p lines).edgeBy mem p t (4 * t + fine) (d.rd (fbLines p)) lines := by
  have hnew : (lines - (lines &&& d.rd (fbWire p))) ||| (d.rd (fbLines p) &&& d.rd (fbWire p)) = lines := by simp [hwire]
  have hdef : effFbEdge p fine lines t mem d = if d.stepsDone < 2 then d.linesAt p (lines % 8) else
      ((d.linesAt p (lines % 8)).wr (fbLines p)
        ((lines % 8 - (lines % 8 &&& d.rd (fbWire p))) ||| (d.rd (fbLines p) &&& d.rd (fbWire p)))).edgeBy mem p t (4 * t + fine)
          (d.rd (fbLines p)) ((lines % 8 - (lines % 8 &&& d.rd (fbWire p))) ||| (d.rd (fbLines p) &&& d.rd (fbWire p))) := rfl
  rw [hdef, if_neg (Nat.not_lt.mpr hsteps), Nat.mod_eq_of_lt hl, hnew]
  rfl

theorem Dev.rd_fbMode_edgeSeen (d : Dev) (p lines : Nat) : (d.edgeSeen p lines).rd (fbMode p) = d.rd (fbMode p) :=
  Dev.rd_edgeSeen_ne d p lines _ (by simp [fbLines, fbMode])

theorem Dev.edgeBy_quad (d : Dev) (mem : Mem) (p t q old new : Nat) (h : d.rd (fbMode p) = 1) :
    d.edgeBy mem p t q old new = d.quadEdge mem p t q old new := by
  simp only [Dev.edgeBy, h]

theorem Dev.edgeBy_hall (d : Dev) (mem : Mem) (p t q old new : Nat) (h : d.rd (fbMode p) = 2) :
    d.edgeBy mem p t q old new = d.hallEdge mem p t q new := by
  simp only [Dev.edgeBy, h]

/-- An invalid Hall state has no sector, and its edge does nothing (R220). -/
theorem Dev.hallEdge_invalid (d : Dev) (mem : Mem) (p t q lines : Nat) (h : lines = 0 ∨ lines = 7) : d.hallEdge mem p t q lines = d := by
  have hnone : hallSector (d.on (fbHallReverse p)) lines = none := by obtain rfl | rfl := h <;> rfl
  simp only [Dev.hallEdge, hnone]

/-- A quadrature edge by its phase (R217), where no line of it is a reference: nothing, a count up, an illegal transition, or a count
down. -/
theorem Dev.quadEdge_by_phase (d : Dev) (mem : Mem) (p t q old new : Nat) (h : d.Inside p)
    (hz : d.rd (fbZUsed p) = 0 ∨ bitAt new 2 = bitAt old 2) :
    ((quadPhase new + 4 - quadPhase old) % 4 = 0 → d.quadEdge mem p t q old new = d) ∧
    ((quadPhase new + 4 - quadPhase old) % 4 = 1 → d.quadEdge mem p t q old new = d.fbCount mem p t q 1 false) ∧
    ((quadPhase new + 4 - quadPhase old) % 4 = 2 → d.quadEdge mem p t q old new = d.illegalEdge p q) ∧
    ((quadPhase new + 4 - quadPhase old) % 4 = 3 → d.quadEdge mem p t q old new = d.fbCount mem p t q 1 true) := by
  have hnoref : ∀ e : Dev, e.rd (fbZUsed p) = d.rd (fbZUsed p) → (e.on (fbZUsed p) && !bitAt old 2 && bitAt new 2) = false := by
    intro e he
    obtain hz | hz := hz
    · simp [Dev.on, he, hz]
    · cases hb : bitAt old 2 <;> simp [hz, hb]
  have hcount : ∀ neg, (d.fbCount mem p t q 1 neg).rd (fbZUsed p) = d.rd (fbZUsed p) := fun neg =>
    Dev.rd_fbCount d mem p t q neg h _ rfl
      (by simp [speedFlds, fbZUsed, fbDir, fbEst, fbStill, pageEvent, pageSticky]) (by simp [fbZUsed, fbAtLimit]) (by simp [fbZUsed, fbPos])
  have hillegal : (d.illegalEdge p q).rd (fbZUsed p) = d.rd (fbZUsed p) :=
    Dev.rd_illegalEdge d p q _ (by simp [fbZUsed, fbIllegalCount, pageEvent, pageSticky, fbPosValid])
  unfold Dev.quadEdge
  refine ⟨fun hk => ?_, fun hk => ?_, fun hk => ?_, fun hk => ?_⟩
  · simp [hk, hnoref d rfl]
  · simp [hk, hnoref _ (hcount false)]
  · simp [hk, hnoref _ hillegal]
  · simp [hk, hnoref _ (hcount true)]

/-- What every count and an illegal transition keep, such an edge keeps. -/
theorem Dev.quadEdge_keeps {α : Type} (g : Dev → α) (d : Dev) (mem : Mem) (p t q old new : Nat) (h : d.Inside p)
    (hz : d.rd (fbZUsed p) = 0 ∨ bitAt new 2 = bitAt old 2) (hcount : ∀ neg, g (d.fbCount mem p t q 1 neg) = g d)
    (hillegal : g (d.illegalEdge p q) = g d) : g (d.quadEdge mem p t q old new) = g d := by
  obtain ⟨hstill, hup, hill, hdown⟩ := Dev.quadEdge_by_phase d mem p t q old new h hz
  have hphase : (quadPhase new + 4 - quadPhase old) % 4 < 4 := Nat.mod_lt _ (by decide)
  generalize (quadPhase new + 4 - quadPhase old) % 4 = k at *
  match k, hphase with
  | 0, _ => rw [hstill rfl]
  | 1, _ => rw [hup rfl, hcount]
  | 2, _ => rw [hill rfl, hillegal]
  | 3, _ => rw [hdown rfl, hcount]

theorem Dev.quadEdge_pins (d : Dev) (mem : Mem) (p t q old new : Nat) (h : d.Inside p)
    (hz : d.rd (fbZUsed p) = 0 ∨ bitAt new 2 = bitAt old 2) : (d.quadEdge mem p t q old new).pins = d.pins :=
  Dev.quadEdge_keeps Dev.pins d mem p t q old new h hz (fun neg => Dev.fbCount_pins d mem p t q neg h) (Dev.illegalEdge_pins d p q)

theorem Dev.rd_fbLines_quadEdge (d : Dev) (mem : Mem) (p t q old new : Nat) (h : d.Inside p)
    (hz : d.rd (fbZUsed p) = 0 ∨ bitAt new 2 = bitAt old 2) : (d.quadEdge mem p t q old new).rd (fbLines p) = d.rd (fbLines p) :=
  Dev.quadEdge_keeps (fun d => d.rd (fbLines p)) d mem p t q old new h hz
    (fun neg => Dev.rd_fbCount d mem p t q neg h _ rfl (by simp [speedFlds, fbLines, fbDir, fbEst, fbStill, pageEvent, pageSticky])
      (by simp [fbLines, fbAtLimit]) (by simp [fbLines, fbPos]))
    (Dev.rd_illegalEdge d p q _ (by simp [fbLines, fbIllegalCount, pageEvent, pageSticky, fbPosValid]))

/-- The outcome of an edge at the lines of a port. -/
theorem exec_fbEdge (s : State) (t : Nat) (p : Fin 24) (fine : Fin 4) (lines : Fin 8) (hs : s.ready t) :
    exec (.fbEdge t p fine lines) s = .next { s with
      dev := (s.dev.at_ t).keepNv (effFbEdge p fine lines (s.when_ t) s.mem (s.dev.at_ t)) } :=
  onPinRead_next t s (fun t mem d => effFbEdge p fine lines t mem d) hs

/-- The outcome of an edge that is seen. -/
theorem exec_fbEdge_seen (s : State) (t : Nat) (p : Fin 24) (fine : Fin 4) (lines : Fin 8) (hs : s.ready t)
    (hsteps : 2 ≤ s.dev.stepsDone) (hwire : s.dev.rd (fbWire p) = 0) :
    exec (.fbEdge t p fine lines) s = .next { s with
      dev := (s.dev.at_ t).keepNv (((s.dev.at_ t).edgeSeen p lines).edgeBy s.mem p (s.when_ t) (4 * s.when_ t + fine)
        (s.dev.rd (fbLines p)) lines) } := by
  rw [exec_fbEdge s t p fine lines hs, effFbEdge_seen p fine lines (s.when_ t) s.mem (s.dev.at_ t) hsteps hwire lines.isLt]
  rfl

/-- An edge that is seen leaves the counter inside its bounds. -/
theorem Dev.Inside.edgeSeen {d : Dev} {p : Nat} (h : d.Inside p) (lines : Nat) : (d.edgeSeen p lines).Inside p := by
  refine h.congr fun f hf => Dev.rd_edgeSeen_ne d p lines f ?_
  simp only [List.mem_cons, List.not_mem_nil, or_false] at hf
  obtain rfl | rfl | rfl | rfl := hf <;> simp [fbLines, fbPos, fbLimEn, fbLimLo, fbLimHi]

/-- A count after an edge that is seen: the counter moves by one, turned round by INVERT (R216, R217). -/
theorem Dev.rdS_fbPos_count_edgeSeen (d : Dev) (mem : Mem) (p t q lines : Nat) (neg : Bool) (h : d.Inside p) :
    ((d.edgeSeen p lines).fbCount mem p t q 1 neg).rdS (fbPos p) =
      d.rdS (fbPos p) + (if neg = d.on (fbInvert p) then 1 else -1) := by
  have hpos : (d.edgeSeen p lines).rdS (fbPos p) = d.rdS (fbPos p) :=
    congrArg (signedOf 64) (Dev.rd_edgeSeen_ne d p lines _ (by simp [fbLines, fbPos]))
  have hinv : (d.edgeSeen p lines).on (fbInvert p) = d.on (fbInvert p) :=
    congrArg (· != 0) (Dev.rd_edgeSeen_ne d p lines _ (by simp [fbLines, fbInvert]))
  rw [Dev.rdS_fbPos_fbCount _ mem p t q neg (h.edgeSeen lines), hpos, hinv]
  cases neg <;> cases d.on (fbInvert p) <;> rfl

/-- Settles O28: an edge goes by its phase (`Dev.quadEdge_by_phase`), and whatever the phase, the pins and the lines stay as seen
(`Dev.quadEdge_pins`, `Dev.rd_fbLines_quadEdge`); before step 2 it is `effFbEdge_early`. -/
theorem quadratureCounts : Obligations.QuadratureCounts := by
  intro s t p fine lines hs
  refine ⟨fun hsteps hmode hwire hz hlow hhigh hlo hhi => ?_, fun hearly => ?_⟩
  · have hquad : ((s.dev.at_ t).edgeSeen p lines).rd (fbMode p) = 1 := (Dev.rd_fbMode_edgeSeen _ _ _).trans hmode
    refine ⟨_, exec_fbEdge_seen s t p fine lines hs hsteps hwire, ?_⟩
    rw [Dev.edgeBy_quad _ _ _ _ _ _ _ hquad]
    generalize 4 * s.when_ t + fine.val = q
    have hd : (s.dev.at_ t).Inside p := ⟨hlow, hhigh, hlo, hhi⟩
    have hcount := fun neg => Dev.rdS_fbPos_count_edgeSeen (s.dev.at_ t) s.mem p (s.when_ t) q lines neg hd
    have hrd : ∀ f, fbLines p ≠ f → ((s.dev.at_ t).edgeSeen p lines).rd f = s.dev.rd f := Dev.rd_edgeSeen_ne (s.dev.at_ t) p lines
    have hlines := Dev.rd_fbLines_edgeSeen (s.dev.at_ t) p lines lines.isLt
    have hpins : ((s.dev.at_ t).edgeSeen p lines).pins = { s.dev.pins with fb := tabSet s.dev.pins.fb p lines } := rfl
    have hin := hd.edgeSeen lines
    generalize (s.dev.at_ t).edgeSeen p lines = e at hcount hrd hlines hpins hin
    have hpos : e.rd (fbPos p) = s.dev.rd (fbPos p) := hrd _ (by simp [fbLines, fbPos])
    have hzused : e.rd (fbZUsed p) = 0 ∨ bitAt lines 2 = bitAt (s.dev.rd (fbLines p)) 2 := by
      rwa [hrd _ (by simp [fbLines, fbZUsed])]
    have hcnt : e.rd (fbIllegalCount p) = s.dev.rd (fbIllegalCount p) := hrd _ (by simp [fbLines, fbIllegalCount])
    obtain ⟨hstill, hup, hill, hdown⟩ := Dev.quadEdge_by_phase e s.mem p (s.when_ t) q _ lines hin hzused
    have hkeepPins := Dev.quadEdge_pins e s.mem p (s.when_ t) q _ lines hin hzused
    have hkeepLines := Dev.rd_fbLines_quadEdge e s.mem p (s.when_ t) q _ lines hin hzused
    obtain ⟨hvalid, hevent, hsticky⟩ := Dev.illegalEdge_reports e p q
    generalize e.quadEdge s.mem p (s.when_ t) q (s.dev.rd (fbLines p)) lines = e' at hstill hup hill hdown hkeepPins hkeepLines
    have hpins' : ((s.dev.at_ t).keepNv e').pins = { s.dev.pins with fb := tabSet s.dev.pins.fb p lines } := hkeepPins.trans hpins
    refine ⟨hkeepLines.trans hlines, ?_, ?_, fun hk => ?_, fun hk => ?_, fun hk => ?_, fun hk => ?_⟩
    · rw [hpins']
    · rw [hpins']
      exact tabGet_tabSet_same _ _ _
    · rw [hstill hk]
      exact hpos
    · rw [hup hk]
      refine (hcount false).trans ?_
      by_cases hinv : s.dev.rd (fbInvert p) = 0 <;> simp [Dev.on, Dev.rdS, hinv]
    · rw [hdown hk]
      refine (hcount true).trans ?_
      by_cases hinv : s.dev.rd (fbInvert p) = 0 <;> simp [Dev.on, Dev.rdS, hinv, Int.sub_eq_add_neg]
    · rw [hill hk]
      refine ⟨(Dev.rd_illegalEdge e p q _ (by simp [fbPos, fbIllegalCount, pageEvent, pageSticky, fbPosValid])).trans hpos, hvalid, hevent,
        hsticky, fun hbelow => ?_⟩
      rw [← hcnt] at hbelow ⊢
      exact Dev.rd_fbIllegalCount_illegalEdge e p q (Nat.add_lt_of_lt_sub hbelow)
  · refine ⟨_, exec_fbEdge s t p fine lines hs, ?_⟩
    have hpins : (s.dev.at_ t).pins = s.dev.pins := rfl
    rw [effFbEdge_early p fine lines (s.when_ t) s.mem (s.dev.at_ t) hearly lines.isLt, ← hpins]
    generalize s.dev.at_ t = d
    exact ⟨tabGet_tabSet_same _ _ _, rfl⟩

end Sys2Proof.Machine
end

section
/-! SUPPORT. The faults of a feedback port (R244), on every axis that names it, and the statement on the limits of a port (R218, R220,
R226). -/
namespace Sys2Proof.Machine

/-! ### A fault of a port (R244, R287) -/

/-- A list of operations after which its property holds for each member, when each operation keeps what the others have made true. -/
theorem Dev.each_forall {P : Nat → Dev → Prop} (f : Nat → Dev → Dev) (hset : ∀ n d, P n (f n d)) (hkeep : ∀ n k d, P k d → P k (f n d))
    (l : List Nat) (d : Dev) : ∀ n ∈ l, P n (d.each l f) := by
  have hlater : ∀ (l : List Nat) (k : Nat) (d : Dev), P k d → P k (d.each l f) := by
    intro l k
    induction l with
    | nil => exact fun d h => h
    | cons m l ih => exact fun d h => ih _ (hkeep m k d h)
  induction l generalizing d with
  | nil => exact fun n hn => absurd hn List.not_mem_nil
  | cons m l ih =>
    intro n hn
    obtain rfl | hn := List.mem_cons.mp hn
    · exact hlater l n _ (hset n d)
    · exact ih _ n hn

/-- The pairs that are active are said by the list of the active faults. -/
theorem Dev.isActive_congr {d e : Dev} (h : d.active = e.active) (code inst : Nat) : d.isActive code inst = e.isActive code inst := by
  unfold Dev.isActive
  rw [h]

/-- The response to a loss of feedback is one of the axis state machine (R287). -/
@[simp] theorem Dev.offAxis_fbLoss (d : Dev) (n p own t : Nat) : (d.fbLoss n p own t).offAxis = d.offAxis := by
  unfold Dev.fbLoss
  split
  · simp
  · simp
  · split <;> rfl

/-- A feedback-loss fault is raised, and the response to it reaches the axis state machine alone. -/
theorem Dev.offAxis_raiseLoss (d : Dev) (code n p data t : Nat) :
    (d.raiseLoss code n p data t).offAxis = (d.raise code n 9 data t).offAxis := by
  unfold Dev.raiseLoss
  dsimp only
  split <;> simp

theorem Dev.raiseLoss_active (d : Dev) (code n p data t : Nat) (h : (faultRow code).kind ≠ 0) :
    (d.raiseLoss code n p data t).isActive code n = true := by
  rw [Dev.isActive_congr (Dev.active_of_offAxis (Dev.offAxis_raiseLoss d code n p data t))]
  exact Dev.raise_active d code n 9 data t h

theorem Dev.raiseLoss_keeps_active (d : Dev) (code n p data t c i : Nat) (h : d.isActive c i = true) :
    (d.raiseLoss code n p data t).isActive c i = true := by
  rw [Dev.isActive_congr (Dev.active_of_offAxis (Dev.offAxis_raiseLoss d code n p data t))]
  exact Dev.raise_keeps_active d code n 9 data t c i h

/-- A fault of a port raised on one axis. -/
def Dev.raiseOn (code p data t : Nat) (loss : Bool) (n : Nat) (d : Dev) : Dev :=
  if loss then d.raiseLoss code n p data t else d.raise code n 9 data t

theorem Dev.raiseOn_active (code p data t : Nat) (loss : Bool) (n : Nat) (d : Dev) (h : (faultRow code).kind ≠ 0) :
    (Dev.raiseOn code p data t loss n d).isActive code n = true := by
  unfold Dev.raiseOn
  split
  · exact Dev.raiseLoss_active _ _ _ _ _ _ h
  · exact Dev.raise_active _ _ _ _ _ _ h

theorem Dev.raiseOn_keeps_active (code p data t : Nat) (loss : Bool) (n : Nat) (d : Dev) (c i : Nat) (h : d.isActive c i = true) :
    (Dev.raiseOn code p data t loss n d).isActive c i = true := by
  unfold Dev.raiseOn
  split
  · exact Dev.raiseLoss_keeps_active _ _ _ _ _ _ _ _ h
  · exact Dev.raise_keeps_active _ _ _ _ _ _ _ _ h

theorem Dev.offFault_raiseOn (code p data t : Nat) (loss : Bool) (n : Nat) (d : Dev) :
    (Dev.raiseOn code p data t loss n d).offFault = d.offFault := by
  unfold Dev.raiseOn
  split
  · rw [Dev.offFault_of_offAxis (Dev.offAxis_raiseLoss _ _ _ _ _ _), Dev.offFault_raise]
  · exact Dev.offFault_raise _ _ _ _ _ _

/-- An axis notes the port for which 0x1601 is raised on it (R214). -/
def Dev.notePort (code p n : Nat) (d : Dev) : Dev :=
  d.when_ (code == 0x1601) (fun d => d.modAx n (fun a => { a with
    wirePorts := (if d.isActive 0x1601 n then a.wirePorts else 0) ||| 2 ^ p }))

theorem Dev.offFault_notePort (code p n : Nat) (d : Dev) : (Dev.notePort code p n d).offFault = d.offFault := by
  unfold Dev.notePort Dev.when_
  split <;> rfl

theorem Dev.active_notePort (code p n : Nat) (d : Dev) : (Dev.notePort code p n d).active = d.active := by
  unfold Dev.notePort Dev.when_
  split <;> rfl

theorem Dev.raisePort_eq (d : Dev) (code p data t : Nat) (loss : Bool) :
    d.raisePort code p data t loss = d.each (d.naming p) (fun n d => Dev.raiseOn code p data t loss n (Dev.notePort code p n d)) := rfl

/-- A fault of a port changes what raising a fault may change, and nothing else. -/
@[simp] theorem Dev.offFault_raisePort (d : Dev) (code p data t : Nat) (loss : Bool) : (d.raisePort code p data t loss).offFault = d.offFault := by
  rw [Dev.raisePort_eq]
  refine Dev.each_keeps Dev.offFault _ (fun n d => ?_) _ _
  rw [Dev.offFault_raiseOn, Dev.offFault_notePort]

@[simp] theorem Dev.fbSide_raisePort (d : Dev) (code p data t : Nat) (loss : Bool) : (d.raisePort code p data t loss).fbSide = d.fbSide :=
  Dev.fbSide_of_offFault (Dev.offFault_raisePort d code p data t loss)

/-- A fault of a port is active on every axis that names it (R244). -/
theorem Dev.raisePort_active (d : Dev) (code p data t : Nat) (loss : Bool) (h : (faultRow code).kind ≠ 0) :
    ∀ n ∈ d.naming p, (d.raisePort code p data t loss).isActive code n = true := by
  rw [Dev.raisePort_eq]
  refine Dev.each_forall (P := fun n d => d.isActive code n = true) _ (fun n d => Dev.raiseOn_active _ _ _ _ _ _ _ h)
    (fun n k d hk => Dev.raiseOn_keeps_active _ _ _ _ _ _ _ _ _ ?_) _ d
  exact (Dev.isActive_congr (Dev.active_notePort code p n d) code k).trans hk

/-- Where raising a fault is all that has happened, nothing else differs. -/
theorem Dev.onlyFault_of_offFault {d d' : Dev} (h : d'.offFault = d.offFault) (fs : List Fld) : d.onlyFault d' fs := by
  have hrd : ∀ f, f.pg.faultSide = false → d'.rd f = d.rd f := by
    intro f hf
    have hget : ∀ x : Dev, tabGet x.offFault.regs f = tabGet x.regs f := fun x =>
      tabGet_filter (fun f : Fld => !f.pg.faultSide) x.regs f (by simp [hf])
    unfold Dev.rd
    rw [← hget d, ← hget d', h]
  refine ⟨?_, fun f _ hf => hrd f hf⟩
  calc d' = { d'.offFault with
              regs := d'.regs, axes := d'.axes, profs := d'.profs, queue := d'.queue, lostPend := d'.lostPend,
              startBuf := d'.startBuf, bufOver := d'.bufOver, active := d'.active, deferred := d'.deferred, evtTick := d'.evtTick } := rfl
    _ = _ := by rw [h]; rfl

/-- What the combinator puts back is no matter of a fault. -/
theorem Dev.offFault_keepAll {d e : Dev} (h : e.offFault = d.offFault) : (d.keepAll e).offFault = d.offFault := by
  calc (d.keepAll e).offFault
      = { e.offFault with now := d.now, running := d.running, pins := d.pins, nv := d.nv, tap := d.tap } := rfl
    _ = d.offFault := by rw [h]; rfl

/-- The axes that name a port are said by the FB_SELECT fields. -/
theorem Dev.naming_congr {d e : Dev} (h : ∀ n, e.rd (fbCommPort n) = d.rd (fbCommPort n) ∧ e.rd (fbPosPort n) = d.rd (fbPosPort n)) (p : Nat) :
    e.naming p = d.naming p := by
  unfold Dev.naming
  simp only [h]

/-- A command whose only effect is a fault of a port. -/
theorem gives_raisePort {c : Instr} {s : State} {t : Nat} {f : Nat → Dev → Dev} (hs : s.ready t) (hc : exec c s = onDev t s f)
    {code p data u : Nat} {loss : Bool}
    (hf : f (s.when_ t) (s.dev.at_ t) = (s.dev.at_ t).raisePort code p data u loss)
    (hk : (faultRow code).kind ≠ 0) :
    s.gives c (fun d' => (∀ n ∈ s.dev.naming p, d'.isActive code n = true) ∧ (s.dev.at_ t).onlyFault d' []) := by
  have hnaming : (s.dev.at_ t).naming p = s.dev.naming p := rfl
  refine ⟨_, hc.trans (onDev_next t s f hs), ?_⟩
  rw [hf, ← hnaming]
  generalize s.dev.at_ t = d
  refine ⟨?_, ?_⟩
  · exact Dev.raisePort_active d code p data u loss hk
  · exact Dev.onlyFault_of_offFault (Dev.offFault_keepAll (Dev.offFault_raisePort _ _ _ _ _ _)) []

/-- A command whose effect is none. -/
theorem exec_passed {c : Instr} {s : State} {t : Nat} {f : Nat → Dev → Dev} (hs : s.ready t) (hc : exec c s = onDev t s f)
    (hf : f (s.when_ t) (s.dev.at_ t) = s.dev.at_ t) : exec c s = .next (s.passed t) := by
  rw [hc, onDev_next t s f hs, hf, Dev.keepAll_self]
  rfl

/-! ### The limits of a port (R218, R220, R226) -/

theorem exec_hallInvalid (s : State) (t : Nat) (p : Fin 24) (hs : s.ready t) :
    exec (.hallInvalid t p) s = .next { s with dev := (s.dev.at_ t).keepAll (effHallInvalid p (s.when_ t) (s.dev.at_ t)) } :=
  onDev_next t s (fun t d => effHallInvalid p t d) hs

/-- The block that shows an invalid Hall state (R220). -/
theorem Dev.rd_hallBad_raisePort (d : Dev) (p code data t : Nat) (loss : Bool) (f : Fld) (hf : f.pg.isFb = true) :
    ((d.wr (fbHallBad p) 1).raisePort code p data t loss).rd f = (d.wr (fbHallBad p) 1).rd f :=
  Dev.rd_of_fbSide (Dev.fbSide_raisePort _ _ _ _ _ _) f hf

/-- Settles O29: beyond a limit the command is `Dev.raisePort` (`gives_raisePort`), and below it nothing (`exec_passed`). -/
theorem feedbackFaults : Obligations.FeedbackFaults := by
  intro s t p hs
  refine ⟨fun h => ?_, fun h => ?_, fun h => ?_, fun h => ?_, fun hmode hlines => ?_, fun fine lines hmode hwire hlines => ?_, fun h => ?_⟩
  · exact gives_raisePort (f := effIllegalLimit p) hs rfl (if_pos h) (by decide)
  · exact exec_passed (f := effIllegalLimit p) hs rfl (if_neg h)
  · exact gives_raisePort (f := effRefLimit p) hs rfl (if_pos h) (by decide)
  · exact exec_passed (f := effRefLimit p) hs rfl (if_neg h)
  · refine ⟨_, exec_hallInvalid s t p hs, ?_⟩
    have heff : effHallInvalid p (s.when_ t) (s.dev.at_ t) = ((s.dev.at_ t).wr (fbHallBad p) 1).raisePort 0x1606 p
        (p + s.dev.rd (fbLines p) * 256) (s.when_ t) true := if_pos ⟨hmode, hlines⟩
    have hnaming : ((s.dev.at_ t).wr (fbHallBad p) 1).naming p = s.dev.naming p := Dev.naming_congr (d := s.dev) (fun n =>
      ⟨Dev.rd_wr_ne _ _ _ _ (by simp [fbHallBad, fbCommPort]), Dev.rd_wr_ne _ _ _ _ (by simp [fbHallBad, fbPosPort])⟩) p
    rw [heff]
    simp only [Dev.rd_keepAll]
    refine ⟨?_, ?_, ?_⟩
    · rw [Dev.rd_hallBad_raisePort _ _ _ _ _ _ _ rfl]
      exact Dev.rd_wr_same _ _ _
    · rw [Dev.rd_hallBad_raisePort _ _ _ _ _ _ _ rfl]
      exact Dev.rd_wr_ne _ _ _ _ (by simp [fbHallBad, fbPos])
    · rw [← hnaming]
      exact Dev.raisePort_active _ 0x1606 p _ _ true (by decide)
  · by_cases hearly : s.dev.stepsDone < 2
    · refine ⟨_, exec_fbEdge s t p fine lines hs, ?_⟩
      rw [effFbEdge_early p fine lines (s.when_ t) s.mem (s.dev.at_ t) hearly lines.isLt]
      rfl
    · have hhall : ((s.dev.at_ t).edgeSeen p lines).rd (fbMode p) = 2 := (Dev.rd_fbMode_edgeSeen _ _ _).trans hmode
      refine ⟨_, exec_fbEdge_seen s t p fine lines hs (Nat.not_lt.mp hearly) hwire, ?_⟩
      rw [Dev.edgeBy_hall _ _ _ _ _ _ _ hhall, Dev.hallEdge_invalid _ _ _ _ _ _ hlines]
      exact (Dev.rd_keepNv _ _ _).trans ((Dev.rd_edgeSeen_ne _ _ _ _ (by simp [fbLines, fbPos])).trans (Dev.rd_at _ _ _))
  · exact exec_passed (f := effHallInvalid p) hs rfl (if_neg h)

end Sys2Proof.Machine
end

section
/-! SUPPORT. The frames of a serial absolute sensor (R227 to R232, R234), and the statement on them. -/
namespace Sys2Proof.Machine

@[simp] theorem Dev.fbp_wr (d : Dev) (f : Fld) (v p : Nat) : (d.wr f v).fbp p = d.fbp p := rfl
@[simp] theorem Dev.fbp_keepAll (d e : Dev) (p : Nat) : (d.keepAll e).fbp p = e.fbp p := rfl

theorem Dev.keepAll_modFbp (d : Dev) (p : Nat) (g : FbPort → FbPort) : d.keepAll (d.modFbp p g) = d.modFbp p g := rfl

theorem Dev.keepsRegs_keepAll (d x e : Dev) (fs : List Fld) : d.keepsRegs (x.keepAll e) fs ↔ d.keepsRegs e fs := Iff.rfl

theorem Dev.rd_when (d : Dev) (b : Bool) (g : Dev → Dev) (f : Fld) : (d.when_ b g).rd f = if b then (g d).rd f else d.rd f := by
  unfold Dev.when_
  split <;> rfl

/-! ### A frame that fails (R231) -/

/-- The fields that a failed frame may write. -/
def failFlds (p : Nat) : List Fld := [fbFrameErr p, fbSserErrs p, pageEvent (.fb p), pageSticky (.fb p)]

theorem Dev.rd_frameFail (d : Dev) (p cause : Nat) (f : Fld) (h : f ∉ failFlds p) : (d.frameFail p cause).rd f = d.rd f := by
  simp only [failFlds, List.mem_cons, List.not_mem_nil, or_false, not_or] at h
  obtain ⟨herr, herrs, hev, hst⟩ := h
  unfold Dev.frameFail
  rw [Dev.rd_modFbp, Dev.rd_inc_ne _ _ _ (Ne.symm herrs), Dev.rd_ev_ne _ _ _ _ hev hst, Dev.rd_wr_ne _ _ _ _ (Ne.symm herr)]

theorem Dev.rd_fbFrameErr_frameFail (d : Dev) (p cause : Nat) : (d.frameFail p cause).rd (fbFrameErr p) = 1 := by
  unfold Dev.frameFail
  rw [Dev.rd_modFbp, Dev.rd_inc_ne _ _ _ (by simp [fbSserErrs, fbFrameErr]),
    Dev.rd_ev_ne _ _ _ _ (by simp [fbFrameErr, pageEvent]) (by simp [fbFrameErr, pageSticky])]
  exact Dev.rd_wr_same _ _ _

theorem Dev.bitAt_event_frameFail (d : Dev) (p cause : Nat) : bitAt ((d.frameFail p cause).rd (pageEvent (.fb p))) 5 = true := by
  unfold Dev.frameFail
  rw [Dev.rd_modFbp, Dev.rd_inc_ne _ _ _ (by simp [fbSserErrs, pageEvent])]
  exact Dev.bitAt_ev_event _ _ 5 (by decide)

theorem Dev.rd_fbSserErrs_frameFail (d : Dev) (p cause : Nat) (h : d.rd (fbSserErrs p) + 1 < 2 ^ (fbSserErrs p).w) :
    (d.frameFail p cause).rd (fbSserErrs p) = d.rd (fbSserErrs p) + 1 := by
  have hsame : ((d.wr (fbFrameErr p) 1).ev (.fb p) 5).rd (fbSserErrs p) = d.rd (fbSserErrs p) := by
    rw [Dev.rd_ev_ne _ _ _ _ (by simp [fbSserErrs, pageEvent]) (by simp [fbSserErrs, pageSticky]),
      Dev.rd_wr_ne _ _ _ _ (by simp [fbFrameErr, fbSserErrs])]
  unfold Dev.frameFail
  rw [Dev.rd_modFbp, Dev.rd_inc_same _ _ (hsame.symm ▸ h), hsame]

/-- The unit of the port after a frame that fails. -/
theorem Dev.fbp_frameFail (d : Dev) (p cause : Nat) (h : p < 24) :
    (d.frameFail p cause).fbp p = { d.fbp p with frameAt := none, errRun := (d.fbp p).errRun + 1, errCause := cause } := by
  have hsame : (((d.wr (fbFrameErr p) 1).ev (.fb p) 5).inc (fbSserErrs p)).fbp p = d.fbp p := by simp [Dev.fbp]
  unfold Dev.frameFail
  rw [Dev.modFbp_fbp_eq _ _ _ h, hsame]

/-- What a failed frame says and leaves, against a block d of which only fields of a list have been written before. -/
theorem Dev.frameFail_outcome (d e : Dev) (p cause : Nat) (fs : List Fld) (hp : p < 24) (hunit : e.fbp p = d.fbp p)
    (herrs : e.rd (fbSserErrs p) = d.rd (fbSserErrs p)) (hregs : d.keepsRegs e fs) :
    (e.frameFail p cause).rd (fbFrameErr p) = 1 ∧ bitAt ((e.frameFail p cause).rd (pageEvent (.fb p))) 5 = true ∧
      ((e.frameFail p cause).fbp p).errRun = (d.fbp p).errRun + 1 ∧ ((e.frameFail p cause).fbp p).errCause = cause ∧
      ((e.frameFail p cause).fbp p).frameAt = none ∧ ((e.frameFail p cause).fbp p).absA = (d.fbp p).absA ∧
      (d.rd (fbSserErrs p) + 1 < 2 ^ (fbSserErrs p).w → (e.frameFail p cause).rd (fbSserErrs p) = d.rd (fbSserErrs p) + 1) ∧
      d.keepsRegs (e.frameFail p cause) (fs ++ failFlds p) := by
  rw [Dev.fbp_frameFail e p cause hp, hunit, ← herrs]
  refine ⟨Dev.rd_fbFrameErr_frameFail e p cause, Dev.bitAt_event_frameFail e p cause, rfl, rfl, rfl, rfl,
    Dev.rd_fbSserErrs_frameFail e p cause, fun f hf => ?_⟩
  obtain ⟨hfs, hfail⟩ := not_or.mp (mt List.mem_append.mpr hf)
  exact (Dev.rd_frameFail e p cause f hfail).trans (hregs f hfs)

/-! ### The start of a frame (R227, R228) -/

theorem exec_sserFrameStart (s : State) (t : Nat) (p : Fin 24) (hs : s.ready t) :
    exec (.sserFrameStart t p) s = .next { s with dev := (s.dev.at_ t).keepAll (effFrameStart p (s.when_ t) (s.dev.at_ t)) } :=
  onDev_next t s (fun t d => effFrameStart p t d) hs

theorem effFrameStart_high (p t : Nat) (d : Dev) (hmode : d.rd (fbMode p) = 4) (hline : bitAt (d.rd (fbLines p)) 0 = true) :
    effFrameStart p t d = d.modFbp p (fun x => { x with frameAt := some (4 * t) }) := by
  simp [effFrameStart, hmode, hline]

theorem effFrameStart_low (p t : Nat) (d : Dev) (hmode : d.rd (fbMode p) = 4) (hline : bitAt (d.rd (fbLines p)) 0 = false) :
    effFrameStart p t d = d.frameFail p 1 := by
  simp [effFrameStart, hmode, hline]

/-! ### The end of a frame (R229, R230, R234) -/

theorem exec_sserFrameEnd (s : State) (t : Nat) (p : Fin 24) (frame : Nat) (hs : s.ready t) :
    exec (.sserFrameEnd t p frame) s = .next { s with dev := (s.dev.at_ t).keepAll (effFrameEnd p frame (s.when_ t) s.mem (s.dev.at_ t)) } :=
  onRead_next t s (fun t mem d => effFrameEnd p frame t mem d) hs

/-- The check of a frame does not read FB_SSER_FRAME. -/
theorem Dev.frameOk_wr_fbSserFrame (d : Dev) (p v frame : Nat) : (d.wr (fbSserFrame p) v).frameOk p frame = d.frameOk p frame := by
  have hkeep : ∀ f : Fld, f.off ≠ 0x0F8 → (d.wr (fbSserFrame p) v).rd f = d.rd f := fun f hf =>
    Dev.rd_wr_ne _ _ _ _ fun h => hf (h ▸ rfl)
  unfold Dev.frameOk Dev.on
  rw [hkeep (fbCrcWidth p) (by simp [fbCrcWidth]), hkeep (fbCrcPoly p) (by simp [fbCrcPoly]),
    hkeep (fbSserLen p) (by simp [fbSserLen]), hkeep (fbCrcInv p) (by simp [fbCrcInv])]

theorem effFrameEnd_notStarted (p frame t : Nat) (mem : Mem) (d : Dev) (h : (d.fbp p).frameAt = none) : effFrameEnd p frame t mem d = d := by
  simp only [effFrameEnd, h]

/-- A frame with a wrong CRC fails with cause 2. -/
theorem effFrameEnd_badCrc (p frame t : Nat) (mem : Mem) (d : Dev) (hstart : (d.fbp p).frameAt ≠ none) (hmode : d.rd (fbMode p) = 4)
    (hcrc : d.frameOk p (frame % 2 ^ d.rd (fbSserLen p)) = false) :
    effFrameEnd p frame t mem d = (d.wr (fbSserFrame p) (frame % 2 ^ d.rd (fbSserLen p))).frameFail p 2 := by
  obtain ⟨q, hq⟩ := Option.ne_none_iff_exists'.mp hstart
  simp [effFrameEnd, hq, hmode, Dev.frameOk_wr_fbSserFrame, hcrc]

/-- The fields that the counter writes as it presents A (R234). -/
def presentFlds (p : Nat) : List Fld := [fbPos p, fbAtLimit p, pageEvent (.fb p), pageSticky (.fb p)]

/-- A beyond a bound is reported, and nothing else on the feedback side changes. -/
theorem Dev.rd_limitA (d : Dev) (p t : Nat) (a : Int) (f : Fld) (hf : f.pg.isFb = true) (h : f ∉ presentFlds p) :
    (d.limitA p t a).rd f = d.rd f := by
  simp only [presentFlds, List.mem_cons, List.not_mem_nil, or_false, not_or] at h
  obtain ⟨-, hlim, hev, hst⟩ := h
  have hreport : ∀ data, (((d.wr (fbAtLimit p) 1).ev (.fb p) 2).raisePort 0x1605 p data t false).rd f = d.rd f := fun data => by
    rw [Dev.rd_of_fbSide (Dev.fbSide_raisePort _ _ _ _ _ _) f hf, Dev.rd_ev_ne _ _ _ _ hev hst, Dev.rd_wr_ne _ _ _ _ (Ne.symm hlim)]
  unfold Dev.limitA
  split
  · exact hreport p
  · split
    · exact hreport (p + 256)
    · exact Dev.rd_wr_ne _ _ _ _ (Ne.symm hlim)

theorem Dev.fbp_limitA (d : Dev) (p t : Nat) (a : Int) (q : Nat) : (d.limitA p t a).fbp q = d.fbp q := by
  have hreport : ∀ data, (((d.wr (fbAtLimit p) 1).ev (.fb p) 2).raisePort 0x1605 p data t false).fbp q = d.fbp q := fun data => by
    rw [Dev.fbp_of_fbSide (Dev.fbSide_raisePort _ _ _ _ _ _)]
    simp [Dev.fbp]
  unfold Dev.limitA
  split
  · exact hreport p
  · split
    · exact hreport (p + 256)
    · rfl

theorem Dev.rd_presentA (d : Dev) (mem : Mem) (p t : Nat) (a : Int) (f : Fld) (hf : f.pg.isFb = true) (h : f ∉ presentFlds p) :
    (d.presentA mem p t a).rd f = d.rd f := by
  have hpos : fbPos p ≠ f := fun e => h (by simp [presentFlds, e])
  rw [Dev.presentA, Dev.rd_limitA _ _ _ _ f hf h, Dev.rd_of_fbSide (Dev.fbSide_counterTo _ _ _ _ _ _) f hf, Dev.wrS,
    Dev.rd_wr_ne _ _ _ _ hpos]

theorem Dev.fbp_presentA (d : Dev) (mem : Mem) (p t : Nat) (a : Int) (q : Nat) : (d.presentA mem p t a).fbp q = d.fbp q := by
  rw [Dev.presentA, Dev.fbp_limitA, Dev.fbp_of_fbSide (Dev.fbSide_counterTo _ _ _ _ _ _)]
  rfl

/-- The fields in which a good frame shows its direction and its speed (R232). -/
def frameSpeedFlds (p : Nat) : List Fld := [fbDir p, fbSpeed p, fbStill p, pageEvent (.fb p), pageSticky (.fb p)]

/-- The direction, its reversal, the speed and the end of STILL, in the order in which a good frame writes them (R232), leave every other
field alone. -/
theorem Dev.rd_frameSpeed (d : Dev) (p : Nat) (moved turned neg unstill : Bool) (v : Int) (g : FbPort → FbPort) (f : Fld)
    (h : f ∉ frameSpeedFlds p) :
    (((((d.when_ moved (fun d => d.wrB (fbDir p) neg)).when_ turned (fun d => d.ev (.fb p) 0)).wrSat (fbSpeed p) v).when_ unstill
      (fun d => d.wr (fbStill p) 0)).modFbp p g).rd f = d.rd f := by
  simp only [frameSpeedFlds, List.mem_cons, List.not_mem_nil, or_false, not_or] at h
  obtain ⟨hdir, hspeed, hstill, hev, hst⟩ := h
  rw [Dev.rd_modFbp, Dev.rd_when, Dev.rd_wr_ne _ _ _ _ (Ne.symm hstill), ite_self, Dev.wrSat, Dev.rd_wr_ne _ _ _ _ (Ne.symm hspeed),
    Dev.rd_when, Dev.rd_ev_ne _ _ _ _ hev hst, ite_self, Dev.rd_when, Dev.wrB, Dev.rd_wr_ne _ _ _ _ (Ne.symm hdir), ite_self]

/-- A good frame: the port presents its A, with FRAME_ERR clear, no run of errors and no frame in progress; the first one has validated
the position. -/
theorem effFrameEnd_good (p frame t : Nat) (mem : Mem) (d : Dev) (hp : p < 24) (hstart : (d.fbp p).frameAt ≠ none)
    (hmode : d.rd (fbMode p) = 4) (hwire : bitAt (d.rd (fbWire p)) 0 = false)
    (hcrc : d.frameOk p (frame % 2 ^ d.rd (fbSserLen p)) = true) :
    ∃ (e : Dev) (a : Int), effFrameEnd p frame t mem d = e.presentA mem p t a ∧ e.rd (fbFrameErr p) = 0 ∧
      ((d.fbp p).absA = none → e.rd (fbPosValid p) = 1) ∧ (e.fbp p).frameAt = none ∧ (e.fbp p).errRun = 0 := by
  obtain ⟨q, hq⟩ := Option.ne_none_iff_exists'.mp hstart
  have hwire' : bitAt ((d.wr (fbSserFrame p) (frame % 2 ^ d.rd (fbSserLen p))).rd (fbWire p)) 0 = false := by
    rw [Dev.rd_wr_ne _ _ _ _ (by simp [fbSserFrame, fbWire]), hwire]
  unfold effFrameEnd
  simp only [hq, hmode, Dev.frameOk_wr_fbSserFrame, hcrc, hwire', ne_eq, not_true_eq_false, if_false, Bool.not_true, Bool.false_or,
    Bool.false_eq_true]
  refine ⟨_, _, rfl, ?_, ?_, ?_, ?_⟩
  · rw [Dev.rd_frameSpeed _ _ _ _ _ _ _ _ _ (by simp [frameSpeedFlds, fbFrameErr, fbDir, fbSpeed, fbStill, pageEvent, pageSticky]), Dev.rd_when,
      Dev.rd_wr_ne _ _ _ _ (by simp [fbPosValid, fbFrameErr]), ite_self]
    exact Dev.rd_wr_same _ _ _
  · intro hfirst
    rw [Dev.rd_frameSpeed _ _ _ _ _ _ _ _ _ (by simp [frameSpeedFlds, fbPosValid, fbDir, fbSpeed, fbStill, pageEvent, pageSticky]), Dev.rd_when,
      if_pos (by rw [Dev.fbp_wr, hfirst]; rfl)]
    exact Dev.rd_wr_same _ _ _
  · rw [Dev.modFbp_fbp_eq _ _ _ hp]
  · rw [Dev.modFbp_fbp_eq _ _ _ hp]

/-! ### The statement -/

/-- Settles O31: a frame starts or fails as the data line says (`effFrameStart_high`, `effFrameStart_low`), and ends as its check says
(`effFrameEnd_badCrc`, `effFrameEnd_good`); what a failed frame leaves is `Dev.frameFail_outcome`. -/
theorem serialFrames : Obligations.SerialFrames := by
  intro s t p hs
  refine ⟨fun hmode hline => ?_, fun hmode hline => ?_, fun hmode => ?_, fun frame hstart => ?_, fun frame hstart hmode hcrc => ?_,
    fun frame hstart hmode hwire hcrc => ?_, fun h => ?_, fun h => ?_⟩
  · refine ⟨_, exec_sserFrameStart s t p hs, ?_⟩
    have hunit : ∀ q, s.dev.fbp q = (s.dev.at_ t).fbp q := fun q => rfl
    rw [effFrameStart_high p (s.when_ t) (s.dev.at_ t) hmode hline, Dev.keepAll_modFbp]
    simp only [hunit]
    generalize s.dev.at_ t = d
    exact ⟨Dev.modFbp_fbp_eq d p _ p.isLt, rfl, fun q hq => Dev.modFbp_fbp_ne d p q _ (Ne.symm hq)⟩
  · refine ⟨_, exec_sserFrameStart s t p hs, ?_⟩
    rw [effFrameStart_low p (s.when_ t) (s.dev.at_ t) hmode hline]
    simp only [Dev.rd_keepAll, Dev.fbp_keepAll, Dev.keepsRegs_keepAll]
    exact Dev.frameFail_outcome s.dev (s.dev.at_ t) p 1 [] p.isLt rfl rfl (fun _ _ => rfl)
  · exact exec_passed (f := effFrameStart p) hs rfl (if_pos hmode)
  · rw [exec_sserFrameEnd s t p frame hs, effFrameEnd_notStarted p frame (s.when_ t) s.mem (s.dev.at_ t) hstart, Dev.keepAll_self]
    rfl
  · refine ⟨_, exec_sserFrameEnd s t p frame hs, ?_⟩
    rw [effFrameEnd_badCrc p frame (s.when_ t) s.mem (s.dev.at_ t) hstart hmode hcrc]
    simp only [Dev.rd_keepAll, Dev.fbp_keepAll, Dev.keepsRegs_keepAll]
    exact Dev.frameFail_outcome s.dev _ p 2 [fbSserFrame p] p.isLt rfl (Dev.rd_wr_ne _ _ _ _ (by simp [fbSserFrame, fbSserErrs]))
      (fun f hf => Dev.rd_wr_ne _ _ _ _ fun e => hf (List.mem_singleton.mpr e.symm))
  · obtain ⟨e, a, heff, herr, hvalid, hframe, hrun⟩ :=
      effFrameEnd_good p frame (s.when_ t) s.mem (s.dev.at_ t) p.isLt hstart hmode hwire hcrc
    refine ⟨_, exec_sserFrameEnd s t p frame hs, ?_⟩
    rw [heff]
    simp only [Dev.rd_keepAll, Dev.fbp_keepAll, Dev.fbp_presentA]
    refine ⟨?_, fun hfirst => ?_, hframe, hrun⟩
    · rw [Dev.rd_presentA _ _ _ _ _ _ rfl (by simp [presentFlds, fbFrameErr, fbPos, fbAtLimit, pageEvent, pageSticky]), herr]
    · rw [Dev.rd_presentA _ _ _ _ _ _ rfl (by simp [presentFlds, fbPosValid, fbPos, fbAtLimit, pageEvent, pageSticky]), hvalid hfirst]
  · obtain ⟨d', hnext, hactive, -⟩ := gives_raisePort (c := .sserErrLimit t p) (f := effSserLimit p) hs rfl (if_pos h) (by decide)
    exact ⟨d', hnext, hactive⟩
  · exact exec_passed (f := effSserLimit p) hs rfl (if_neg h)

end Sys2Proof.Machine
end

section
/-! SUPPORT. A race of a bank whose race count stands at its ceiling (R403, R404), and the refutation of the statement on the
arbitration of the banks. -/
namespace Sys2Proof.Machine

/-- A running block with the ownership of reset (R397), whose bank 28 is ON and whose RACE_COUNT stands at its ceiling (R415). -/
def fullRaceCount : State :=
  { State.reset with dev := { ({} : Dev) with running := true, stepsDone := 7, regs := [(bnkPstate 28, 0), (bnkRaceCount, 0xFFFFFFFF)] } }

/-- The event unit, owner of bank 28, writes the bank's first word through port B. -/
def eventUnitWrite : PortAccess := { m := 7, write := true, a := 28 * bankSize, n := 4, v := 5, wait := 0, upset := none }

/-- Meridian, a reader of every bank, reads the same word through port A. -/
def meridianRead : PortAccess := { m := 1, write := false, a := 28 * bankSize, n := 4, v := 0, wait := 0, upset := none }

/-- The race sets the RACE event and is reported in BNK_RACE_LAST, but RACE_COUNT saturates: it stays at its ceiling (R404, R415). -/
theorem effBankAccess_race_fullRaceCount :
    let d := (effBankAccess [eventUnitWrite, meridianRead] 0 fullRaceCount.mem (fullRaceCount.dev.at_ 0)).1
    d.evBit .bnk 10 = true ∧ d.rd bnkRaceLater = 7 ∧ d.rd bnkRaceEarlier = 1 ∧ d.rd bnkRaceCount = 0xFFFFFFFF := by decide

/-- Refutes O50: its race clauses say that RACE_COUNT after a race is one more modulo 2^32, but the count saturates (R415), so that a race
at 2^32 − 1 leaves it there, where the statement wants 0 (`effBankAccess_race_fullRaceCount`). -/
theorem not_bankArbitration : ¬ Obligations.BankArbitration := by
  unfold Obligations.BankArbitration
  intro h
  have hready : fullRaceCount.ready 0 := by unfold State.ready; decide
  obtain ⟨-, hportB, -⟩ := h fullRaceCount 0 7 1 (28 * bankSize) 5 0 hready (by decide) (by decide) (by decide) (by decide) (by decide) (by decide)
  obtain ⟨d', m', hexec, -, -, -, hwraps, -⟩ :=
    hportB eventUnitWrite meridianRead rfl rfl (by decide) (by decide) (by decide) (by decide)
  have hnext : exec (.bankAccess 0 [eventUnitWrite, meridianRead]) fullRaceCount = _ :=
    onMem_next 0 fullRaceCount (fun t mem d => effBankAccess [eventUnitWrite, meridianRead] t mem d) hready
  have hdev := congrArg State.dev (Host.Outcome.next.inj (hexec.symm.trans hnext))
  obtain ⟨-, -, -, hfull⟩ := effBankAccess_race_fullRaceCount
  have hstays : d'.rd bnkRaceCount = 0xFFFFFFFF := (congrArg (Dev.rd · bnkRaceCount) hdev).trans hfull
  exact absurd (hwraps.symm.trans hstays) (by decide)

end Sys2Proof.Machine
end
